-- ==== Sys2Proof/Word.lean ====
section
/-! DEFINITION. The plainest data of the model: bytes, registers' words and sparse tables.
Every function over them that a rule of the spec could touch stands under Machine/. -/

namespace Sys2Proof

/-- One byte. -/
abbrev Byte := BitVec 8

/-- A 64-bit word: an instruction word, a scalar register, a BAR0 register. -/
abbrev Word := BitVec 64

/-- A sparse table: pairs of a key and a value, keys strictly rising, no entry equal to the table's default
(the default is an argument of the operations of Machine/Tab.lean). -/
abbrev Tab (α : Type) := List (Nat × α)

/-- A byte-addressed memory in canonical form; a byte that is not listed reads as 0 (see Machine/Tab.lean). -/
abbrev Mem := List (Nat × BitVec 8)

end Sys2Proof
end

