-- ==== Sys2Proof/Syntax.lean ====
section
/-! DEFINITION. The commands of the block: one constructor for each row of spec/opcode_table.json, and the operands
they carry. A command names the agent that performs it (an engine, a core, a queue, a port, a function: 0 is the
physical function, k is virtual function k); `dt` is the device time in ns that passes before it. -/

namespace Sys2Proof

/-- The engine that executes an instruction word: a pack slot of a core's SIMT engine, or a core's coach core. -/
inductive Eng where
  | simt (core slot : Nat)
  | coach (core : Nat)
  deriving DecidableEq, Repr

/-- How a frame of the management segment arrives (R349): untagged, of EtherType 0x88B5, to the module's own MAC address or
to the broadcast address; or as any other frame. -/
inductive Arrival where
  | own
  | broadcast
  | other
  deriving DecidableEq, Repr

/-- A request frame: its arrival, and the OP byte of its PDU where that cannot be parsed (R349, R353). -/
structure Frame where
  via : Arrival
  bad : Option Nat
  deriving DecidableEq, Repr

/-- Who sends a Ralxon request (R350, R358, R360): the mailbox, a session (its number, the request's SEQ, whether the
tag verifies), or a node of the segment without a session (its MAC address, the request's SEQ). -/
inductive Source where
  | mailbox
  | session (f : Frame) (n seq : Nat) (tagOk : Bool)
  | segment (f : Frame) (mac seq : Nat)
  deriving DecidableEq, Repr

/-- An item of a Ralxon PDU (R352): index, subindex, type code and data. -/
structure Item where
  index : Nat
  sub : Nat
  type : Nat
  data : List (BitVec 8)
  deriving DecidableEq, Repr

/-- Events that a counter site counted for an index (R288): the index, the event (`Site`), the die of the site, how many.
Indices: a meter index below 131,072; 131,072 + p for the unrequested index of partition p; 131,080 for the module index. -/
structure Activity where
  idx : Nat
  event : Nat
  die : Nat
  n : Nat
  deriving DecidableEq, Repr

/-- What the module measures in a frame (R282 to R284, R288, R436): the codes of the 2,000 pairs of voltage and current
samples of the inlet and the shunt's temperature; the energy of each rail in eu; the sensors (bit r rail r, bit 12 the
inlet) whose converter saturated, whose reading left its range, whose self-check failed; the counts of the sites the
model does not count itself; the frame's temperature in 1/16 °C and rail voltages in mV; the mean input voltage in mV; the
day, from 2000-01-01. -/
structure FrameRecord where
  samples : List (Nat × Nat)
  shunt : Int
  rails : List Nat
  saturated : Nat
  outOfRange : Nat
  badCheck : Nat
  counts : List Activity
  temp : Int
  mv : List Nat
  inputMv : Nat
  day : Nat
  deriving DecidableEq, Repr

/-- A receipt note (R304). -/
structure NoteMsg where
  reqid : Nat
  tenant : Nat
  module : Nat
  boot : Nat
  block : Nat
  hash : Nat
  status : Nat
  cls : Nat
  energy : Nat
  uncert : Nat
  deriving DecidableEq, Repr

/-- Outcome of a training attempt (R315): success with the FEC mode the far end asks for, or the step that failed. -/
inductive TrainResult where
  | done (peerFec : Nat)
  | failed (step : Nat)
  deriving DecidableEq, Repr

/-- A flit as received (R316, R318): header, payload after decryption, and the outcome of FEC, CRC and tag. -/
structure FlitIn where
  header : BitVec 64
  payload : List (BitVec 8)
  corrected : Bool
  crcOk : Bool
  tagOk : Bool
  deriving DecidableEq, Repr

/-- A beacon (R324); serials as little-endian numbers of 16 bytes. Of a received one `certOk` tells whether the check of its
certificate against the published roots succeeds (R322, R381; DESIGN CHOICE, log 81). -/
structure BeaconMsg where
  port : Nat
  variant : Nat
  units : Nat
  groupId : Nat
  boot : Nat
  serial : Nat
  root : Nat
  coord : Nat
  settled : Bool
  valid : Bool
  anchor : Bool
  links : Nat
  nonce : List (BitVec 8)
  eph : List (BitVec 8)
  cert : List (BitVec 8)
  certOk : Bool
  deriving DecidableEq, Repr

/-- A Cartal message as received whole, or ended by ABORT (R327). -/
structure MsgIn where
  kind : Nat
  src : Nat
  dst : Nat
  req : Bool
  srcPart : Nat
  handle : Nat
  len : Nat
  seq : Nat
  param : Nat
  reqid : Nat
  tenant : Nat
  reserved : Bool
  abort : Bool
  data : List (BitVec 8)
  deriving DecidableEq, Repr

/-- Results of the self-test (R384, R385): masks of failed cores, clusters and ports, whether any other unit failed, and
the test number of the first failure. -/
structure SelfTest where
  cores : Nat
  clusters : Nat
  ports : Nat
  other : Bool
  first : Nat
  deriving DecidableEq, Repr

/-- Outcome of a firmware image check (R378, R380). -/
inductive FwCheck where
  | accepted (version svn : Nat)
  | badSignature
  | badSvn
  | flashFailed
  deriving DecidableEq, Repr

/-- What start-up finds (R377): the outcome of each step. -/
structure PowerUpResult where
  /-- Whether slot A, slot B is accepted, with VERSION and SVN (R378). -/
  slotA : Option (Nat × Nat)
  slotB : Option (Nat × Nat)
  calOk : Bool
  /-- The first HSS reservations are written and verified (R301, R382). -/
  reserved : Bool
  railsOk : Bool
  trainOk : Bool
  test : SelfTest
  /-- A die read 115 °C during the steps. -/
  overTemp : Bool
  /-- Duration of the start-up, in ns from step 1. -/
  ns : Nat
  deriving DecidableEq, Repr

/-- A configuration request (R418, R420, R427, R430, R444): a read, or a write of one of the fields the rules name. -/
inductive CfgOp where
  | read (off : Nat)
  | msixEnable (b : Bool)
  | functionMask (b : Bool)
  | vfEnable (b : Bool) (num : Nat)
  | ptmEnable (b : Bool)
  | resizeBar4 (log2 : Nat)
  | other (off value : Nat)
  deriving DecidableEq, Repr

/-- Completion of a read of the module (R429). -/
inductive CplResult where
  | data (bytes : List (BitVec 8))
  | ur
  | ca
  | poisoned
  deriving DecidableEq, Repr

/-- What an LPDDR5X access serves (R208): a read for the packet n of queue q, a read for a cache fill or page map
walk of it, a write. -/
inductive XferCause where
  | readFor (q n : Nat)
  | fillFor (q n : Nat)
  | write
  deriving DecidableEq, Repr

/-- A request through the DOE mailbox (R431). -/
inductive DoeReq where
  | getCertificate
  | challenge (nonce : List (BitVec 8))
  | getMeasurements (nonce : List (BitVec 8))
  | ideProgram (stream rid : Nat) (bars : Nat)
  | ideStop (stream : Nat)
  | other
  deriving DecidableEq, Repr

/-- What the SECDED of the caches' arrays finds as a step uses them (R181): nothing, so many single-bit errors, or one it cannot
correct. -/
inductive ArrayError where
  | none
  | corrected (n : Nat)
  | uncorrectable
  deriving DecidableEq, Repr

/-- What comes beside the line of a Data message: DIRTY (R186), and what the arrays' SECDED met (R181). -/
structure DataMark where
  dirty : Bool
  err : ArrayError
  deriving DecidableEq, Repr

/-- A REKEY message (R323): the SEQ from which the fresh keys hold, and the peer's ephemeral key. -/
structure RekeyMsg where
  seq : Nat
  eph : List (BitVec 8)
  deriving DecidableEq, Repr

/-- The node of the management segment a HELLO or AUTH comes from (R358): the frame, its source MAC address, and SEQ. -/
structure Sender where
  frame : Frame
  mac : Nat
  seq : Nat
  deriving DecidableEq, Repr

/-- The commands. -/
inductive Instr where
  /-- IADD (R125): Vector integer add modulo 2^n per thread of the issue group. -/
  | iadd (e : Eng) (w : BitVec 64)
  /-- ISUB (R125): Vector integer subtract modulo 2^n per thread. -/
  | isub (e : Eng) (w : BitVec 64)
  /-- IMUL (R125): Vector integer multiply keeping the low n bits. -/
  | imul (e : Eng) (w : BitVec 64)
  /-- IMULH (R125): Signed integer multiply keeping the high 32 bits. -/
  | imulh (e : Eng) (w : BitVec 64)
  /-- IMULHU (R125): Unsigned integer multiply keeping the high 32 bits. -/
  | imulhu (e : Eng) (w : BitVec 64)
  /-- IMAD (R125): Integer multiply-add modulo 2^n. -/
  | imad (e : Eng) (w : BitVec 64)
  /-- AND (R125): Bitwise AND per thread. -/
  | and (e : Eng) (w : BitVec 64)
  /-- OR (R125): Bitwise OR per thread. -/
  | or (e : Eng) (w : BitVec 64)
  /-- XOR (R125): Bitwise XOR per thread. -/
  | xor (e : Eng) (w : BitVec 64)
  /-- SHL (R125): Shift left by b mod n. -/
  | shl (e : Eng) (w : BitVec 64)
  /-- SHR (R125): Logical shift right by b mod n. -/
  | shr (e : Eng) (w : BitVec 64)
  /-- SAR (R125): Arithmetic shift right by b mod n. -/
  | sar (e : Eng) (w : BitVec 64)
  /-- IMIN (R125): Signed integer minimum. -/
  | imin (e : Eng) (w : BitVec 64)
  /-- IMAX (R125): Signed integer maximum. -/
  | imax (e : Eng) (w : BitVec 64)
  /-- UMIN (R125): Unsigned integer minimum. -/
  | umin (e : Eng) (w : BitVec 64)
  /-- UMAX (R125): Unsigned integer maximum. -/
  | umax (e : Eng) (w : BitVec 64)
  /-- ISEQ (R125): Sets d to 1 if the operands are equal, else 0. -/
  | iseq (e : Eng) (w : BitVec 64)
  /-- ISNE (R125): Sets d to 1 if the operands differ, else 0. -/
  | isne (e : Eng) (w : BitVec 64)
  /-- ISLT (R125): Signed less-than compare. -/
  | islt (e : Eng) (w : BitVec 64)
  /-- ISLE (R125): Signed less-or-equal compare. -/
  | isle (e : Eng) (w : BitVec 64)
  /-- ISLTU (R125): Unsigned less-than compare. -/
  | isltu (e : Eng) (w : BitVec 64)
  /-- ISLEU (R125): Unsigned less-or-equal compare. -/
  | isleu (e : Eng) (w : BitVec 64)
  /-- SEL (R125): Selects a if c is non-zero, else b. -/
  | sel (e : Eng) (w : BitVec 64)
  /-- POPC (R125): Population count. -/
  | popc (e : Eng) (w : BitVec 64)
  /-- CLZ (R125): Count of leading zeros. -/
  | clz (e : Eng) (w : BitVec 64)
  /-- MOV (R125): Moves a register or immediate to d. -/
  | mov (e : Eng) (w : BitVec 64)
  /-- MOVS (R125): Moves a scalar register into a vector register. -/
  | movs (e : Eng) (w : BitVec 64)
  /-- SADD (R125): Scalar 64-bit add, once per issue group. -/
  | sadd (e : Eng) (w : BitVec 64)
  /-- SSUB (R125): Scalar subtract. -/
  | ssub (e : Eng) (w : BitVec 64)
  /-- SMUL (R125): Scalar multiply. -/
  | smul (e : Eng) (w : BitVec 64)
  /-- SAND (R125): Scalar bitwise AND. -/
  | sand (e : Eng) (w : BitVec 64)
  /-- SOR (R125): Scalar bitwise OR. -/
  | sor (e : Eng) (w : BitVec 64)
  /-- SXOR (R125): Scalar bitwise XOR. -/
  | sxor (e : Eng) (w : BitVec 64)
  /-- SSHL (R125): Scalar shift left. -/
  | sshl (e : Eng) (w : BitVec 64)
  /-- SSHR (R125): Scalar logical shift right. -/
  | sshr (e : Eng) (w : BitVec 64)
  /-- SSAR (R125): Scalar arithmetic shift right. -/
  | ssar (e : Eng) (w : BitVec 64)
  /-- SMOV (R125): Scalar move. -/
  | smov (e : Eng) (w : BitVec 64)
  /-- SSEQ (R125): Scalar equality compare. -/
  | sseq (e : Eng) (w : BitVec 64)
  /-- SSLT (R125): Scalar signed less-than compare. -/
  | sslt (e : Eng) (w : BitVec 64)
  /-- SSLTU (R125): Scalar unsigned less-than compare. -/
  | ssltu (e : Eng) (w : BitVec 64)
  /-- VTOS (R125): Copies the lowest lane's vector register into a scalar register. -/
  | vtos (e : Eng) (w : BitVec 64)
  /-- FADD (R125): Floating add with one rounding per RND. -/
  | fadd (e : Eng) (w : BitVec 64)
  /-- FSUB (R125): Floating subtract with one rounding. -/
  | fsub (e : Eng) (w : BitVec 64)
  /-- FMUL (R125): Floating multiply with one rounding. -/
  | fmul (e : Eng) (w : BitVec 64)
  /-- FFMA (R125): Fused multiply-add with one rounding. -/
  | ffma (e : Eng) (w : BitVec 64)
  /-- FMIN (R125): Floating minimum with canonical NaN. -/
  | fmin (e : Eng) (w : BitVec 64)
  /-- FMAX (R125): Floating maximum with canonical NaN. -/
  | fmax (e : Eng) (w : BitVec 64)
  /-- FSEQ (R125): FP32 equality compare. -/
  | fseq (e : Eng) (w : BitVec 64)
  /-- FSLT (R125): FP32 less-than compare. -/
  | fslt (e : Eng) (w : BitVec 64)
  /-- FSLE (R125): FP32 less-or-equal compare. -/
  | fsle (e : Eng) (w : BitVec 64)
  /-- FSUN (R125): FP32 unordered compare. -/
  | fsun (e : Eng) (w : BitVec 64)
  /-- FRCP (R125): FP32 reciprocal within 1 ulp. -/
  | frcp (e : Eng) (w : BitVec 64)
  /-- FRSQ (R125): FP32 reciprocal square root within 1 ulp. -/
  | frsq (e : Eng) (w : BitVec 64)
  /-- FEXP2 (R125): FP32 base-2 exponential within 2 ulp. -/
  | fexp2 (e : Eng) (w : BitVec 64)
  /-- FLOG2 (R125): FP32 base-2 logarithm within 2 ulp. -/
  | flog2 (e : Eng) (w : BitVec 64)
  /-- FSIN (R125): FP32 sine. -/
  | fsin (e : Eng) (w : BitVec 64)
  /-- FCOS (R125): FP32 cosine. -/
  | fcos (e : Eng) (w : BitVec 64)
  /-- CVT (R125): Converts a value between element formats by R43. -/
  | cvt (e : Eng) (w : BitVec 64)
  /-- RNDD (R127): Computes the counter-based random draw from a seed and counter. -/
  | rndd (e : Eng) (w : BitVec 64)
  /-- ITOF (R125): Converts INT32 to FP32. -/
  | itof (e : Eng) (w : BitVec 64)
  /-- FTOI (R125): Converts FP32 to INT32 with NaN to 0 and saturation. -/
  | ftoi (e : Eng) (w : BitVec 64)
  /-- LD (R129): Zero-extending load from device-virtual memory. -/
  | ld (e : Eng) (w : BitVec 64)
  /-- LDSX (R129): Sign-extending load from device-virtual memory. -/
  | ldsx (e : Eng) (w : BitVec 64)
  /-- ST (R129): Store into the pack store queue. -/
  | st (e : Eng) (w : BitVec 64)
  /-- LDS (R130): Load from team scratch. -/
  | lds (e : Eng) (w : BitVec 64)
  /-- STS (R130): Store to team scratch. -/
  | sts (e : Eng) (w : BitVec 64)
  /-- LINEZ (R177): Zeroes a 128 B line as a store without fetching it. -/
  | linez (e : Eng) (w : BitVec 64)
  /-- ATOM (R133): Combined atomic read-modify-write at the line's home atomic unit. -/
  | atom (e : Eng) (w : BitVec 64)
  /-- ATOMS (R133): Combined atomic on team scratch. -/
  | atoms (e : Eng) (w : BitVec 64)
  /-- LDX (R135): Load that takes a reservation on a 128 B granule. -/
  | ldx (e : Eng) (w : BitVec 64)
  /-- STX (R135): Store conditional on the thread's reservation. -/
  | stx (e : Eng) (w : BitVec 64)
  /-- FENCE (R160): Orders accesses by type and scope, draining the store queue. -/
  | fence (e : Eng) (w : BitVec 64)
  /-- FENCE_COMPLETE (R160): A fence's waits end and later accesses may proceed. -/
  | fenceComplete (e : Eng)
  /-- L1INV (R137): Writes back and invalidates the whole L1 data cache. -/
  | l1inv (e : Eng) (w : BitVec 64)
  /-- L1WB (R137): Writes back every dirty L1 line, keeping lines valid. -/
  | l1wb (e : Eng) (w : BitVec 64)
  /-- STORE_LEAVES_QUEUE (R157): A store leaves its pack store queue into L1 or the cluster cache. -/
  | storeLeavesQueue (e : Eng) (n : Nat)
  /-- HURDLE (R138): Threads arrive at a team hurdle and wait. -/
  | hurdle (e : Eng) (w : BitVec 64)
  /-- HARRIVE (R138): Threads arrive at a team hurdle and continue. -/
  | harrive (e : Eng) (w : BitVec 64)
  /-- SHFL (R149): Reads a register from another lane of the issue group. -/
  | shfl (e : Eng) (w : BitVec 64)
  /-- VOTE (R149): Any, all or ballot across the issue group. -/
  | vote (e : Eng) (w : BitVec 64)
  /-- LOOP (R147): Pushes a hardware loop level with a register trip count. -/
  | loop (e : Eng) (w : BitVec 64)
  /-- LOOPI (R147): Pushes a hardware loop level with an immediate trip count. -/
  | loopi (e : Eng) (w : BitVec 64)
  /-- BRA (R149): Conditional or unconditional relative branch. -/
  | bra (e : Eng) (w : BitVec 64)
  /-- JMPR (R149): Indirect jump to a register address. -/
  | jmpr (e : Eng) (w : BitVec 64)
  /-- CALL (R149): Relative call saving the return address. -/
  | call (e : Eng) (w : BitVec 64)
  /-- RET (R149): Return to a register address. -/
  | ret (e : Eng) (w : BitVec 64)
  /-- EXIT (R149): Thread exits, or an address program run returns and pushes its marker. -/
  | exit (e : Eng) (w : BitVec 64)
  /-- NOP (R149): Instruction that does nothing. -/
  | nop (e : Eng) (w : BitVec 64)
  /-- ASPUSH (R142): Coach core pushes a 16-byte descriptor onto the address stream. -/
  | aspush (e : Eng) (w : BitVec 64)
  /-- ASLVL (R142): Reads the address stream level. -/
  | aslvl (e : Eng) (w : BitVec 64)
  /-- BWAIT (R143): Issue group waits to take one unit of a baton. -/
  | bwait (e : Eng) (w : BitVec 64)
  /-- BSIG (R143): Issue group signals a baton with a count after ordering its accesses. -/
  | bsig (e : Eng) (w : BitVec 64)
  /-- SRD (R150): Reads a special register. -/
  | srd (e : Eng) (w : BitVec 64)
  /-- TEAM_START (R117): Starts the next team on the lowest-rank placement core with room. -/
  | teamStart (launch : Nat)
  /-- KERNEL_BOUNDARY (R174): After a kernel's last team, drains queues, writes back and invalidates L1. -/
  | kernelBoundary (core : Nat)
  /-- KERNEL_COMPLETE (R118): Kernel completes once all teams ended and boundary write-backs are acknowledged. -/
  | kernelComplete (launch : Nat)
  /-- KERNEL_WATCHDOG_EXPIRY (R152): A thread's hurdle or BWAIT wait exceeds KERNEL_WATCHDOG and the kernel faults. -/
  | kernelWatchdogExpiry (core : Nat) (dt : Nat)
  /-- LAP_LOAD (R77): Reads and checks the whole lap before any core runs it. -/
  | lapLoad (launch : Nat)
  /-- LAP_NOP (R82): Lap NOP completes at dispatch. -/
  | lapNop (core : Nat)
  /-- MM (R56): A matrix command issues when all gating checks hold and streams to completion. -/
  | mm (core : Nat)
  /-- STATIONARY_LOAD (R54): The loader starts filling the shadow bank with a stationary tile. -/
  | stationaryLoad (core : Nat)
  /-- STATIONARY_LOAD_COMPLETE (R54): A 64-cycle stationary load finishes in the shadow bank. -/
  | stationaryLoadComplete (core : Nat)
  /-- MM_RETIRE (R64): A command retires: outputs resident, health counts written, glint reported, operands freed. -/
  | mmRetire (core : Nat)
  /-- CHECKSUM_MISMATCH (R66): A product or hold check mismatch faults the command, discards its outputs and stops the lap. -/
  | checksumMismatch (core : Nat) (product : Bool) (row tile : Nat)
  /-- LOAD (R90): Feeder begins a LOAD, consuming descriptors and moving data into the tile store. -/
  | load (core : Nat)
  /-- LOAD_COMPLETE (R85): A LOAD's last byte is in the tile store. -/
  | loadComplete (core : Nat)
  /-- STORE (R90): Feeder begins a STORE, consuming descriptors and writing tile-store data to memory. -/
  | store (core : Nat)
  /-- STORE_COMPLETE (R85): Memory acknowledges a STORE's last write. -/
  | storeComplete (core : Nat)
  /-- FEEDER_PAGE_FAULT (R92): A feeder transfer reaches an untranslatable page and faults PAGE_FAULT. -/
  | feederPageFault (core : Nat)
  /-- SCALE (R82): Feeder writes an FP32 coarse-scale word into the tile store. -/
  | scale (core : Nat)
  /-- WAITB (R87): Lap waits on a baton before later commands begin. -/
  | waitb (core : Nat)
  /-- SIGB (R87): Lap signals a baton once earlier commands have completed. -/
  | sigb (core : Nat)
  /-- HEALTH_STORE (R108): Writes health slots to memory through one raw descriptor. -/
  | healthStore (core : Nat)
  /-- HEALTH_CLEAR (R108): Closes steps in slots with commands and zeroes their counters. -/
  | healthClear (core : Nat)
  /-- HEALTH_SUM (R108): Combines a slot range into a target slot. -/
  | healthSum (core : Nat)
  /-- ADDRESS_PROGRAM_RUN (R91): Coach core starts the address program run for the next replay. -/
  | addressProgramRun (core : Nat)
  /-- MARKER_POP (R91): A replay's boundary marker is popped, faulting DESC_EXCESS if a descriptor is at the head. -/
  | markerPop (core : Nat)
  /-- LIST_FETCH (R93): A lap list block fetch returns into the core's lap list cache. -/
  | listFetch (core block : Nat)
  /-- PACED_BROADCAST (R94): Sequencer broadcasts the next lap command to the placement cores. -/
  | pacedBroadcast (launch : Nat)
  /-- PACED_READY (R94): A core raises READY for the next MM. -/
  | pacedReady (core : Nat)
  /-- PACED_GO (R94): Sequencer raises GO once every core's READY is seen. -/
  | pacedGo (launch : Nat)
  /-- LAP_WATCHDOG_EXPIRY (R98): No command completed for LAP_WATCHDOG; the lap stops WATCHDOG with a cause. -/
  | lapWatchdogExpiry (core : Nat) (dt : Nat)
  /-- LAP_LAUNCH_COMPLETE (R97): All placement cores have completed or drained and stores are acknowledged. -/
  | lapLaunchComplete (launch : Nat)
  /-- SLOT_DATA_WRITE (R109): Software writes a health slot word, ignored with WERR while a lap runs. -/
  | slotDataWrite (fn core word value : Nat)
  /-- INJECT_PRODUCT (R72): MTX_INJECT flips one bit in the next product check. -/
  | injectProduct (core : Nat)
  /-- INJECT_CELL (R72): MTX_INJECT flips one cell register bit after the next load. -/
  | injectCell (core : Nat)
  /-- RS_COUNTER_READ (R11): A read of an RS counter returns and clears it. -/
  | rsCounterRead (fn off size : Nat)
  /-- REGISTER_WRITE (R424): A write to a register with no behaviour of its own, checked for owner, size and offset. -/
  | registerWrite (fn off size value : Nat) (ep : Bool)
  /-- RDS (R193): Home receives a read-shared request. -/
  | rds (home line req : Nat)
  /-- RDX (R193): Home receives a read-with-ownership request. -/
  | rdx (home line req : Nat)
  /-- UPG (R193): Home receives an upgrade request for a line held S or O. -/
  | upg (home line req : Nat)
  /-- CLAIMZ (R193): Home receives an ownership-without-data request. -/
  | claimz (home line req : Nat)
  /-- RDCUR (R193): Home receives a non-caching current-data read. -/
  | rdcur (home line req : Nat)
  /-- WRNC (R193): Home receives a non-caching write. -/
  | wrnc (home line req : Nat) (bytes : List (Nat × BitVec 8))
  /-- PUTM (R193): Home receives a write-back of an M line. -/
  | putm (home line req data : Nat)
  /-- PUTO (R193): Home receives a write-back of an O line. -/
  | puto (home line req data : Nat)
  /-- FWDS (R192): Owner receives a forward to send a shareable copy. -/
  | fwds (agent line req : Nat)
  /-- FWDX (R192): Owner receives a forward to send line and ownership. -/
  | fwdx (agent line req : Nat)
  /-- FWDCUR (R192): Owner receives a forward to send current data. -/
  | fwdcur (agent line req : Nat)
  /-- INV (R192): Holder receives an invalidation. -/
  | inv (agent line req : Nat)
  /-- RECALL (R192): Holder receives a directory recall. -/
  | recall (agent line : Nat)
  /-- DATAG (R192): Requester receives data with its grant from the home. -/
  | datag (agent line data install acks : Nat)
  /-- GRANT (R192): Requester receives a grant without data. -/
  | grant (agent line install acks : Nat)
  /-- DATA (R192): Requester receives the line from an owner or the home. -/
  | data (agent line src data : Nat) (mark : DataMark)
  /-- FWDMISS (R188): Home receives notice that a forwarded agent holds no copy. -/
  | fwdmiss (home line src : Nat)
  /-- RECALLDATA (R184): Home receives dirty data answering a Recall. -/
  | recalldata (home line src data : Nat)
  /-- WBACK (R191): Evicting owner receives acknowledgement of its Put and frees its buffer. -/
  | wback (agent line : Nat) (stale : Bool)
  /-- DONENC (R187): Requester receives completion of a non-caching access. -/
  | donenc (agent line : Nat)
  /-- INVACK (R187): Requester or home receives an invalidation acknowledgement. -/
  | invack (toHome : Bool) (dst line src : Nat)
  /-- COMPACK (R187): Home receives transaction completion and frees the busy line. -/
  | compack (home line src : Nat) (dirty : Bool)
  /-- HOLD_TIME_END (R189): A line's hold time ends and parked forwards are answered. -/
  | holdTimeEnd (agent line : Nat)
  /-- AGENT_SILENT_TIMEOUT (R196): A message or heartbeat owed for 1 ms makes an agent silent and fails coherence. -/
  | agentSilentTimeout (agent line cls dt : Nat)
  /-- DIR_PROBE (R199): Reads a line's directory entry into CCH_DIR_RESULT. -/
  | dirProbe (fn pa : Nat)
  /-- RS_PATROL (R204): Daily patrol reads and corrects every resident store word. -/
  | rsPatrol (corrected : Nat) (bad : Option Nat)
  /-- CLEARING_COMPLETE (R221): A slice or unit finishes zeroing and its CLEARING bit clears. -/
  | clearingComplete (slice : Bool) (n : Nat)
  /-- CHANNEL_HOT (R207): A channel becomes hot and doubles refresh. -/
  | channelHot (channel : Nat)
  /-- CHANNEL_COOL (R207): A hot channel has been below both limits for 64 ms and returns to normal refresh. -/
  | channelCool (channel dt : Nat)
  /-- MAP_READ (R216): Copies a page map entry into the data registers. -/
  | mapRead (fn p : Nat)
  /-- MAP_WRITE (R215): Checks and writes a page map entry, then invalidates cached translations. -/
  | mapWrite (fn p : Nat)
  /-- TRANSLATION_WALK (R212): A translation cache miss walks up to four bucket lines. -/
  | translationWalk (holder p ctx va : Nat)
  /-- BAR4_WRITE (R218): A host or peer write through BAR4 is translated and performed. -/
  | bar4Write (fn off : Nat) (bytes : List (BitVec 8)) (ep : Bool)
  /-- BAR4_READ (R218): A host or peer read through BAR4 is translated and completed. -/
  | bar4Read (fn off len : Nat)
  /-- QUEUE_READ (R254): Copies a queue descriptor into STR_Q_DATA. -/
  | queueRead (fn p : Nat)
  /-- QUEUE_WRITE (R226): Replaces a DISABLED queue's descriptor. -/
  | queueWrite (fn p : Nat)
  /-- QUEUE_ENABLE (R226): Checks the descriptor and moves the queue to RUNNING. -/
  | queueEnable (fn p : Nat)
  /-- QUEUE_DISABLE (R226): Stops fetching and moves the queue to DRAINING or DISABLED. -/
  | queueDisable (fn p : Nat)
  /-- QUEUE_RESUME (R226): Restarts a STOPPED queue at HEAD, restamping its packets. -/
  | queueResume (fn p : Nat)
  /-- STR_DB_TAIL (R227): Doorbell sets a new TAIL, or a periodic list. -/
  | strDbTail (fn q value : Nat)
  /-- STR_DB_CQHEAD (R227): Software reports completion records consumed. -/
  | strDbCqhead (fn q value : Nat)
  /-- STR_RING (R228): Device-side doorbell acting as STR_DB_TAIL of a named queue. -/
  | strRing (fn p value : Nat)
  /-- PACKET_DECODE (R232): A control core decodes and checks a packet. -/
  | packetDecode (q : Nat)
  /-- SCHEDULER_PASS (R243): Orders a partition's candidates and starts packets whose resources are free. -/
  | schedulerPass (p : Nat)
  /-- NOP_PACKET (R241): NOP packet completes as it starts. -/
  | nopPacket (q : Nat)
  /-- TIMESTAMP (R241): Writes the device time of its start to memory. -/
  | timestamp (q : Nat)
  /-- LAUNCH_KERNEL (R234): Starts a kernel launch on its placement cores. -/
  | launchKernel (q : Nat)
  /-- LAUNCH_LAP (R235): Starts a lap invocation on its placement cores. -/
  | launchLap (q : Nat)
  /-- COPY (R236): DMA engine copies a range. -/
  | copy (q : Nat)
  /-- FILL (R236): DMA engine fills a range with a pattern. -/
  | fill (q : Nat)
  /-- WAIT_FENCE (R237): Packet completes when its fence waits are met. -/
  | waitFence (q : Nat)
  /-- SIGNAL_FENCE (R238): Performs SET, ADD or ERROR updates on fences. -/
  | signalFence (q : Nat)
  /-- WAIT_BATON (R237): Takes one unit of each named baton in one instant. -/
  | waitBaton (q : Nat)
  /-- SIGNAL_BATON (R238): Adds counts to batons, releasing waiters. -/
  | signalBaton (q : Nat)
  /-- OPEN_REQUEST (R240): Opens or joins a request as the queue's current request. -/
  | openRequest (q : Nat)
  /-- CLOSE_REQUEST (R240): Detaches the queue from its current request. -/
  | closeRequest (q : Nat)
  /-- SEND_MESSAGE (R328): Sends a Cartal message of the given kind. -/
  | sendMessage (q : Nat)
  /-- PACKET_COMPLETE (R248): A packet completes; its record, interrupt and queue effects follow. -/
  | packetComplete (q n : Nat)
  /-- DEADLINE_EXPIRY (R246): A non-periodic packet's DEADLINE passes and it is dropped, maybe entering skip mode. -/
  | deadlineExpiry (q n dt : Nat)
  /-- WAIT_TIMEOUT (R230): A packet waits longer than WAIT_LIMIT and completes WAIT_TIMEOUT. -/
  | waitTimeout (q dt : Nat)
  /-- PERIOD_START (R244): A periodic queue begins its list for period k. -/
  | periodStart (q dt : Nat)
  /-- PERIOD_DEADLINE (R245): Period k has not ended at D_k and is dropped. -/
  | periodDeadline (q dt : Nat)
  /-- CONTEXT_CREATE (R260): Moves a FREE context to LIVE. -/
  | contextCreate (fn p : Nat)
  /-- CONTEXT_DESTROY (R261): Begins the forced abort of a LIVE context. -/
  | contextDestroy (fn p : Nat)
  /-- CONTEXT_READ (R259): Reads a context's state. -/
  | contextRead (fn p : Nat)
  /-- CONTEXT_DEFUNCT (R261): The forced abort completes and the context becomes DEFUNCT. -/
  | contextDefunct (ctx dt : Nat)
  /-- MAP_SCAN_COMPLETE (R262): The post-abort page map scan ends, letting the context become FREE. -/
  | mapScanComplete (ctx : Nat)
  /-- MOBJ_CREATE (R264): Records a memory object and moves it to LIVE. -/
  | mobjCreate (fn p : Nat)
  /-- MOBJ_DESTROY (R264): Moves a memory object to FREEING with stamp F. -/
  | mobjDestroy (fn p : Nat)
  /-- MOBJ_READ (R259): Reads a memory object's state and stamp. -/
  | mobjRead (fn p : Nat)
  /-- MOBJ_RELEASE (R264): No packet stamped F or lower remains; pages are unmapped and the slot freed. -/
  | mobjRelease (obj : Nat)
  /-- FENCE_CREATE (R259): Creates a fence with initial value and exports. -/
  | fenceCreate (fn p : Nat)
  /-- FENCE_SIGNAL (R267): Management SIGNAL of a fence with the owner's right. -/
  | fenceSignal (fn p : Nat)
  /-- FENCE_SETEXP (R268): Sets a fence's two export words. -/
  | fenceSetexp (fn p : Nat)
  /-- FENCE_READ (R259): Reads a fence's value, state and exports. -/
  | fenceRead (fn p : Nat)
  /-- FENCE_DESTROY (R270): Sets error, releases waiters with DEP_ERROR and frees the fence. -/
  | fenceDestroy (fn p : Nat)
  /-- BATON_CREATE (R271): Creates a baton of CORE or MODULE scope. -/
  | batonCreate (fn p : Nat)
  /-- BATON_SIGNAL (R273): Management SIGNAL adds a count to a baton. -/
  | batonSignal (fn p : Nat)
  /-- BATON_READ (R259): Reads a baton's value, state and waiters. -/
  | batonRead (fn p : Nat)
  /-- BATON_DESTROY (R275): Frees a baton; its waiters complete DEP_ERROR. -/
  | batonDestroy (fn p : Nat)
  /-- REQUEST_READ (R259): Reads a request slot. -/
  | requestRead (fn p : Nat)
  /-- FRAME_END (R290): At each 1 ms frame boundary the frame's energy is attributed exactly. -/
  | frameEnd (rec : FrameRecord)
  /-- LEDGER_BLOCK (R296): Marshal builds and signs a ledger block for 100 frames. -/
  | ledgerBlock
  /-- HSS_RESERVATION_WRITE (R301): Extends the HSS index reservation in module flash. -/
  | hssReservationWrite (ok : Bool)
  /-- HSS_RESERVATION_RETRY (R301): Retries a failed reservation write every 10 ms. -/
  | hssReservationRetry (ok : Bool) (dt : Nat)
  /-- RECEIPT_RING_WRITE (R303): Writes a waiting entry into a receipt or host ring when room exists. -/
  | receiptRingWrite (ring : Nat)
  /-- MTR_RING_CMD (R310): Enables a receipt ring and clears RING_FAULT. -/
  | mtrRingCmd (fn p value : Nat)
  /-- NOTE (R305): Receipt anchor receives a receipt note. -/
  | note (port : Nat) (msg : MsgIn)
  /-- NOTE_RESEND (R304): A sender repeats an unacknowledged receipt note. -/
  | noteResend (n dt : Nat)
  /-- GROUP_RECEIPT (R305): Anchor issues a group receipt for a key after GROUP_WAIT. -/
  | groupReceipt (reqid tenant dt : Nat)
  /-- LINK_TRAINING (R315): A port runs a training attempt through steps 1 to 5. -/
  | linkTraining (port : Nat) (result : TrainResult)
  /-- TRAINING_STEP_TIMEOUT (R315): A training step overruns its limit and the attempt fails. -/
  | trainingStepTimeout (port step dt : Nat)
  /-- TRAINING_BACKOFF_END (R315): The 1 s wait after 3 failed attempts ends and training retries. -/
  | trainingBackoffEnd (port dt : Nat)
  /-- LANE_LOCK_LOSS (R315): A lane loses lock and the port retrains from step 3. -/
  | laneLockLoss (port : Nat)
  /-- FLIT_SEND (R334): An output port chooses and sends its next flit. -/
  | flitSend (port : Nat)
  /-- FLIT_RECEIVE (R318): A flit is accepted or discarded with NAK; credits and ACKs are processed. -/
  | flitReceive (port : Nat) (flit : FlitIn)
  /-- REPLAY_TIMEOUT (R318): No ACK for 2 µs; the sender resends from the oldest unacknowledged flit. -/
  | replayTimeout (port dt : Nat)
  /-- BEACON (R325): A received beacon updates coordinates and discovery state. -/
  | beacon (port : Nat) (beacon : BeaconMsg)
  /-- BEACON_SEND (R324): A port sends its periodic beacon. -/
  | beaconSend (port dt : Nat)
  /-- FINISH (R322): A peer's FINISH signature, of halves r and s, is verified and session keys derived. -/
  | finish (port : Nat) (sigR sigS : List (BitVec 8))
  /-- AUTH_TIMEOUT (R322): Authentication not complete within 100 ms; the port goes DOWN. -/
  | authTimeout (port dt : Nat)
  /-- REKEY (R323): Fresh ECDH rekey after 2^40 flits or 24 hours. -/
  | rekey (port : Nat) (msg : RekeyMsg)
  /-- DISCOVERY_SETTLE (R325): Coordinates unchanged for DISC_SETTLE; the module is settled and topology written. -/
  | discoverySettle (dt : Nat)
  /-- PEER_LOST (R320): A destination unreachable for 1 ms is lost; messages fail and import fences take error. -/
  | peerLost (m dt : Nat)
  /-- SEND (R330): Receiver writes a SEND into its receive queue. -/
  | send (port : Nat) (msg : MsgIn)
  /-- RWRITE (R331): Receiver's DMA engine writes into a registered window. -/
  | rwrite (port : Nat) (msg : MsgIn)
  /-- FENCE_RELAY (R269): Receiver applies or ignores a fence relay. -/
  | fenceRelay (port : Nat) (msg : MsgIn)
  /-- REDUCE (R336): A relay-reduction contribution is added in the port logic. -/
  | reduce (port : Nat) (msg : MsgIn)
  /-- REDUCE_RESULT (R336): The collective's result lands and the REDUCE packet completes. -/
  | reduceResult (handle : Nat)
  /-- GATEWAY (R340): A group window write acts as a write of the member's physical function. -/
  | gateway (port : Nat) (msg : MsgIn)
  /-- HOSTWRITE (R339): Host anchor performs a leg's posted write or interrupt. -/
  | hostwrite (port : Nat) (msg : MsgIn)
  /-- E2E_ACK (R321): Sender receives an end-to-end acknowledgement with a result. -/
  | e2eAck (dst seq result bytes : Nat)
  /-- E2E_RESEND_TIMEOUT (R321): No acknowledgement in 50 µs; the message is resent or fails after 4. -/
  | e2eResendTimeout (dst seq dt : Nat)
  /-- RNR_RESEND (R332): A not-ready message is resent every 2 µs. -/
  | rnrResend (dst seq dt : Nat)
  /-- RNR_LIMIT_EXPIRY (R332): RNR_LIMIT passes and the message fails RQ_FULL. -/
  | rnrLimitExpiry (dst seq dt : Nat)
  /-- COLL_TIMEOUT (R338): A contribution has not arrived within COLL_TIMEOUT; the collective fails. -/
  | collTimeout (handle dt : Nat)
  /-- QUARANTINE_END (R342): QUAR_TIME ends and the port may train again. -/
  | quarantineEnd (port dt : Nat)
  /-- QUARANTINE_COUNT_CLEAR (R342): After an hour UP the quarantine count clears. -/
  | quarantineCountClear (port dt : Nat)
  /-- DEVICE_TIME_MESSAGE (R339): A leg sets its device time from the host anchor's CTL message. -/
  | deviceTimeMessage (src time rtt : Nat)
  /-- REGISTER_RQ (R329): Registers a receive queue handle. -/
  | registerRq (fn p : Nat)
  /-- REGISTER_WINDOW (R329): Registers a remote-write window handle. -/
  | registerWindow (fn p : Nat)
  /-- REGISTER_COLL (R335): Registers a collective handle. -/
  | registerColl (fn p : Nat)
  /-- HANDLE_RELEASE (R329): Frees a handle after started messages complete. -/
  | handleRelease (fn p : Nat)
  /-- HANDLE_READ (R348): Reads a handle's registration. -/
  | handleRead (fn p : Nat)
  /-- LNK_RQ_DB (R330): Consumer reports receive queue entries consumed. -/
  | lnkRqDb (fn p value : Nat)
  /-- RETRAIN (R347): LNK_CMD forces a port to retrain. -/
  | retrain (fn port : Nat)
  /-- UNQUARANTINE (R342): LNK_CMD clears a port's quarantine count. -/
  | unquarantine (fn port : Nat)
  /-- LNK_GW_DB (R340): Rings a doorbell of group member m through the window. -/
  | lnkGwDb (fn m value : Nat)
  /-- GW_REG_READ (R340): Reads 8 B of a member's BAR0 through the group window. -/
  | gwRegRead (fn m : Nat)
  /-- GW_REG_WRITE (R340): Writes 8 B of a member's BAR0 through the group window. -/
  | gwRegWrite (fn m : Nat)
  /-- GW_APERTURE_WRITE (R340): Writes a member's LPDDR5X through the group window aperture. -/
  | gwApertureWrite (fn m off : Nat) (bytes : List (BitVec 8))
  /-- READ (R352): Ralxon READ of dictionary entries. -/
  | read (src : Source) (shadow : Bool) (items : List Item)
  /-- WRITE (R355): All-or-nothing Ralxon WRITE of entries. -/
  | write (src : Source) (items : List Item)
  /-- CHECK (R363): Tests the shadow set against all rules. -/
  | check (src : Source)
  /-- APPLY (R365): Accepts a checked shadow set for the next frame boundary. -/
  | apply (src : Source)
  /-- APPLY_BOUNDARY (R365): At the frame boundary re-checks and commits every staged entry at once. -/
  | applyBoundary
  /-- DISCARD (R362): Discards the shadow set and releases ownership. -/
  | discard (src : Source)
  /-- READ_JOURNAL (R367): Returns held journal entries. -/
  | readJournal (src : Source) (start count : Nat)
  /-- HELLO (R358): Opens a session exchange with an ephemeral key. -/
  | hello (src : Sender) (principal : Nat) (key : List (BitVec 8))
  /-- AUTH (R358): Verifies the principal's signature and opens the session. -/
  | auth (src : Sender) (session : Nat) (sig : List (BitVec 8)) (dt : Nat)
  /-- CLOSE (R358): Closes a session. -/
  | close (src : Source)
  /-- SESSION_IDLE_EXPIRY (R358): A session idle for SESSION_IDLE seconds closes. -/
  | sessionIdleExpiry (session dt : Nat)
  /-- MAC_LOCKOUT_END (R358): A locked-out MAC address is accepted again after 60 s. -/
  | macLockoutEnd (mac dt : Nat)
  /-- DEFAULTS (R357): Stages every RW-S default into the shadow set. -/
  | defaults (src : Source)
  /-- CONFIG_STORE_WRITE (R366): Writes the configuration store to flash, retrying on failure. -/
  | configStoreWrite (ok : Bool) (dt : Nat)
  /-- ALARM_ACK (R368): Clears latched alarm bits whose condition has ended. -/
  | alarmAck (src : Source) (mask : Nat)
  /-- MAILBOX_SUBMIT (R376): Submits a PDU through the PCIe mailbox. -/
  | mailboxSubmit (fn len : Nat)
  /-- FW_CHUNK (R380): Loads a chunk of firmware image into the unused slot. -/
  | fwChunk (src : Source) (off : Nat) (bytes : List (BitVec 8))
  /-- FW_COMMIT (R380): Starts the check of the loaded firmware image. -/
  | fwCommit (src : Source) (len : Nat)
  /-- FW_CHECK_COMPLETE (R380): The firmware image check ends and FW_STATE is set. -/
  | fwCheckComplete (result : FwCheck)
  /-- FW_SVN_COMMIT (R380): Raises FW_SVN_MIN to the running SVN. -/
  | fwSvnCommit (src : Source)
  /-- ATTEST_NONCE (R383): Produces a signed attestation report. -/
  | attestNonce (src : Source) (nonce : List (BitVec 8))
  /-- POWER_CAP_TICK (R371): Every 10 µs the power cap adjusts the core clock step. -/
  | powerCapTick (p100 p10m : Nat)
  /-- DROOP_DETECT (R370): An island's supply droops and its clock stretches. -/
  | droopDetect (kind island : Nat)
  /-- DROOP_RECOVER (R370): Supply above threshold for 32 cycles; the clock returns. -/
  | droopRecover (kind island ns : Nat)
  /-- THERMAL_TICK (R372): Thermal control lowers or raises the clock ceiling one step. -/
  | thermalTick (hottest : Int) (dt : Nat)
  /-- THERMAL_TRIP (R372): A sensor reads 115 °C, a module-fatal fault. -/
  | thermalTrip (sensor : Nat) (temp : Int)
  /-- REGULATOR_FAULT (R395): A rail out of tolerance for 100 µs stops the module. -/
  | regulatorFault (rail : Nat)
  /-- MARSHAL_WATCHDOG (R395): No metering frame closed for 50 ms; module-fatal and marshal restart. -/
  | marshalWatchdog (dt : Nat)
  /-- POWER_UP (R377): Input enters range and the module runs start-up steps 1 to 7. -/
  | powerUp (result : PowerUpResult)
  /-- STARTUP_STEP_TIMEOUT (R377): A start-up step overruns its limit and start-up stops in a failure state. -/
  | startupStepTimeout (step : Nat)
  /-- HIF_RESET (R386): A write of 1 starts a module reset. -/
  | hifReset (fn value : Nat) (test : SelfTest)
  /-- RESET_N (R413): RESET_N low for 10 µs starts a module reset; shorter pulses are counted. -/
  | resetN (ns : Nat) (test : SelfTest)
  /-- RESET_N_RELEASE (R413): RESET_N goes high, letting a held reset pass its step 3. -/
  | resetNRelease
  /-- POWER_DOWN (R389): Starts an orderly power-down. -/
  | powerDown (src : Source)
  /-- INPUT_UNDERVOLTAGE (R435): Input below 57 V for 1 ms starts a power-fail power-down. -/
  | inputUndervoltage (dt : Nat)
  /-- INPUT_OVERVOLTAGE (R435): Input above 84 V for 50 µs opens the disconnect and powers down. -/
  | inputOvervoltage (us : Nat)
  /-- INPUT_VOLTAGE_MARGINAL (R435): Input enters or leaves the marginal band, raising or ending alarm 22. -/
  | inputVoltageMarginal (mv : Nat)
  /-- INPUT_REMOVED (R435): Input below 20 V for 100 ms arms a restart. -/
  | inputRemoved (dt : Nat)
  /-- FLT_TAIL_WRITE (R396): Software reports fault records consumed, subject to acceptance. -/
  | fltTailWrite (fn p value : Nat)
  /-- TRACE_DRAIN (R402): The trace drain empties a buffer into partition and host rings. -/
  | traceDrain (buffer dt : Nat)
  /-- TRACE_TAIL_WRITE (R403): Software reports trace records consumed, subject to acceptance. -/
  | traceTailWrite (fn ring value : Nat)
  /-- TRACE_RING_ENABLE (R416): Checks a trace ring's configuration and turns it ON. -/
  | traceRingEnable (fn ring : Nat)
  /-- TRACE_RING_DISABLE (R416): Turns a trace ring OFF. -/
  | traceRingDisable (fn ring : Nat)
  /-- ITRACE_COPY (R408): Sends held instruction trace records to the host ring. -/
  | itraceCopy (fn : Nat)
  /-- FREEZE (R410): Register holder freezes the counters. -/
  | freeze (fn : Nat)
  /-- UNFREEZE (R416): Releases every freeze holder. -/
  | unfreeze (fn : Nat)
  /-- FREEZE_IN_RISE (R411): An accepted rising edge of FREEZE_IN takes the pin holder. -/
  | freezeInRise (dt : Nat)
  /-- FREEZE_IN_FALL (R411): A falling edge releases the pin holder and lifts any mask. -/
  | freezeInFall (dt : Nat)
  /-- FREEZE_IN_STUCK (R411): FREEZE_IN high for over 1 s masks the pin. -/
  | freezeInStuck (dt : Nat)
  /-- GROUP_FREEZE_MESSAGE (R412): A received FREEZE message takes the group holder. -/
  | groupFreezeMessage (origin id time : Nat)
  /-- GROUP_UNFREEZE_MESSAGE (R412): A matching UNFREEZE message releases the group holder. -/
  | groupUnfreezeMessage (origin id : Nat)
  /-- PTM_DIALOGUE (R430): A PTM dialogue measures and slews device time error. -/
  | ptmDialogue (master dt : Nat)
  /-- PTM_SET (R430): Steps device time to PTM Master Time plus offset at the next dialogue. -/
  | ptmSet (fn : Nat)
  /-- PCIE_FUNDAMENTAL_RESET (R420): Fundamental or hot reset or link down causes a module reset. -/
  | pcieFundamentalReset (test : SelfTest)
  /-- PF_FLR (R420): Function level reset of the PF causes a module reset. -/
  | pfFlr (test : SelfTest)
  /-- VF_FLR (R420): FLR or disabling of VF k destroys its partition's contexts. -/
  | vfFlr (vf : Nat)
  /-- D3HOT_ENTRY (R420): A function enters D3hot; its interrupts become pending. -/
  | d3hotEntry (fn : Nat)
  /-- D0_RETURN (R428): A function returns to D0 and pending vectors are sent. -/
  | d0Return (fn : Nat)
  /-- MSIX_UNMASK (R428): Unmasking a vector with its PBA bit set sends one message. -/
  | msixUnmask (fn vector : Nat)
  /-- PCIE_LINK_TRAINED (R418): The PCIe link trains or retrains, setting DEGRADED if below x16 64 GT/s. -/
  | pcieLinkTrained (rate width : Nat) (flit : Bool)
  /-- PCIE_CONFIG_REQUEST (R444): A configuration request is answered with RRS until READY. -/
  | pcieConfigRequest (fn : Nat) (op : CfgOp)
  /-- PCIE_COMPLETION (R429): A completion for the module's read returns data or an error. -/
  | pcieCompletion (tag : Nat) (result : CplResult)
  /-- PCIE_COMPLETION_TIMEOUT (R429): The module's read times out and its work faults MEM_ERROR. -/
  | pcieCompletionTimeout (tag dt : Nat)
  /-- HP_PERST_N (R444): HP_PERST_N low for 10 µs after step 7 is a fundamental reset. -/
  | hpPerstN (ns : Nat) (test : SelfTest)
  /-- HP_REFCLK_LOSS (R440): The PCIe reference fails; the link goes down. -/
  | hpRefclkLoss (test : SelfTest)
  /-- LK_REFCLK_LOSS (R440): The link reference fails; every Cartal port goes DOWN. -/
  | lkRefclkLoss
  /-- CABLE_MATE (R445): A Cartal cable is mated or removed. -/
  | cableMate (port : Nat) (mated : Bool)
  /-- RESERVED_OPCODE (R123): Executing an instruction word whose opcode is reserved faults with ILLEGAL at execution. -/
  | reservedOpcode (e : Eng) (w : BitVec 64)
  /-- LPDDR5X_TRANSFER_COMPLETE (R208): An LPDDR5X channel transfer ends: read data returns to the home or DMA after up to 4 CRC retries, or the access fails with MEM_ERROR, a lost write or a module-fatal UNIT0. -/
  | lpddr5xTransferComplete (pa : Nat) (cause : XferCause) (failures : Nat)
  /-- BRIDGE_RETRIES_EXHAUSTED (R196): The die-to-die bridge link layer runs out of retries on a message, which is coherence failure cause BRIDGE. -/
  | bridgeRetriesExhausted (agent cls pa : Nat)
  /-- POWER_DOWN_GRACE_EXPIRY (R389): POWER_DOWN_GRACE runs out during a written power-down, and the packets still running are ended ABORTED. -/
  | powerDownGraceExpiry (dt : Nat)
  /-- DEVICE_TIME_SEND (R339): Every 1 ms the host anchor sends its device time on CTL to its legs. -/
  | deviceTimeSend (dt : Nat)
  /-- HP_REFCLK_RETURN (R440): The PCIe reference clock returns within tolerance: device time goes back to it without a step, and the link may train again. -/
  | hpRefclkReturn
  /-- LK_REFCLK_RETURN (R440): The link reference clock returns and every Cartal port that went DOWN retrains. -/
  | lkRefclkReturn
  /-- DOE_REQUEST (R431): An SPDM or IDE_KM request arrives through the PF's DOE mailbox and is answered, signed or used to program an IDE stream. -/
  | doeRequest (req : DoeReq)
  /-- REGISTER_READ (R414): A BAR0 register read that its requester may not make, or that hits a reserved offset, returns 0 and is counted in DBG_BAD_ACCESS. -/
  | registerRead (fn off size : Nat)
  deriving DecidableEq, Repr

end Sys2Proof
end

