-- ==== Sys2Proof/Config.lean ====
section
/-! DEFINITION. What the spec leaves open, as constants without a body: nothing can be proved of their values.
`free` takes the state's counter of free values, which every use advances. The others stand for the module's secrets
and its factory data, or for what an implementation of the module fixes. -/

namespace Sys2Proof.Config

/-- A value the spec calls unpredictable, or does not state, by the number of its use (R13, DESIGN CHOICE, log 11). -/
opaque free : Nat → BitVec 64

/-- The module's random source: the draw of use `n` (R45, R178, R205, DESIGN CHOICE, log 12). -/
opaque draw : Nat → BitVec 64

/-- The keyed pseudorandom function of the channel hash: 64-bit output for key and block (R205). -/
opaque channelHash : BitVec 128 → Nat → BitVec 64

/-- The ECDSA P-384 private keys derived from the die secret: 0 metering, 1 identity (R381; R299, R383). -/
opaque privKey : Nat → BitVec 384

/-- The HSS private keys derived from the die secret: the identifier of a tree of a key, and the one-time secret of a tree's leaf
and chain; chain 51 stands for the randomizer of the leaf's signature (R381; RFC 8554). -/
opaque lmsId : Nat → Nat → List Byte
opaque lmsSecret : Nat → Nat → Nat → Nat → List Byte

/-- Factory data: serial number, part number, certificates, MAC address, versions (R357, R381, R383). -/
opaque serial : BitVec 128
opaque partNumber : List Byte
/-- Parts of the identity certificate that its authority gives: 2 ISSUER, 3 ISSUED, 4 CA_SIGS (R381). -/
opaque identPart : Nat → List Byte
opaque caCert : List Byte
/-- The identity key's HSS signature of the metering certificate, made at the factory (R299, R381). -/
opaque meterHss : List Byte
/-- The management MAC address of a serial, but its two low bits of the first byte, which R349 fixes (R349). -/
opaque mgmtMac : BitVec 128 → BitVec 48
opaque romVer : BitVec 32
opaque fwHash : Nat → List Byte
opaque calHash : List Byte
opaque calVer : BitVec 32
opaque calExpiry : BitVec 32

/-- The calibration record, or the ROM's factory defaults where `cal` is false (R285): voltage in mV of a code of the inlet's
voltage converter and current in mA of a code of its current converter at a shunt temperature, both corrected (R282); the
efficiency curve at a summed rail energy, in eu, as a numerator over a denominator less one (R284); the coefficient in eu
of a counter site's event on a rail; the static model's energy in eu of a unit (kind, number) on a rail at the frame's
temperature and the rail's voltage in mV (R288). -/
opaque volts (cal : Bool) (code : Nat) : Nat
opaque amps (cal : Bool) (temp : Int) (code : Nat) : Nat
opaque lossCurve (cal : Bool) (sum : Nat) : Nat × Nat
opaque coefficient (cal : Bool) (event rail : Nat) : Nat
opaque leakage (cal : Bool) (kind unit rail : Nat) (temp : Int) (mv : Nat) : Nat

/-- Ephemeral P-384 private keys and nonces of 48 bytes, by draw (R324, R358). -/
opaque ephemeral : Nat → BitVec 384
opaque nonce : Nat → List Byte

/-- Class C functions of R124 within their error bounds: operation and operand encoding to result encoding. -/
opaque approx : Nat → BitVec 32 → BitVec 32

/-- The payload of a flit that carries an end-to-end acknowledgement: source, destination, number, result and bytes written
(R321, R348), and of one that carries a CTL message other than a beacon: destination (64: the end of the link) and message
(R319). The spec lays neither out. -/
opaque ackFlit : Nat → Nat → Nat → Nat → Nat → List Byte
opaque ctlFlit : Nat → List Byte → List Byte
/-- The destination such a payload names, 64 for the end of the link. -/
opaque flitDst : List Byte → Nat
/-- Whether the first of the two directions whose keys R323 expands is that from the lower serial to the higher. -/
opaque lowFirst : Bool

/-- The code of the item status STATE of a CHECK (R363), which the table of R353 does not number. -/
opaque istatusState : BitVec 8

/-- The Vendor ID (R418), and the X.509 chain of certificate slot 0 (R431). -/
opaque vendorId : BitVec 16
opaque certChain : List Byte

end Sys2Proof.Config
end

