-- ==== Sys2Proof/Machine/Tab.lean ====
section
/-! DEFINITION. Operations over sparse tables and byte memories, and the bit-field helpers every family uses. -/

namespace Sys2Proof

/-- The value at key `k`, `d` where the table lists none. -/
def Tab.get {α : Type} (d : α) : Tab α → Nat → α
  | [], _ => d
  | (a, v) :: t, k => if a = k then v else Tab.get d t k

/-- The value listed at key `k`. -/
def Tab.look {α : Type} (t : Tab α) (k : Nat) : Option α := (t.find? (fun p => p.1 = k)).map Prod.snd

/-- Insert or replace the pair of key `k`, keeping the keys rising. -/
def Tab.put {α : Type} : Tab α → Nat → α → Tab α
  | [], k, v => [(k, v)]
  | (a, w) :: t, k, v =>
    if k < a then (k, v) :: (a, w) :: t
    else if k = a then (k, v) :: t
    else (a, w) :: Tab.put t k v

/-- Take the pair of key `k` out of the table. -/
def Tab.del {α : Type} (t : Tab α) (k : Nat) : Tab α := t.filter (fun p => p.1 ≠ k)

/-- Write `v` at key `k`: a value equal to the default takes the entry out, so that equal contents are equal data. -/
def Tab.set {α : Type} [DecidableEq α] (d : α) (t : Tab α) (k : Nat) (v : α) : Tab α :=
  if v = d then Tab.del t k else Tab.put t k v

/-- The keys the table lists, rising. -/
def Tab.keys {α : Type} (t : Tab α) : List Nat := t.map Prod.fst

/-- The canonical form: keys strictly rising and no entry equal to the default. -/
def Tab.wf {α : Type} [DecidableEq α] (d : α) (t : Tab α) : Bool :=
  decide (t.Pairwise (fun p q => p.1 < q.1)) && t.all (fun p => decide (p.2 ≠ d))

/-- One byte of memory (R377 step 4 and R390 leave every byte 0 that nothing has written). -/
def Mem.byte (m : Mem) (a : Nat) : Byte := Tab.get 0#8 m a

/-- Write one byte. -/
def Mem.setByte (m : Mem) (a : Nat) (b : Byte) : Mem := Tab.set 0#8 m a b

/-- The canonical form of a memory. -/
def Mem.wf (m : Mem) : Bool := Tab.wf 0#8 m

/-- The `n` bytes from address `a`, the first at the lowest address. -/
def Mem.bytes (m : Mem) (a n : Nat) : List Byte := (List.range n).map (fun i => Mem.byte m (a + i))

/-- Write the listed bytes from address `a` up. -/
def Mem.write (m : Mem) (a : Nat) : List Byte → Mem
  | [] => m
  | b :: bs => Mem.write (Mem.setByte m a b) (a + 1) bs

/-- Set `n` bytes from `a` to zero. -/
def Mem.zero (m : Mem) (a n : Nat) : Mem := m.filter (fun p => p.1 < a ∨ a + n ≤ p.1)

/-- The little-endian number of a list of bytes (R9). -/
def leNat : List Byte → Nat
  | [] => 0
  | b :: bs => b.toNat + 256 * leNat bs

/-- The `n` bytes of a number, little-endian (R9). -/
def leBytes : Nat → Nat → List Byte
  | 0, _ => []
  | n + 1, v => BitVec.ofNat 8 v :: leBytes n (v / 256)

/-- Bits `lo + n - 1` down to `lo` of a number. -/
def fld (v lo n : Nat) : Nat := v / 2 ^ lo % 2 ^ n

/-- Bit `i` of a number. -/
def bitOf (v i : Nat) : Bool := v / 2 ^ i % 2 = 1

/-- Replace bits `lo + n - 1` down to `lo` of `v` by `x`. -/
def setFld (v lo n x : Nat) : Nat :=
  v % 2 ^ lo + (x % 2 ^ n) * 2 ^ lo + v / 2 ^ (lo + n) * 2 ^ (lo + n)

/-- The number of a truth value. -/
def bit (b : Bool) : Nat := if b then 1 else 0

/-- The number whose bit `i` is the `i`-th truth value of the list. -/
def bitsOf : List Bool → Nat
  | [] => 0
  | b :: bs => bit b + 2 * bitsOf bs

/-- Sign-extend the low `n` bits of a number to an integer. -/
def sx (n v : Nat) : Int := if v % 2 ^ n < 2 ^ (n - 1) then (v % 2 ^ n : Nat) else (v % 2 ^ n : Nat) - (2 ^ n : Nat)

/-- The number of an integer modulo 2^n. -/
def wrapInt (n : Nat) (i : Int) : Nat := (i % (2 ^ n : Nat)).toNat

/-- The numbers of the set bits of `v` below `n`, rising. -/
def setBits (v n : Nat) : List Nat := (List.range n).filter (fun i => bitOf v i)

/-- The `i`-th element of a list, `d` past its end. -/
def nth {α : Type} (d : α) (l : List α) (i : Nat) : α := l.getD i d

/-- Replace the `i`-th element of a list (unchanged past its end). -/
def setNth {α : Type} (l : List α) (i : Nat) (v : α) : List α := l.set i v

/-- Bytes cut or filled with zeros to a length. -/
def exactly (n : Nat) (l : List Byte) : List Byte := leBytes n (leNat l)

/-- The larger bound of a counter of 64 bits: counts wrap modulo 2^64. -/
def wrap64 (v : Nat) : Nat := v % 2 ^ 64

end Sys2Proof
end

