-- ==== Sys2Proof/Machine/Crypto.lean ====
section
/-! DEFINITION. The published algorithms the rules name: SHA-256 and SHA-384, HMAC and HKDF (RFC 5869), AES-256-GCM,
P-384 with ECDH and ECDSA (FIPS 186-5, RFC 6979), HSS signatures (RFC 8554), CRC-64/ECMA-182 (R297, R299, R316, R323, R358,
R359, R378, R383). Their multi-byte fields keep the byte order of their standards (R9). -/

namespace Sys2Proof.Crypto

/-- Big-endian bytes and numbers. -/
def beBytes (n x : Nat) : List Byte := (leBytes n x).reverse
def beNat (b : List Byte) : Nat := leNat b.reverse

/-! ### SHA-2 -/

/-- The first 80 primes. -/
def primes : List Nat := ((List.range 410).filter (fun n => 2 ≤ n && ((List.range n).drop 2).all (fun d => n % d != 0))).take 80

/-- The first `w` bits of the fraction of the `n`-th root of `p`: the constants of SHA-2. -/
def rootBits (n w p : Nat) : Nat :=
  (((List.range (w + 5)).reverse.foldl (fun x i => if (x + 2 ^ i) ^ n ≤ p * 2 ^ (n * w) then x + 2 ^ i else x) 0)) % 2 ^ w

/-- What tells SHA-256 from SHA-384: word width, rounds, the twelve rotation and shift counts, and the first hash. -/
structure Sha where
  w : Nat
  rounds : Nat
  c : List Nat
  h : List Nat
  out : Nat

def sha2 : Sha :=
  { w := 32, rounds := 64, c := [2, 13, 22, 6, 11, 25, 7, 18, 3, 17, 19, 10],
    h := (primes.take 8).map (rootBits 2 32), out := 32 }

def sha3 : Sha :=
  { w := 64, rounds := 80, c := [28, 34, 39, 14, 18, 41, 1, 8, 7, 19, 61, 6],
    h := ((primes.drop 8).take 8).map (rootBits 2 64), out := 48 }

/-- Rotation of a word to the right. -/
def rotr (w x n : Nat) : Nat := x / 2 ^ n + x % 2 ^ n * 2 ^ (w - n)

/-- The functions Σ (three rotations, from count `i`) and σ (two rotations and a shift). -/
def Sha.big (a : Sha) (i x : Nat) : Nat :=
  rotr a.w x (nth 0 a.c i) ^^^ rotr a.w x (nth 0 a.c (i + 1)) ^^^ rotr a.w x (nth 0 a.c (i + 2))
def Sha.small (a : Sha) (i x : Nat) : Nat :=
  rotr a.w x (nth 0 a.c i) ^^^ rotr a.w x (nth 0 a.c (i + 1)) ^^^ x / 2 ^ nth 0 a.c (i + 2)

/-- The message schedule of a block. -/
def Sha.schedule (a : Sha) (m : List Nat) : List Nat :=
  (List.range (a.rounds - 16)).foldl (fun l t =>
    l ++ [(a.small 9 (nth 0 l (t + 14)) + nth 0 l (t + 9) + a.small 6 (nth 0 l (t + 1)) + nth 0 l t) % 2 ^ a.w]) m

/-- The round constants. -/
def Sha.k (a : Sha) : List Nat := (primes.take a.rounds).map (rootBits 3 a.w)

/-- Compression of a block. -/
def Sha.compress (a : Sha) (h m : List Nat) : List Nat :=
  let step (v : List Nat) (kw : Nat × Nat) : List Nat :=
    match v with
    | [p, q, r, s, t, u, x, y] =>
      let ch := (t &&& u) ^^^ ((2 ^ a.w - 1 - t) &&& x)
      let maj := (p &&& q) ^^^ (p &&& r) ^^^ (q &&& r)
      let t1 := y + a.big 3 t + ch + kw.1 + kw.2
      [(t1 + a.big 0 p + maj) % 2 ^ a.w, p, q, r, (s + t1) % 2 ^ a.w, t, u, x]
    | v => v
  (h.zip ((a.k.zip (a.schedule m)).foldl step h)).map (fun p => (p.1 + p.2) % 2 ^ a.w)

/-- The message padded to whole blocks. -/
def Sha.pad (a : Sha) (b : List Byte) : List Byte :=
  let block := 2 * a.w
  let len := a.w / 4
  b ++ 0x80#8 :: List.replicate ((block - (b.length + 1 + len) % block) % block) 0#8 ++ beBytes len (8 * b.length)

/-- Cut a list into `n` parts of `k`. -/
def parts {α : Type} (k n : Nat) (l : List α) : List (List α) := (List.range n).map (fun i => (l.drop (k * i)).take k)

/-- The hash of a message. -/
def Sha.hash (a : Sha) (b : List Byte) : List Byte :=
  let p := a.pad b
  let blocks := (parts (2 * a.w) (p.length / (2 * a.w)) p).map (fun x => (parts (a.w / 8) 16 x).map beNat)
  ((blocks.foldl a.compress a.h).flatMap (beBytes (a.w / 8))).take a.out

def sha256 (b : List Byte) : List Byte := sha2.hash b
def sha384 (b : List Byte) : List Byte := sha3.hash b

/-! ### HMAC and HKDF -/

/-- HMAC; keys are at most a block long. -/
def Sha.hmac (a : Sha) (key b : List Byte) : List Byte :=
  let k := key ++ List.replicate (2 * a.w - key.length) 0#8
  a.hash (k.map (fun x => x ^^^ 0x5C#8) ++ a.hash (k.map (fun x => x ^^^ 0x36#8) ++ b))

/-- HKDF of RFC 5869 without salt. -/
def Sha.hkdf (a : Sha) (secret info : List Byte) (n : Nat) : List Byte :=
  let prk := a.hmac (List.replicate a.out 0#8) secret
  let r := (List.range ((n + a.out - 1) / a.out)).foldl (fun (r : List Byte × List Byte) i =>
    let t := a.hmac prk (r.2 ++ info ++ [BitVec.ofNat 8 (i + 1)])
    (r.1 ++ t, t)) ([], [])
  r.1.take n

/-! ### AES-256-GCM -/

/-- Product in GF(2^8) of AES. -/
def gmul (x y : Nat) : Nat :=
  ((List.range 8).foldl (fun (r : Nat × Nat) i =>
    (if y / 2 ^ i % 2 = 1 then r.1 ^^^ r.2 else r.1, if 128 ≤ r.2 then (2 * r.2) % 256 ^^^ 0x1B else 2 * r.2)) (0, x)).1

/-- The substitution of a byte: its inverse, then the affine map. -/
def sbox (x : Nat) : Nat :=
  let sq (v : Nat) := gmul v v
  let inv := (List.range 7).foldl (fun (r : Nat × Nat) _ => let s := sq r.2; (gmul r.1 s, s)) (1, x)
  let b := inv.1
  let rotl (n : Nat) : Nat := (b * 2 ^ n) % 256 + b / 2 ^ (8 - n)
  b ^^^ rotl 1 ^^^ rotl 2 ^^^ rotl 3 ^^^ rotl 4 ^^^ 0x63

/-- The 60 words of the expanded key, as lists of four bytes. -/
def expandKey (key : List Nat) : List (List Nat) :=
  (List.range 52).foldl (fun w i =>
    let t := nth [] w (i + 7)
    let t := if i % 8 = 0 then
        ((t.drop 1 ++ t.take 1).map sbox).zipIdx.map (fun b => if b.2 = 0 then b.1 ^^^ 2 ^ (i / 8) else b.1)
      else if i % 8 = 4 then t.map sbox else t
    w ++ [List.zipWith (· ^^^ ·) (nth [] w i) t]) (parts 4 8 key)

/-- One block through the cipher. -/
def aesBlock (key block : List Nat) : List Nat :=
  let w := expandKey key
  let add (s : List Nat) (r : Nat) : List Nat := List.zipWith (· ^^^ ·) s ((w.drop (4 * r)).take 4).flatten
  let shift (s : List Nat) : List Nat := (List.range 16).map (fun i => nth 0 s ((i / 4 + i % 4) % 4 * 4 + i % 4))
  let mix (s : List Nat) : List Nat := (List.range 16).map (fun i =>
    let c (j : Nat) : Nat := nth 0 s (i / 4 * 4 + (i + j) % 4)
    gmul (c 0) 2 ^^^ gmul (c 1) 3 ^^^ c 2 ^^^ c 3)
  let s := ((List.range 13).foldl (fun s r => add (mix (shift (s.map sbox))) (r + 1)) (add block 0))
  add (shift (s.map sbox)) 14

/-- The cipher on blocks as big-endian numbers. -/
def aes (key : List Byte) (x : Nat) : Nat :=
  let nat (l : List Byte) : List Nat := l.map BitVec.toNat
  beNat ((aesBlock (nat key) (nat (beBytes 16 x))).map (BitVec.ofNat 8))

/-- Product in GF(2^128) of GCM. -/
def gmul128 (x y : Nat) : Nat :=
  ((List.range 128).foldl (fun (r : Nat × Nat) i =>
    (if x / 2 ^ (127 - i) % 2 = 1 then r.1 ^^^ r.2 else r.1,
     if r.2 % 2 = 1 then r.2 / 2 ^^^ (0xE1 * 2 ^ 120) else r.2 / 2)) (0, y)).1

/-- Bytes as 16-byte blocks, the last filled with zeros, as big-endian numbers. -/
def blocks16 (b : List Byte) : List Nat :=
  (parts 16 ((b.length + 15) / 16) b).map (fun x => beNat (x ++ List.replicate (16 - x.length) 0#8))

/-- AES-256-GCM: the ciphertext and the tag of 16 bytes, of key, nonce of 12 bytes, additional data and payload. -/
def gcm (key nonce aad payload : List Byte) : List Byte × List Byte :=
  let h := aes key 0
  let j := beNat nonce * 2 ^ 32
  let stream := (List.range ((payload.length + 15) / 16)).flatMap (fun i => beBytes 16 (aes key (j + i + 2)))
  let c := List.zipWith (· ^^^ ·) payload stream
  let s := (blocks16 aad ++ blocks16 c ++ [8 * aad.length * 2 ^ 64 + 8 * c.length]).foldl (fun s b => gmul128 (s ^^^ b) h) 0
  (c, beBytes 16 (aes key (j + 1) ^^^ s))

/-! ### P-384 -/

def p384 : Nat := 2 ^ 384 - 2 ^ 128 - 2 ^ 96 + 2 ^ 32 - 1
def n384 : Nat := 0xffffffffffffffffffffffffffffffffffffffffffffffffc7634d81f4372ddf581a0db248b0a77aecec196accc52973
def g384 : Nat × Nat :=
  (0xaa87ca22be8b05378eb1c71ef320ad746e1d3b628ba79b9859f741e082542a385502f25dbf55296c3a545e3872760ab7,
   0x3617de4a96262c6f5d9e98bf9292dc29f8f41dbd289a147ce9da3113b5f0b8c00a60b1ce1d7e819d7a431d7c90ea0e5f)
def b384 : Nat := 0xb3312fa7e23ee7e4988e056be3f82d19181d9c6efe8141120314088f5013875ac656398d8a2ed19d2a85c8edd3ec2aef

/-- Power modulo `m` of an exponent of 384 bits. -/
def powMod (m x e : Nat) : Nat :=
  (List.range 384).reverse.foldl (fun r i => let r := r * r % m; if e / 2 ^ i % 2 = 1 then r * x % m else r) 1
/-- Inverse modulo a prime. -/
def invMod (m x : Nat) : Nat := powMod m x (m - 2)

/-- Sum of two points; `none` is the point at infinity. -/
def padd : Option (Nat × Nat) → Option (Nat × Nat) → Option (Nat × Nat)
  | none, q => q
  | p, none => p
  | some (x, y), some (u, v) =>
    let line (l : Nat) : Option (Nat × Nat) :=
      let w := (l * l + 2 * p384 - x - u) % p384
      some (w, (l * (x + p384 - w) + p384 - y) % p384)
    if x ≠ u then line ((v + p384 - y) * invMod p384 (u + p384 - x) % p384)
    else if y = v && y != 0 then line ((3 * x * x + p384 - 3) * invMod p384 (2 * y) % p384)
    else none

/-- A multiple of a point. -/
def pmul (k : Nat) (p : Option (Nat × Nat)) : Option (Nat × Nat) :=
  (List.range 384).reverse.foldl (fun r i => let r := padd r r; if k / 2 ^ i % 2 = 1 then padd r p else r) none

/-- A private key of 384 random bits, in the range of the curve's order. -/
def privOf (d : Nat) : Nat := d % (n384 - 1) + 1

/-- The public key of a private key, SEC 1 uncompressed. -/
def pubOf (d : Nat) : List Byte :=
  match pmul d (some g384) with
  | some (x, y) => 0x04#8 :: (beBytes 48 x ++ beBytes 48 y)
  | none => List.replicate 97 0#8

/-- The point of a public key, where it is one of the curve. -/
def pointOf (b : List Byte) : Option (Nat × Nat) :=
  let x := beNat ((b.drop 1).take 48)
  let y := beNat (b.drop 49)
  if b.length = 97 && b.headD 0#8 = 0x04#8 && x < p384 && y < p384 &&
      y * y % p384 = (x * x % p384 * x + (p384 - 3) * x + b384) % p384 then some (x, y)
  else none

/-- The shared secret of ECDH, `none` where the peer's key is no point. -/
def ecdh (d : Nat) (pub : List Byte) : Option (List Byte) :=
  (pointOf pub).bind (fun q => (pmul d (some q)).map (fun r => beBytes 48 r.1))

/-- The nonces RFC 6979 tries for a private key and a hash of 48 bytes, in order. -/
def nonces (d : Nat) (h : List Byte) : List Nat :=
  let seed := beBytes 48 d ++ beBytes 48 (beNat h % n384)
  let k0 := List.replicate 48 0x00#8
  let v0 := List.replicate 48 0x01#8
  let k1 := sha3.hmac k0 (v0 ++ 0x00#8 :: seed)
  let v1 := sha3.hmac k1 v0
  let k2 := sha3.hmac k1 (v1 ++ 0x01#8 :: seed)
  let v2 := sha3.hmac k2 v1
  ((List.range 4).foldl (fun (r : List Nat × List Byte × List Byte) _ =>
    let v := sha3.hmac r.2.1 r.2.2
    let k := sha3.hmac r.2.1 (v ++ [0x00#8])
    (r.1 ++ [beNat v], k, sha3.hmac k v)) ([], k2, v2)).1

/-- ECDSA of a hash: r then s, 48 bytes each. -/
def ecdsaHash (d : Nat) (h : List Byte) : List Byte :=
  let e := beNat h % n384
  let of (k : Nat) : Option (List Byte) :=
    if k = 0 || n384 ≤ k then none
    else
      let r := (match pmul k (some g384) with | some p => p.1 | none => 0) % n384
      let s := invMod n384 k * (e + r * d) % n384
      if r = 0 || s = 0 then none else some (beBytes 48 r ++ beBytes 48 s)
  ((nonces d h).findSome? of).getD (List.replicate 96 0#8)

/-- ECDSA of a message with SHA-384. -/
def ecdsa (d : Nat) (m : List Byte) : List Byte := ecdsaHash d (sha384 m)

/-- Whether a signature of a hash verifies under a public key. -/
def ecdsaOk (pub h sig : List Byte) : Bool :=
  let r := beNat (sig.take 48)
  let s := beNat (sig.drop 48)
  sig.length = 96 && r != 0 && s != 0 && r < n384 && s < n384 &&
  match pointOf pub with
  | none => false
  | some q =>
    let w := invMod n384 s
    match padd (pmul (beNat h % n384 * w % n384) (some g384)) (pmul (r * w % n384) (some q)) with
    | some p => p.1 % n384 = r
    | none => false

/-- The private key 0 (metering) or 1 (identity) of the module, and its ECDSA signature of a message (R299, R381, R383). -/
def keyOf (k : Nat) : Nat := privOf (Config.privKey k).toNat
def sign (k : Nat) (m : List Byte) : List Byte := ecdsa (keyOf k) m

/-! ### HSS with LMS_SHA256_M24_H20 and LMOTS_SHA256_N24_W4 (R299) -/

/-- The hash of the parameter sets: SHA-256 cut to 24 bytes. -/
def h24 (b : List Byte) : List Byte := (sha256 b).take 24

/-- The 51 digits of a message hash with its checksum. -/
def digits (q : List Byte) : List Nat :=
  let d := q.flatMap (fun b => [b.toNat / 16, b.toNat % 16])
  let sum := (d.map (fun x => 15 - x)).sum * 16
  d ++ [sum / 4096 % 16, sum / 256 % 16, sum / 16 % 16]

/-- A chain of one-time values from step `a` to step `b`. -/
def chain (id : List Byte) (q i a b : Nat) (x : List Byte) : List Byte :=
  (List.range (b - a)).foldl (fun t j => h24 (id ++ beBytes 4 q ++ beBytes 2 i ++ [BitVec.ofNat 8 (a + j)] ++ t)) x

/-- The one-time public key of leaf `q` of a tree. -/
def otsPub (id : List Byte) (q : Nat) (secret : Nat → List Byte) : List Byte :=
  h24 (id ++ beBytes 4 q ++ beBytes 2 0x8080 ++ (List.range 51).flatMap (fun i => chain id q i 0 15 (secret i)))

/-- A one-time signature with its type and randomizer. -/
def otsSign (id : List Byte) (q : Nat) (secret : Nat → List Byte) (c m : List Byte) : List Byte :=
  let d := digits (h24 (id ++ beBytes 4 q ++ beBytes 2 0x8181 ++ c ++ m))
  beBytes 4 7 ++ c ++ (List.range 51).flatMap (fun i => chain id q i 0 (nth 0 d i) (secret i))

/-- A node of a tree, by its height above the leaves and its place at that height. -/
def node (id : List Byte) (secret : Nat → Nat → List Byte) : Nat → Nat → List Byte
  | 0, q => h24 (id ++ beBytes 4 (2 ^ 20 + q) ++ beBytes 2 0x8282 ++ otsPub id q (secret q))
  | n + 1, q => h24 (id ++ beBytes 4 (2 ^ (19 - n) + q) ++ beBytes 2 0x8383 ++ node id secret n (2 * q) ++
      node id secret n (2 * q + 1))

/-- An LMS public key. -/
def lmsPub (id : List Byte) (secret : Nat → Nat → List Byte) : List Byte :=
  beBytes 4 0x0D ++ beBytes 4 7 ++ id ++ node id secret 20 0

/-- An LMS signature with leaf `q`. -/
def lmsSign (id : List Byte) (secret : Nat → Nat → List Byte) (q : Nat) (c m : List Byte) : List Byte :=
  beBytes 4 q ++ otsSign id q (secret q) c m ++ beBytes 4 0x0D ++
    (List.range 20).flatMap (fun n => node id secret n (q / 2 ^ n ^^^ 1))

/-- Identifier and one-time secrets of tree `t` of key `key`: tree 0 is the first level's, tree 1 + j the second level's under
leaf j. -/
def treeId (key t : Nat) : List Byte := exactly 16 (Config.lmsId key t)
def treeSecret (key t q i : Nat) : List Byte := exactly 24 (Config.lmsSecret key t q i)

/-- The HSS public key of key `key`, with its number of levels. -/
def hssPub (key : Nat) : List Byte := beBytes 4 2 ++ lmsPub (treeId key 0) (treeSecret key 0)

/-- The HSS signature with index `q`: the level count, the first level's signature of the second level's public key, that key,
and the second level's signature of the message. -/
def hss (key q : Nat) (m : List Byte) : List Byte :=
  let t := 1 + q / 2 ^ 20
  let pub := lmsPub (treeId key t) (treeSecret key t)
  beBytes 4 1 ++
    lmsSign (treeId key 0) (treeSecret key 0) (q / 2 ^ 20) (exactly 24 (Config.lmsSecret key 0 (q / 2 ^ 20) 51)) pub ++ pub ++
    lmsSign (treeId key t) (treeSecret key t) (q % 2 ^ 20) (exactly 24 (Config.lmsSecret key t (q % 2 ^ 20) 51)) m

/-! ### CRC-64/ECMA-182 -/

/-- The CRC of bytes, most significant bit first, from zero. -/
def crc64 (b : List Byte) : Nat :=
  b.foldl (fun r x => (List.range 8).foldl (fun r _ =>
    if 2 ^ 63 ≤ r then (2 * r) % 2 ^ 64 ^^^ 0x42F0E1EBA9EA3693 else 2 * r) (r ^^^ x.toNat * 2 ^ 56)) 0

end Sys2Proof.Crypto
end

