-- ==== Sys2Proof/Machine/State.lean ====
section
/-! DEFINITION. The state of the module as plain data, the faults and refusals, and the state after reset. Every
register with storage stands in `regs` by its BAR0 offset; every other piece of state has a field of its own. -/

namespace Sys2Proof.Machine

/-- Why a step stops. -/
inductive Fault where
  /-- A command names a core, cluster, agent, queue, port, function or slot outside the numbering the spec gives the
  module. Raised by every family's meanings. Safe: the module has no such unit, so nothing is claimed of it. -/
  | noSuchUnit
  deriving DecidableEq, Repr

/-- Why a command is not modelled. -/
inductive Refusal where
  /-- A command that has no meaning yet. Raised by the dispatcher alone. Safe. -/
  | notModelled (mnemonic : String)
  deriving DecidableEq, Repr

/-! ### The matrix side of a core (03, 04, 05) -/

/-- The product check of one output row (R65): whether it is made, whether its two sums differ by more than the rule's
bound, and the bits of its checksum dot product (bit 63 the leading one of its 64-bit significand; for the integer class
the bits of the number) whose flip it finds. -/
structure RowCheck where
  made : Bool
  differs : Bool
  finds : Nat
  deriving DecidableEq, Repr

/-- A matrix command issued and not retired (R64): its outputs and reports are held back until then. -/
structure MMRun where
  /-- Ordinal of the command in lap order: replay × commands of the lap + index (R75). -/
  ord : Nat
  /-- The command as fetched. -/
  cmd : BitVec 256
  /-- Output bytes: tile-store byte address and byte. -/
  outs : List (Nat × BitVec 8)
  /-- The glint of the first flagged output tile, 0 when none is flagged (R69). -/
  glint : Nat
  /-- Output tiles flagged non-finite (R70). -/
  flagged : Nat
  /-- Events to add to the health slot (R107). -/
  zeros : Nat
  sat : Nat
  nonfin : Nat
  invalid : Nat
  /-- Largest finite magnitude, as FP32 (R107). -/
  amax : Nat
  /-- Ordinal of its first output tile within the command on this core (R45, R69). -/
  tile0 : Nat
  /-- The product check of each output row of each tile, 64 to a tile (R65). -/
  checks : List RowCheck
  /-- Rows whose product check an injected error hits, with the bit it flips (R72). -/
  inj : List (Nat × Nat)
  /-- An injected error has flipped a bit of its cell registers, which every hold check finds (R65, R72). -/
  flip : Bool
  deriving DecidableEq, Repr

/-- The shadow bank of the array (R54): the command whose stationary tile it takes, whether the load is complete,
and whether an injected error flipped a bit of a cell register after the load (R72). -/
structure Shadow where
  ord : Nat
  complete : Bool
  flip : Bool
  deriving DecidableEq, Repr

/-- The matrix array of a core. -/
structure ArrayState where
  /-- The active bank, 0 or 1 (MTX_STATUS.BANK). -/
  bank : Bool
  shadow : Option Shadow
  /-- The active bank's cell registers carry an injected flip. -/
  flip : Bool
  /-- The command issued last in this launch: ordinal, stationary coarse scale it read, the command (R55). -/
  last : Option (Nat × Nat × Nat)
  /-- Commands issued and not retired, oldest first. -/
  issued : List MMRun
  /-- MTX_INJECT armed for the next product check, for the next load (R72). -/
  injProduct : Bool
  injCell : Bool
  /-- Issued commands that a stop has discarded and that may still mismatch: whether an injected error causes it (R71). -/
  behind : List Bool
  /-- The current lap has stopped on this core (MTX_STATUS.STOPPED). -/
  stopped : Bool
  /-- Device times of recent non-injected mismatches, oldest first (R67). -/
  mismatches : List Nat
  deriving DecidableEq, Repr

/-- A LOAD, STORE or SCALE the feeder has begun, or a HEALTH STORE, with the descriptors it took (R90). -/
structure FeedRun where
  ord : Nat
  descs : List (BitVec 128)
  deriving DecidableEq, Repr

/-- An entry of the address stream (R88, R91): a descriptor or the boundary marker of a replay. -/
inductive AsEntry where
  | desc (d : BitVec 128)
  | marker (replay : Nat)
  deriving DecidableEq, Repr

/-- The lap running on a core (R75 to R98). -/
structure LapRun where
  /-- The launch, its rank on this core, replays, commands as lap load read them. -/
  launch : Nat
  rank : Nat
  replays : Nat
  cmds : List (BitVec 256)
  /-- Ordinal of the next command to dispatch (R86). -/
  next : Nat
  /-- Ordinal of the oldest incomplete command. -/
  oldest : Nat
  /-- Completed ordinals at or above `oldest`. -/
  completed : List Nat
  /-- Feeder commands begun and not completed, oldest first. -/
  feeding : List FeedRun
  /-- The WAITB that waits on its baton: ordinal and baton (R87). -/
  waiting : Option (Nat × Nat)
  /-- The lap list cache: command words fetched, by command index (R93). -/
  cache : Tab (BitVec 256)
  /-- Commands dispatched, as fetched for execution, by ordinal (R78); those no later command looks back on are gone. -/
  win : Tab (BitVec 256)
  /-- Paced delivery: ordinal of the MM whose READY is raised, ordinal of the MM whose GO is seen (R94). -/
  ready : Option Nat
  go : Option Nat
  /-- Runs of the address program that have returned, and markers popped (R91). -/
  returned : Nat
  popped : Nat
  /-- Device time of the last completed command, for the watchdog (R98). -/
  lastDone : Nat
  /-- Status of this core's stop, 0 while none, and the ordinal of its event in lap order (R71, R96). -/
  stop : Nat
  stopOrd : Nat
  /-- Output tiles drained per command index on this core, for the tile ordinal of R45. -/
  tiles : Tab Nat
  deriving DecidableEq, Repr

/-! ### Kernels, packs and threads (06, 07) -/

/-- What a thread waits for. -/
inductive Wait where
  | none
  /-- A hurdle: its number and the generation (R139). -/
  | hurdle (id gen : Nat)
  /-- A baton (R143). -/
  | baton (b : Nat)
  /-- A fence (R160): accepted stores of the cluster cache that must be performed, and the wait for earlier loads. -/
  | fence (ids : List Nat) (loads : Bool)
  /-- An access that the cluster cache or a device must finish (ATOM, LDX, STX). -/
  | access
  deriving DecidableEq, Repr

/-- One thread (lane) of a pack. -/
structure Thread where
  pc : Nat
  exited : Bool
  /-- v0 to v254 (R122); a register not listed holds 0. -/
  v : Tab (BitVec 32)
  /-- Registers that await a load's data, each with the wait's number. -/
  awaits : List Nat
  wait : Wait
  /-- Device time at which the wait began, and the address of the waiting instruction (R152). -/
  since : Nat
  waitPc : Nat
  /-- Issue slot of the pack in which this thread last issued (R14). -/
  lastIssue : Nat
  /-- Arrivals counted at each of the four hurdles (R139, R140). -/
  arrivals : List Nat
  /-- The 128 B granule reserved by LDX, with the cluster whose cache holds the reservation (R135, R164). -/
  resv : Option (Nat × Nat)
  /-- ORD of the pending atomic's trailing acquire fence, when one is due (R131). -/
  acq : Bool
  /-- The release fence of the instruction at pc has been waited for (R131, R143). -/
  rel : Bool
  deriving DecidableEq, Repr

/-- One lane's part of a store in a store queue: its page's region attribute (R175), physical address and bytes. -/
structure SqLane where
  lane : Nat
  attr : Nat
  pa : Nat
  bytes : List (BitVec 8)
  deriving DecidableEq, Repr

/-- One store instruction in a store queue (R162), its lanes ascending. -/
structure SqEntry where
  lanes : List SqLane
  /-- LINEZ: the entry zeroes whole lines (R177). -/
  zero : Bool
  deriving DecidableEq, Repr

/-- A pack resident in a slot. -/
structure Pack where
  /-- Team index, and the pack within its team. -/
  team : Nat
  pack : Nat
  threads : List Thread
  /-- s0 to s63 (R122); a register not listed holds 0. -/
  sregs : Tab (BitVec 64)
  sq : List SqEntry
  /-- Issue slots of the pack (R14). -/
  slots : Nat
  deriving DecidableEq, Repr

/-- A team resident on a core: hurdle generations (R139) and its scratch (R16, R130). -/
structure Team where
  gens : List Nat
  scratch : Mem
  /-- Free values taken so far at unwritten scratch bytes start at this counter value (R130). -/
  seed : Nat
  deriving DecidableEq, Repr

/-- One line of an L1 data cache (R173): validity and dirtiness masks, one bit a byte. -/
structure L1Line where
  valid : Nat
  dirty : Nat
  data : Nat
  /-- Way of the set; streaming lines are the next victims (R171, R128). -/
  way : Nat
  stream : Bool
  deriving DecidableEq, Repr

/-- A loop level of the coach core (R147). -/
structure Loop where
  start : Nat
  stop : Nat
  remaining : Nat
  deriving DecidableEq, Repr

/-- The coach core of a core (R144 to R148). -/
structure Coach where
  running : Bool
  pc : Nat
  s : Tab (BitVec 64)
  loops : List Loop
  sq : List SqEntry
  awaits : List Nat
  wait : Wait
  since : Nat
  resv : Option (Nat × Nat)
  acq : Bool
  /-- The release fence of the instruction at pc has been waited for (R131, R143). -/
  rel : Bool
  deriving DecidableEq, Repr

/-- A copy in a cache of a coach core (R171): its way, and whether the coach core has written it. Its bytes are those of the
line in the cluster cache, which includes it (R179). -/
structure CoachLine where
  way : Nat
  dirty : Bool
  deriving DecidableEq, Repr

/-- A cache of a coach core, with the tree bits of each set. -/
structure CoachCache where
  lines : Tab CoachLine
  tree : Tab Nat
  deriving DecidableEq, Repr

/-- Issue on the SIMT engine (R120): issues made; of each of the four schedulers the slot it issued last and how often in a row
it has issued it with another of its packs ready; by slot, the issue at which its pack last issued or started; and the cycles
of the core's clock island at the last look (R150). -/
structure IssueOrder where
  count : Nat
  last : List Nat
  run : List Nat
  at' : Tab Nat
  cycles : Nat
  deriving DecidableEq, Repr

/-- One core. -/
structure Core where
  /-- The kernel whose teams are resident (R118). -/
  kernel : Option Nat
  /-- Kernel boundary begun: the stores of the cluster that must be performed before the L1 is invalidated (R174). -/
  boundary : Option (List Nat)
  /-- KiB of scratch of each resident team, and the sets it takes from the L1 (R172). -/
  scratchSets : Nat
  packs : Tab Pack
  teams : Tab Team
  /-- Reservations of threads whose team has ended, which stand until the kernel ends (R164). -/
  rsvLeft : List (Nat × Nat)
  issue : IssueOrder
  l1 : Tab L1Line
  /-- Tree bits of each set's pseudo-LRU replacement (R171). -/
  l1Tree : Tab Nat
  coach : Coach
  /-- Instruction and data cache of the coach core. -/
  icache : CoachCache
  dcache : CoachCache
  lap : Option LapRun
  array : ArrayState
  /-- Tile store, 1 MiB (R83). -/
  tile : Mem
  /-- 256 health slots of 128 B in the layout of R106. -/
  health : Mem
  /-- The address stream (R88). -/
  stream : List AsEntry
  deriving DecidableEq, Repr

/-! ### Caches and coherence (08) -/

/-- State of a line at an agent (R185, R192). -/
inductive LineState where
  | I | S | E | M | O | ISD | IMAD | SMA | OMA | MIA | OIA | IIA
  deriving DecidableEq, Repr

/-- A grant held: install state (0 none, 1 S, 2 E, 3 M) and ack count (R187). -/
structure GrantHeld where
  install : Nat
  acks : Nat
  deriving DecidableEq, Repr

/-- A forward parked in a hold slot (R189): its kind in the table of R186 (8 FwdS, 9 FwdX, 11 Inv, 12 Recall) and its
requester. -/
structure Parked where
  kind : Nat
  req : Nat
  deriving DecidableEq, Repr

/-- A line of a cluster cache or of the Starter's cache. -/
structure CLine where
  st : LineState
  /-- The 128 bytes, as a little-endian number. -/
  data : Nat
  /-- Way of the set (R178). -/
  way : Nat
  /-- Whether the data has arrived, the DIRTY bit of the Data received, the grant, the InvAcks received (R187). -/
  got : Bool
  dirtyBit : Bool
  grant : Option GrantHeld
  acks : Nat
  /-- Whether the transaction in progress zeroes the line (ClaimZ, R177). -/
  zero : Bool
  /-- The hold of R189: 0 none, 1 a hold of 64 cycles; the access it waits for is performed as the line is installed. -/
  hold : Nat
  parked : List Parked
  /-- Cores of the cluster whose coach caches hold a copy, a bit each (R179). -/
  coach : Nat
  deriving DecidableEq, Repr

/-- Who waits for an access to memory. -/
inductive Waiter where
  /-- Lane of a pack: core, slot, lane. -/
  | lane (core slot lane : Nat)
  | coach (core : Nat)
  deriving DecidableEq, Repr

/-- The cache a load fills with its line: the L1 of a core, as a streaming line or not, or a cache of its coach core. -/
inductive Fill where
  | none
  | l1 (core : Nat) (stream : Bool)
  | coach (core : Nat) (instr : Bool)
  deriving DecidableEq, Repr

/-- A load that waits for its line (R156). -/
structure LoadWait where
  /-- Stores accepted from this number on are later than the load. -/
  id : Nat
  who : Waiter
  /-- Physical address and size in bytes. -/
  pa : Nat
  size : Nat
  /-- Destination register (255: none), sign extension, width of the destination in registers. -/
  reg : Nat
  sext : Bool
  fill : Fill
  /-- Bytes of the line that the pack's store queue and the core's dirty L1 line supply (R154, R156). -/
  bytes : List (Nat × BitVec 8)
  /-- Served by RdCur, no copy kept (R175). -/
  nc : Bool
  /-- It has met a line that a request had to bring (R198). -/
  asked : Bool
  deriving DecidableEq, Repr

/-- An atomic, LDX or STX that waits for its line in M (R194). -/
structure AtomWait where
  who : Waiter
  /-- 0 ATOM, 1 LDX, 2 STX. -/
  kind : Nat
  pa : Nat
  size : Nat
  aop : Nat
  /-- Lanes of the group that name the address, ascending: lane, destination, operand, compare value (R133). -/
  lanes : List (Nat × Nat × Nat × Nat)
  asked : Bool
  deriving DecidableEq, Repr

/-- An accepted store that is not yet performed (R154); one to the resident store waits in the outbound buffer (R176). -/
structure Accepted where
  id : Nat
  line : Nat
  /-- Bytes by offset in the line. -/
  bytes : List (Nat × BitVec 8)
  /-- Not allocated: a WrNC where the line is absent (R175), and whether that WrNC has been sent. -/
  nc : Bool
  sent : Bool
  zero : Bool
  /-- A store in the coach data cache of a core, which only the core's engines see until it is performed (R161). -/
  core : Option Nat
  asked : Bool
  deriving DecidableEq, Repr

/-- A non-caching read in progress at an agent (R194). -/
structure NcRead where
  line : Nat
  deriving DecidableEq, Repr

/-- An agent of the coherence domain (R182). -/
structure Agent where
  lines : Tab CLine
  lfsr : BitVec 32
  loads : List LoadWait
  atoms : List AtomWait
  accepted : List Accepted
  ncReads : List NcRead
  deriving DecidableEq, Repr

/-- Request a home works on or holds (R186, R193). -/
structure HReq where
  /-- 0 RdS, 1 RdX, 2 Upg, 3 ClaimZ, 4 RdCur, 5 WrNC, 6 PutM, 7 PutO. -/
  kind : Nat
  line : Nat
  /-- Requesting agent; 31 is the PCIe host port (R182). -/
  req : Nat
  /-- Bytes of a WrNC as (offset, byte), or the 128 bytes of a Put. -/
  bytes : List (Nat × BitVec 8)
  deriving DecidableEq, Repr

/-- A transaction a home has open on a line: the request, the recall answers still owed, whether the line is a
victim being recalled for another request (R184, R187). -/
structure HomeTxn where
  request : HReq
  owed : Nat
  isRecall : Bool
  deriving DecidableEq, Repr

/-- A directory entry (R184). -/
structure DirEntry where
  /-- 0 I, 1 S, 2 X, 3 O (R199). -/
  st : Nat
  owner : Nat
  sharers : Nat
  txn : Option HomeTxn
  deriving DecidableEq, Repr

/-- A directory slice (R184). -/
structure Dir where
  entries : Tab DirEntry
  lfsr : BitVec 32
  /-- Requests held for a busy line or a full set, in arrival order (R187). -/
  waiting : List HReq
  deriving DecidableEq, Repr

/-- A coherence message in flight (R186). -/
structure Msg where
  /-- 0 Request, 1 Forward, 2 Response, 3 Ack. -/
  cls : Nat
  /-- The message's number in the order of the table of R186: 0 RdS … 21 CompAck. -/
  kind : Nat
  line : Nat
  src : Nat
  dst : Nat
  /-- Whether the destination is the home rather than the agent. -/
  toHome : Bool
  /-- Requester, install state, ack count, the DIRTY or STALE bit. -/
  req : Nat
  install : Nat
  acks : Nat
  flag : Bool
  data : Nat
  bytes : List (Nat × BitVec 8)
  deriving DecidableEq, Repr

/-! ### Memory and the page map (09) -/

/-- The page map and its caches (R209 to R216). -/
structure MapState where
  /-- The entries, by number in the whole table. -/
  entries : Tab (BitVec 128)
  /-- Cached translations: holder (core c: c; DMA engine of cluster k: 160 + k; Starter: 180; VF n: 180 + n),
  partition, context of no use, VPN and entry. -/
  tlb : List (Nat × Nat × Nat × BitVec 128)
  /-- Slices and units being cleared (R221). -/
  clearSlices : List Nat
  clearUnits : List Nat
  /-- Uncorrectable resident store words found since power-up (R387). -/
  badWords : List Nat
  /-- The millisecond whose channel requests are being counted, and the counts by channel (CCH_CHAN_IMBAL, R208). -/
  chanMs : Nat
  chanWin : Tab Nat
  deriving DecidableEq, Repr

/-! ### The Starter (10) -/

/-- A kernel launch or a lap invocation in progress (R74, R116). -/
structure Launch where
  lap : Bool
  /-- Queue and packet count (list position on a periodic queue) of the packet. -/
  q : Nat
  n : Nat
  part : Nat
  ctx : Nat
  ptag : Nat
  stamp : Nat
  /-- Entry point of the kernel, or of the address program. -/
  entry : Nat
  arg : Nat
  place : List Nat
  teams : Nat
  packs : Nat
  regs : Nat
  scratch : Nat
  /-- Next team to start and teams ended (R117, R118). -/
  next : Nat
  ended : Nat
  /-- Lap parameters. -/
  addr : Nat
  ncmd : Nat
  replays : Nat
  seed : Nat
  paced : Bool
  stopGlint : Bool
  loaded : Bool
  /-- Paced delivery: the lap as the sequencer fetched it for a replay, and the next ordinal to broadcast (R94). -/
  seqLap : List (BitVec 256)
  seqNext : Nat
  /-- Status of the launch, 0 while nothing has stopped it; a lap's stopping events in device time: core (1000: the
  Starter) and status (R71). -/
  status : Nat
  stops : List (Nat × Nat)
  /-- Whether a glint was reported; whether the launch has completed. -/
  glint : Bool
  complete : Bool
  deriving DecidableEq, Repr

/-- State of a packet in its queue. -/
inductive PState where
  | decoded | started | ok | failed | skipped
  deriving DecidableEq, Repr

/-- A packet the Starter has decoded (R229 to R241). -/
structure Packet where
  raw : BitVec 512
  /-- Enqueue stamp (R265). -/
  stamp : Nat
  /-- Status decode gave, 0 when it passed. -/
  dstat : Nat
  /-- The launch descriptor and placement list read at decode (R235). -/
  desc : BitVec 512
  place : List Nat
  st : PState
  start : Nat
  /-- Status with which it was stopped or ended, and whether its engine's work is done. -/
  status : Nat
  done : Bool
  launch : Option Nat
  /-- Request slot it is attributed to, with its meter index (R240, R288). -/
  slot : Option Nat
  meter : Nat
  /-- Device time since which it waits on fences and batons. -/
  waitSince : Option Nat
  /-- AGENT, UNIT and packet tag of the signal or update that met its waits (R400). -/
  metBy : Option (Nat × Nat × Nat)
  /-- Device time since which its waits are met. -/
  metAt : Option Nat
  /-- DMA engine of a COPY or FILL, and bytes moved. -/
  dma : Nat
  moved : Nat
  /-- Address and reason of a fault, for its record (R393). -/
  faultAddr : Nat
  reason : Nat
  /-- Cartal message: destination and end-to-end number. -/
  msg : Option (Nat × Nat)
  glint : Bool
  deriving DecidableEq, Repr

/-- State of a queue (R226). -/
inductive QState where
  | disabled | running | stopped | draining
  deriving DecidableEq, Repr

/-- A completion record but its PHASE (R248). -/
structure CRec where
  index : Nat
  tag : Nat
  status : Nat
  opcode : Nat
  flags : Nat
  count : Nat
  start : Nat
  deriving DecidableEq, Repr

/-- A queue (R224 to R253). -/
structure Queue where
  st : QState
  desc : BitVec 512
  head : Nat
  tail : Nat
  /-- Completion count, records consumed, entries reserved (R249). -/
  ccount : Nat
  cqHead : Nat
  reserved : Nat
  vt : Nat
  /-- Current request slot (R240). -/
  cur : Option Nat
  /-- Skip mode, with the packets skipped since the dropped packet's record (R246). -/
  skip : Bool
  skipped : Nat
  /-- Whether the dropped packet's record is still to be written. -/
  skipOwner : Option Nat
  /-- Enqueue stamps: packets below the count carry the stamp (R265). -/
  stamps : List (Nat × Nat)
  packets : Tab Packet
  /-- First lost record already reported (R249). -/
  cqLost : Bool
  /-- Records of packets that ended without a reserved entry and found no room, oldest first, and whether each raises the
  queue's vector. -/
  owed : List (CRec × Bool)
  /-- Fetching has stopped on a stopping status; the queue moves to STOPPED once its stopped packets complete (R252). -/
  halt : Bool
  /-- Periodic queues: list in force and next list as OFFSET, LENGTH; period number; whether a period runs; the
  next period number; packets of the period completed OK; status of the period; requests opened in it (R244, R245). -/
  list : Nat × Nat
  nextList : Nat × Nat
  period : Nat
  active : Bool
  next : Nat
  okCount : Nat
  pstatus : Nat
  dropped : Bool
  opened : List Nat
  deriving DecidableEq, Repr

/-! ### Shared objects (11) -/

/-- State of a context slot (R256, R260). -/
inductive CtxState where
  | free | live | aborting | defunct
  deriving DecidableEq, Repr

/-- A context. -/
structure Context where
  st : CtxState
  /-- Device time of its DESTROY, and the event its record names (R394). -/
  since : Nat
  escalated : Bool
  aborted : Nat
  orphaned : Nat
  freeing : Nat
  /-- Whether the DESTROY command in progress at STR_OBJ_STATUS is this context's. -/
  byCmd : Bool
  /-- Whether the map scan of R262 is done. -/
  scanned : Bool
  /-- Device times of recent stopping packets (R392). -/
  faults : List Nat
  deriving DecidableEq, Repr

/-- A memory object (R264). State: 0 FREE, 1 LIVE, 2 FREEING. -/
structure MObj where
  st : Nat
  base : Nat
  pages : Nat
  owner : Nat
  stamp : Nat
  zero : Bool
  fv : Bool
  fence : Nat
  deriving DecidableEq, Repr

/-- A fence (R267). State: 0 FREE, 1 LIVE, 2 ORPHANED. -/
structure Fence where
  st : Nat
  value : Nat
  owner : Nat
  any : Bool
  imported : Bool
  source : Nat
  exports : List Nat
  deriving DecidableEq, Repr

/-- Who waits in place on a baton (R272): a lap's WAITB, a group of a kernel's pack, a coach core. -/
inductive BWaiter where
  | lap (core : Nat)
  | pack (core slot : Nat) (lanes : List Nat)
  | coach (core : Nat)
  deriving DecidableEq, Repr

/-- A baton (R271). -/
structure Baton where
  live : Bool
  value : Nat
  owner : Nat
  coreScope : Bool
  core : Nat
  waiters : List (BWaiter × Nat)
  deriving DecidableEq, Repr

/-- A request slot (R276). State: 0 FREE, 1 OPEN, 2 CLOSING. -/
structure Request where
  st : Nat
  reqid : Nat
  tenant : Nat
  attached : Nat
  packets : Nat
  meter : Nat
  part : Nat
  dropped : Bool
  aborted : Bool
  deriving DecidableEq, Repr

/-! ### Metering (12) -/

/-- A meter index in use (R287): an open request, or one awaiting signature. -/
structure MeterIdx where
  reqid : Nat
  tenant : Nat
  part : Nat
  slot : Nat
  frameOpen : Nat
  tOpen : Nat
  /-- Worst accuracy class so far; whether device time was set; packets charged. -/
  cls : Nat
  tstep : Bool
  packets : Nat
  energy : Nat
  cats : List Nat
  stat : Nat
  /-- Close status, T_CLOSE once its slot is FREE; FRAME_CLOSE once its receipt is finalised. -/
  closed : Option (Nat × Nat)
  frameClose : Option Nat
  spread : Bool
  deriving DecidableEq, Repr

/-- An entry waiting for or in a ring: kind, leaf index, block, body, path (R302). -/
structure RingEntry where
  kind : Nat
  leaf : Nat
  block : Nat
  body : List (BitVec 8)
  path : List (List (BitVec 8))
  deriving DecidableEq, Repr

/-- Notes held by the receipt anchor for one key (R305). -/
structure NoteKey where
  reqid : Nat
  tenant : Nat
  /-- Partition of this module that had an open request of the key. -/
  part : Option Nat
  first : Nat
  seq : Nat
  notes : List NoteMsg
  deriving DecidableEq, Repr

/-- Sums over frames for a ledger block (R296, R300): the first frame and the device time of its start; E_IN, E_REQ,
overheads, spread and unrequested energy of the nine accounts, rails, INVALID, worst class, partitions that held a
carve-out. -/
structure MeterSums where
  first : Nat
  time : Nat
  eIn : Nat
  eReq : Nat
  ovh : List Nat
  spread : List Nat
  unreq : List Nat
  rails : List Nat
  invalid : Nat
  cls : Nat
  carved : Nat
  deriving DecidableEq, Repr

/-- The metering engine and the marshal's ledger. -/
structure Meter where
  boot : Nat
  frame : Nat
  /-- Device time of the current frame's start. -/
  frameTime : Nat
  calOk : Bool
  calExpired : Bool
  idx : Tab MeterIdx
  /-- Sums of the hundred frames in progress; of the frames that ended a hundred and are in no block yet, with the last
  frame and the device time of its end; E_OPEN of the last block. -/
  cur : MeterSums
  due : List (MeterSums × Nat × Nat)
  /-- A block has been held: the next one covers every frame not yet covered (R296, R303). -/
  blocked : Bool
  eOpen : Nat
  /-- Next block number, hash of the previous header; group receipts issued, with the frame of their issue
  and the partition they go to. -/
  block : Nat
  prev : List (BitVec 8)
  groupLeaves : List (Nat × Option Nat × List (BitVec 8))
  /-- HSS index and reservation of the metering and of the identity key (R301, R382); a background write pending. -/
  hssQ : Nat
  hssEnd : Nat
  identQ : Nat
  identEnd : Nat
  hssPending : Bool
  identPending : Bool
  hssFailed : Bool
  /-- Waiting entries of rings 0–7 and of the host ring 8 (R303). -/
  backlog : List (List RingEntry)
  ringOn : Nat
  ringFault : Nat
  /-- Notes sent and not acknowledged; notes held as anchor by key; keys issued with their next SEQ (R304, R305). -/
  notes : List NoteMsg
  keys : List NoteKey
  /-- A module-fatal stop: 0 none, 1 in this frame, 2 in an earlier frame (R306). -/
  stopped : Nat
  inputMv : Nat
  /-- What the sites have counted in this frame: 64 × index + 2 × event + die (R288). -/
  acts : Tab Nat
  deriving DecidableEq, Repr

/-! ### Cartal (13) -/

/-- A flit queued to send: VC, participant (a partition; 8 is transit), the message it belongs to (destination and
end-to-end number; 2^32 + handle for a REDUCE), header and payload (R334). -/
structure QFlit where
  vc : Nat
  share : Nat
  dst : Nat
  seq : Nat
  head : BitVec 64
  payload : List (BitVec 8)
  deriving DecidableEq, Repr

/-- A flit in the replay buffer (R318): its SEQ, its 256 bytes, and how often it has been resent. -/
structure KeptFlit where
  seq : Nat
  bytes : List (BitVec 8)
  resends : Nat
  deriving DecidableEq, Repr

/-- State of a port (R347): 0 DOWN, 1 TRAINING, 2 AUTH, 3 UP, 4 QUARANTINED, 5 MISWIRED, 6 DISABLED. -/
structure Port where
  st : Nat
  /-- Cable mated (R445). -/
  mated : Bool
  /-- Failed attempts in a row; back-off; since when the state holds; the first step of the next attempt (R315). -/
  attempts : Nat
  since : Nat
  fec : Nat
  step : Nat
  /-- Peer's last beacon, whether FINISH has been sent. -/
  peer : Option BeaconMsg
  finished : Bool
  /-- Nonce and ephemeral private key of the link, and the bytes of the first beacon sent and received on it (R322, R323). -/
  nonce : List (BitVec 8)
  priv : Nat
  sentBeacon : List (BitVec 8)
  seenBeacon : List (BitVec 8)
  /-- Link layer: next SEQ, last SEQ received in order, unacknowledged flits. -/
  txSeq : Nat
  rxSeq : Nat
  replay : List KeptFlit
  nakDue : Bool
  lastAck : Nat
  /-- Credits per class at the peer, buffers freed to report. -/
  credits : List Nat
  freed : List Nat
  /-- Output port of the transit message being received, by class; first-hop flits received that wait for a second-hop buffer
  of their output port, oldest first (R319, R320). -/
  transit : Tab Nat
  held : List (Nat × QFlit)
  queue : List QFlit
  /-- Round-robin state of the MSG class: flits sent in this round by each participant. -/
  served : List Nat
  /-- Key and salt of each direction, 36 bytes; key generation, flits sent under the key, time of the last rekey (R323). -/
  txKey : List (BitVec 8)
  rxKey : List (BitVec 8)
  keys : Nat
  keyFlits : Nat
  keyTime : Nat
  /-- Device times of retrains, tag failures, malformed messages, drops by R318; failed handshakes in a row. -/
  retrains : List Nat
  tagFails : List Nat
  malformed : List Nat
  downs : List Nat
  badAuth : Nat
  /-- Consecutive quarantines, the serial they count for, and the length of the present one in ns. -/
  quars : Nat
  quarSerial : Nat
  quarLen : Nat
  lastBeacon : Nat
  /-- Messages from the peer in the current ms window, and its start; since when flooding. -/
  msgs : Nat
  window : Nat
  floodSince : Option Nat
  deriving DecidableEq, Repr

/-- A message this module has sent and that has no result yet (R321). -/
structure SentMsg where
  dst : Nat
  seq : Nat
  kind : Nat
  part : Nat
  /-- Packet that sent it. -/
  q : Option (Nat × Nat)
  handle : Nat
  param : Nat
  reqid : Nat
  tenant : Nat
  req : Bool
  data : List (BitVec 8)
  sentAt : Nat
  startAt : Nat
  resends : Nat
  notReady : Bool
  /-- No flit of it has been queued: no route has led to its destination. -/
  unsent : Bool
  deriving DecidableEq, Repr

/-- A registered handle (R329). Kind: 0 free, 1 receive queue, 2 window, 3 collective. -/
structure Handle where
  kind : Nat
  data : List Nat
  part : Nat
  /-- Receive queue: messages received and consumed (R330). -/
  received : Nat
  consumed : Nat
  /-- Collective: current epoch, since when this member's packet runs, contributions of the current and of the next
  epoch by member, result ready (R336). -/
  epoch : Nat
  since : Option Nat
  contrib : List (Nat × Nat × List (BitVec 8))
  packet : Option (Nat × Nat)
  deriving DecidableEq, Repr

/-- The Cartal side of the module. -/
structure Links where
  ports : Tab Port
  /-- End-to-end numbers: next to send to, next expected from, each module. -/
  sendSeq : Tab Nat
  recvSeq : Tab Nat
  /-- Results given to performed messages, by (source, number): the result and, × 8, the bytes written below a remote fault. -/
  results : List (Nat × Nat × Nat)
  sent : List SentMsg
  /-- Device time each module was last reachable; modules declared lost. -/
  reachedAt : Tab Nat
  lost : Nat
  reachable : Nat
  /-- Module with whom the coordinates were last unchanged since; coordinates (R325). -/
  coord : Nat
  valid : Bool
  root : Nat
  settled : Bool
  coordSince : Nat
  groupSize : Nat
  /-- ANCHOR as the last topology update left it in HIF_CAP_TOPO (R6, R278). -/
  anchor : Bool
  /-- Device time at which each module last sent its device time on CTL, as an anchor does (R339). -/
  heard : Tab Nat
  handles : Tab Handle
  /-- Host writes of a leg that wait for a host anchor, oldest first. -/
  hostWrites : List (Nat × List (BitVec 8))
  deriving DecidableEq, Repr

/-! ### Ralxon, power, start-up (14, 15, 18) -/

/-- A session (R358). -/
structure Session where
  mac : Nat
  principal : Nat
  opened : Bool
  since : Nat
  /-- The least SEQ the next request may carry. -/
  nextSeq : Nat
  /-- The module's ephemeral private key, the client's ephemeral public key, the transcript of the HELLO. -/
  priv : Nat
  client : List (BitVec 8)
  transcript : List (BitVec 8)
  /-- The session key of 32 bytes, once open. -/
  key : List (BitVec 8)
  deriving DecidableEq, Repr

/-- A journal entry (R367): TIME, index, subindex, type, interface, principal, old and new value of `len` bytes, APPLY
number. -/
structure JEntry where
  seq : Nat
  iface : Nat
  index : Nat
  sub : Nat
  type : Nat
  apply : Nat
  time : Nat
  principal : Nat
  len : Nat
  old : Nat
  new : Nat
  deriving DecidableEq, Repr

/-- An alarm's history (R368). -/
structure AlarmRec where
  count : Nat
  first : Nat
  last : Nat
  detail : Nat
  deriving DecidableEq, Repr

/-- The dictionary, its sessions, journal and alarms. Values are numbers; OCTETS entries are little-endian. A source is
0 for none, a session's number, or 0xFFFF for the mailbox; a pending APPLY keeps its source, its SEQ and the KEY_ID of
its principal (R365). -/
structure Dict where
  active : Tab Nat
  shadow : Tab Nat
  owner : Nat
  state : Nat
  applySrc : Nat
  applySeq : Nat
  applyKey : Nat
  applyCount : Nat
  sessions : Tab Session
  /-- Failure times and lock-outs by MAC address. -/
  failures : List (Nat × Nat)
  lockouts : List (Nat × Nat)
  journal : List JEntry
  jcount : Nat
  alarmActive : Nat
  alarmLatched : Nat
  alarms : Tab AlarmRec
  store : Tab Nat
  storeState : Nat
  deriving DecidableEq, Repr

/-- Power and clock control (R370 to R373). -/
structure Power where
  mhz : Nat
  overNs : Nat
  lastDown : Nat
  lastChange : Nat
  thermDrop : Nat
  lastTherm : Nat
  capState : Nat
  limitSince : Nat
  tempMax : Int
  /-- Islands whose clock is stretched, by 1024 × kind + island; ns each was stretched in the frame `stretchFrame`. -/
  droop : List Nat
  stretch : Tab Nat
  stretchFrame : Nat
  deriving DecidableEq, Repr

/-- Start-up, reset, firmware, attestation and pins. -/
structure Boot where
  start : Nat
  /-- Module reset: 0 none, else the step in progress (R386); its self-test; whether it waits for the dies to cool (R388). -/
  resetStep : Nat
  test : SelfTest
  cool : Bool
  resetNLow : Bool
  /-- Power-down: 0 none, else the step; since when; the grace in ms left (R389). -/
  pdStep : Nat
  pdSince : Nat
  pdGrace : Nat
  pdFail : Bool
  /-- After step 6 the module is off; whether the input has been below 20 V for 100 ms (R435). -/
  off : Bool
  armed : Bool
  margin : Bool
  fatal : Nat
  slotA : Option (Nat × Nat)
  slotB : Option (Nat × Nat)
  running : Nat
  svnMin : Nat
  fwState : Nat
  /-- Image bytes loaded, and the length committed, which only the check of the image looks at (R380). -/
  chunks : Mem
  fwLen : Nat
  report : List (BitVec 8)
  reportTime : Option Nat
  recovered : Bool
  ptmSet : Bool
  calDefault : Bool
  configReset : Bool
  selftest : SelfTest
  hpClk : Bool
  lkClk : Bool
  deriving DecidableEq, Repr

/-- Presence of units (R5, R278); `fused` names the clusters a Xiari 2-B has fused off (R2). -/
structure Units where
  variant : Nat
  fused : Nat
  clusters : Nat
  cores : Nat
  ports : Nat
  capGen : Nat
  deriving DecidableEq, Repr

/-! ### Traces, freeze, PCIe (16, 17) -/

/-- Counter freeze (R409 to R412). -/
structure Freeze where
  copy : Option (Tab (BitVec 64))
  reg : Bool
  pin : Bool
  group : Option (Nat × Nat)
  masked : Bool
  high : Bool
  lastRise : Option Nat
  id : Nat
  time : Nat
  /-- The freeze was started by the register or the pin holder (R412). -/
  own : Bool
  deriving DecidableEq, Repr

/-- A trace buffer (R401): records of 64 bytes, when the oldest was written, drops, sequence, whether time was set since,
and the ring for whose room its oldest record waits (0–7 a partition's, 8 the host's). -/
structure TraceBuf where
  recs : List (List (BitVec 8))
  since : Nat
  dropped : Nat
  seq : Nat
  tstep : Bool
  held : Option Nat
  deriving DecidableEq, Repr

/-- The instruction trace of the last run (R408): the free values its records are, how many were written, and the next
record of a COPY in progress. -/
structure ITrace where
  seed : Nat
  count : Nat
  copy : Option Nat
  deriving DecidableEq, Repr

/-- A function's PCIe state (R418 to R428). -/
structure PFn where
  msix : Bool
  fmask : Bool
  d3 : Bool
  /-- Vector table: 128-bit entries; pending bits. -/
  table : Tab (BitVec 128)
  pba : Nat
  deriving DecidableEq, Repr

/-- A read the module has outstanding on PCIe (R429). -/
structure PRead where
  addr : Nat
  len : Nat
  /-- The untranslated address (R393). -/
  va : Nat
  /-- The work it serves: queue and packet, if any. -/
  work : Option (Nat × Nat)
  /-- The thread or coach core it serves: destination register, sign extension, pc of the load. -/
  who : Option Waiter
  reg : Nat
  sext : Bool
  pc : Nat
  deriving DecidableEq, Repr

/-- Host memory read for a packet: its queue and count, address, length, and the bytes once the read completed. -/
structure Fetched where
  q : Nat
  n : Nat
  addr : Nat
  len : Nat
  data : Option (List (BitVec 8))
  deriving DecidableEq, Repr

/-- An access of a DMA engine to the register image: the partition, the BAR0 offset, the bytes of a write, or whom a read
of so many bytes serves: queue and packet (R228, R426). -/
structure RegOp where
  part : Nat
  off : Nat
  bytes : List (BitVec 8)
  read : Option (Nat × Nat × Nat)
  deriving DecidableEq, Repr

/-- The PCIe port. -/
structure Pcie where
  fns : Tab PFn
  vfEnable : Bool
  numVfs : Nat
  link : Bool
  ptm : Bool
  setArmed : Bool
  setRun : Bool
  lastDialogue : Option Nat
  reads : Tab PRead
  fetched : List Fetched
  /-- Register accesses that the command in progress has still to make; empty between commands. -/
  dmaRegs : List RegOp
  nextTag : Nat
  ide : Tab Nat
  bar4 : Nat
  vfBar4 : Nat
  deriving DecidableEq, Repr

/-- What leaves the module, oldest first. -/
inductive Out where
  /-- Posted write to PCIe: address and bytes. -/
  | pwrite (addr : Nat) (bytes : List (BitVec 8))
  /-- MSI-X message of a function's vector. -/
  | msix (fn vector addr data : Nat)
  /-- Completion of a read by the host: value, or Completer Abort, or Unsupported Request. -/
  | readData (value size : Nat)
  | readBytes (bytes : List (BitVec 8))
  | completerAbort
  | unsupported
  | retryStatus
  | cfgData (value : Nat)
  /-- A read request of the module. -/
  | pread (tag addr len : Nat)
  /-- A Cartal flit: its 256 bytes (R316). -/
  | flit (port : Nat) (bytes : List (BitVec 8))
  /-- A frame of EtherType 0x88B5 on the management segment: the MAC address it goes to and its payload (R349). -/
  | frame (mac : Nat) (payload : List (BitVec 8))
  /-- Answer on the DOE mailbox. -/
  | doe (bytes : List (BitVec 8))
  deriving DecidableEq, Repr

/-- The state of the module. -/
structure State where
  units : Units
  boot : Boot
  time : Nat
  regs : Tab (BitVec 64)
  /-- Status registers of command interfaces whose BUSY bit may still show the last command in progress. -/
  busy : List Nat
  freeze : Freeze
  dict : Dict
  power : Power
  dram : Mem
  rstore : Mem
  pmap : MapState
  agents : Tab Agent
  dirs : Tab Dir
  net : List Msg
  cores : Tab Core
  launches : Tab Launch
  queues : Tab Queue
  enq : Tab Nat
  ctxs : Tab Context
  mobjs : Tab MObj
  fences : Tab Fence
  batons : Tab Baton
  reqs : Tab Request
  meter : Meter
  links : Links
  rings : Tab Mem
  fatal : Mem
  traces : Tab TraceBuf
  itrace : ITrace
  pcie : Pcie
  mbxReq : Mem
  /-- SEQ of the request in progress, as it was submitted. -/
  mbxSeq : Nat
  mbxRsp : Mem
  nextId : Nat
  freeCtr : Nat
  out : List Out
  pending : List Instr
  deriving DecidableEq, Repr

/-- The 14 counts of a port's classes at reset (R319): credits equal to the buffers. -/
def State.creditsAtReset : List Nat := [8, 8, 96, 96, 64, 64, 32, 32]

/-- A function's PCIe state at reset: MSI-X disabled, nothing masked by the function mask, D0, nothing pending. -/
def PFn.init : PFn := { msix := false, fmask := false, d3 := false, table := [], pba := 0 }

/-- Sums over no frame. -/
def MeterSums.zero (first time : Nat) : MeterSums :=
  { first := first, time := time, eIn := 0, eReq := 0, ovh := List.replicate 9 0, spread := List.replicate 9 0,
    unreq := List.replicate 9 0, rails := List.replicate 12 0, invalid := 0, cls := 1, carved := 0 }

/-- The metering state right after the first power-up. -/
def Meter.init : Meter :=
  { boot := 1, frame := 0, frameTime := 0, calOk := true, calExpired := false, idx := [], cur := MeterSums.zero 0 0,
    due := [], blocked := false, eOpen := 0, block := 0, prev := List.replicate 32 0#8, groupLeaves := [], hssQ := 0, hssEnd := 1024,
    identQ := 0, identEnd := 1024, hssPending := false, identPending := false, hssFailed := false, backlog := List.replicate 9 [], ringOn := 0,
    ringFault := 0, notes := [], keys := [], stopped := 0, inputMv := 72000, acts := [] }

/-- The Cartal side at reset: every port DOWN (LNK_STATE 0), nothing reachable, not settled. -/
def Links.init : Links :=
  { ports := [], sendSeq := [], recvSeq := [], results := [], sent := [], reachedAt := [], lost := 0, reachable := 0,
    coord := 0, valid := false, root := 0, settled := false, coordSince := 0, groupSize := 1, anchor := false, heard := [],
    handles := [], hostWrites := [] }

/-- The dictionary with every entry at its default. -/
def Dict.init : Dict :=
  { active := [], shadow := [], owner := 0, state := 0, applySrc := 0, applySeq := 0, applyKey := 0, applyCount := 0, sessions := [], failures := [],
    lockouts := [], journal := [], jcount := 0, alarmActive := 0, alarmLatched := 0, alarms := [], store := [],
    storeState := 0 }

/-- A self-test that found no failure. -/
def SelfTest.pass : SelfTest := { cores := 0, clusters := 0, ports := 0, other := false, first := 0 }

/-- The module right after reset: a Xiari 2-A (DESIGN CHOICE, log 1) released READY after its first power-up, every register at
the value of its table's Reset column, 0 where a table gives none (DESIGN CHOICE, log 2), every memory zero (R390), every object
FREE, every queue DISABLED, no partition carved out. -/
def State.reset : State :=
  { units := { variant := 1, fused := 0, clusters := 2 ^ 20 - 1, cores := 2 ^ 160 - 1, ports := 2 ^ 16 - 1, capGen := 0 }
    boot := { start := 7, resetStep := 0, test := SelfTest.pass, cool := false, resetNLow := false,
              pdStep := 0, pdSince := 0, pdGrace := 0, pdFail := false, off := false, armed := false,
              margin := false, fatal := 0, slotA := some (1, 0), slotB := none, running := 0, svnMin := 0,
              fwState := 0, chunks := [], fwLen := 0, report := [], reportTime := none, recovered := false, ptmSet := false,
              calDefault := false, configReset := false, selftest := SelfTest.pass, hpClk := true, lkClk := true }
    time := 0
    regs := []
    busy := []
    freeze := { copy := none, reg := false, pin := false, group := none, masked := false, high := false,
                lastRise := none, id := 0, time := 0, own := false }
    dict := Dict.init
    power := { mhz := 2100, overNs := 0, lastDown := 0, lastChange := 0, thermDrop := 0, lastTherm := 0,
               capState := 0, limitSince := 0, tempMax := 0, droop := [], stretch := [], stretchFrame := 0 }
    dram := []
    rstore := []
    pmap := { entries := [], tlb := [], clearSlices := [], clearUnits := [], badWords := [], chanMs := 0, chanWin := [] }
    agents := []
    dirs := []
    net := []
    cores := []
    launches := []
    queues := []
    enq := []
    ctxs := []
    mobjs := []
    fences := []
    batons := []
    reqs := []
    meter := Meter.init
    links := Links.init
    rings := []
    fatal := []
    traces := []
    itrace := { seed := 0, count := 0, copy := none }
    pcie := { fns := [], vfEnable := false, numVfs := 0, link := false, ptm := false, setArmed := false,
              setRun := false, lastDialogue := none, reads := [], fetched := [], dmaRegs := [], nextTag := 0, ide := [], bar4 := 39, vfBar4 := 36 }
    mbxReq := []
    mbxSeq := 0
    mbxRsp := []
    nextId := 1
    freeCtr := 0
    out := []
    pending := [] }

end Sys2Proof.Machine
end

