-- ==== Sys2Proof/Machine/Dict.lean ====
section
/-! DEFINITION. The entries of the Ralxon dictionary as the tables of the chapters give them (R354 to R357), and the
active values. -/

namespace Sys2Proof.Machine

/-- Access rights of an entry (R354). -/
inductive DAcc where
  | ro | rws | rwi | wo
  deriving DecidableEq, Repr

/-- An entry: type code of R352, access, default, range, data bytes (0: not fixed), whether a WO entry needs ADMIN. -/
structure DictRow where
  type : Nat
  acc : DAcc
  dflt : Nat
  lo : Nat
  hi : Nat
  bytes : Nat
  admin : Bool
  deriving DecidableEq, Repr

/-- Data bytes of a fixed-size type (R352). -/
def typeBytes : Nat → Nat
  | 1 | 2 => 1 | 3 => 2 | 4 | 6 | 7 => 4 | 5 => 8 | _ => 0

/-- An entry of a fixed-size type whose range is all of the type. -/
def rowOf (type : Nat) (acc : DAcc) (dflt : Nat) : DictRow :=
  ⟨type, acc, dflt, 0, if type = 1 then 1 else 256 ^ typeBytes type - 1, typeBytes type, false⟩

/-- An RW-S entry with a stated range. -/
def rowS (type dflt lo hi : Nat) : DictRow := ⟨type, .rws, dflt, lo, hi, typeBytes type, false⟩

/-- An entry of type OCTETS or STR of `bytes` bytes. -/
def rowOctets (type : Nat) (acc : DAcc) (bytes : Nat) : DictRow := ⟨type, acc, 0, 0, 256 ^ bytes - 1, bytes, false⟩

/-- Identity and attestation entries of index 0x1000 (R357, R380, R383). -/
def identityRow : Nat → Option DictRow
  | 0x01 | 0x04 => some (rowOctets 8 .ro 0)
  | 0x02 | 0x18 => some (rowOf 2 .ro 0)
  | 0x03 => some (rowOctets 9 .ro 16)
  | 0x05 | 0x06 | 0x16 => some (rowOf 4 .ro 0)
  | 0x07 | 0x11 | 0x19 => some (rowOctets 9 .ro 0)
  | 0x08 => some (rowOctets 9 .ro 6)
  | 0x09 | 0x15 => some (rowOf 5 .ro 0)
  | 0x10 => some (rowOctets 9 .wo 32)
  | 0x17 => some (rowOctets 9 .ro 64)
  | _ => none

/-- Firmware entries of index 0x1F00 (R380). -/
def firmwareRow : Nat → Option DictRow
  | 0x01 => some { rowOctets 9 .wo 0 with admin := true }
  | 0x02 => some { rowOf 4 .wo 0 with admin := true }
  | 0x03 | 0x04 => some (rowOf 2 .ro 0)
  | 0x05 => some { rowOf 1 .wo 0 with admin := true }
  | _ => none

/-- Management entries of index 0x2000 (R357). -/
def managementRow : Nat → Option DictRow
  | 0x01 => some (rowOf 3 .ro 0)
  | 0x02 | 0x08 => some (rowOf 2 .ro 0)
  | 0x03 => some (rowOf 4 .ro 0)
  | 0x04 => some { rowOf 1 .wo 0 with admin := true }
  | 0x05 => some (rowS 2 0xFF 0 0xFF)
  | 0x06 => some (rowS 2 8 2 8)
  | 0x07 => some (rowS 4 300 30 3600)
  | _ => none

/-- Watchdog, escalation and trace entries (R98, R152, R392, R412, R402). -/
def watchdogRow : Nat → Nat → Option DictRow
  | 0x2210, 1 | 0x2210, 2 => some (rowS 4 100000 1000 10000000)
  | 0x2210, 3 => some (rowS 4 0 0 1000)
  | 0x2300, 1 | 0x2300, 2 => some (rowOf 1 .rws 0)
  | 0x2300, 3 => some (rowS 4 100 10 10000)
  | _, _ => none

/-- Power and clock entries of index 0x3000 (R373, R389, R436). -/
def powerRow : Nat → Option DictRow
  | 0x01 => some ⟨3, .rwi, 1700, 900, 1700, 2, false⟩
  | 0x02 => some ⟨3, .rwi, 2200, 900, 2200, 2, false⟩
  | 0x03 => some ⟨3, .rwi, 2000, 200, 2000, 2, false⟩
  | 0x04 => some (rowS 3 2100 700 2100)
  | 0x05 => some (rowS 2 30 20 60)
  | 0x06 => some (rowS 2 100 85 105)
  | 0x07 => some (rowOf 7 .ro 0)
  | 0x08 => some (rowOf 3 .ro 0)
  | 0x09 => some (rowOf 2 .ro 0)
  | 0x0A => some (rowOf 6 .ro 0)
  | 0x0B => some { rowOf 1 .wo 0 with admin := true }
  | 0x0C => some (rowS 4 1000 0 10000)
  | 0x0D => some (rowOf 4 .ro 0)
  | _ => none

/-- Subentries of a partition's index 0x4100 + p (R219, R257, R346). -/
def partitionRow : Nat → Option DictRow
  | 0x01 => some (rowOf 4 .rws 0)
  | 0x02 => some (rowOctets 9 .rws 64)
  | 0x03 | 0x04 | 0x06 | 0x08 | 0x0E | 0x10 | 0x13 => some (rowOf 3 .rws 0)
  | 0x05 => some (rowOf 4 .ro 0)
  | 0x07 => some (rowS 3 0 0 4096)
  | 0x09 | 0x11 => some (rowS 4 0 0 65536)
  | 0x0A | 0x0C => some (rowOf 4 .rws 0)
  | 0x0B => some (rowS 4 0 0 1048576)
  | 0x0D => some (rowS 4 0 0 262144)
  | 0x0F | 0x14 => some (rowS 3 0 0 8192)
  | 0x12 => some (rowS 2 1 1 255)
  | _ => none

/-- Link entries of index 0x5000 (R345). -/
def linkRow (sub : Nat) : Option DictRow :=
  match sub with
  | 0x01 => some (rowOf 4 .rws 0)
  | 0x02 => some (rowS 2 1 0 2)
  | 0x03 => some (rowOf 3 .rws 0)
  | 0x04 => some (rowOf 2 .rws 0xFF)
  | 0x05 | 0x06 => some (rowS 4 1000 10 1000000)
  | 0x07 => some (rowOctets 9 .rws 256)
  | 0x08 => some (rowS 4 50000 1000 1000000)
  | 0x09 => some (rowS 4 60 1 3600)
  | 0x0A => some (rowS 4 10 1 1000)
  | _ => if 0x10 ≤ sub ∧ sub < 0x20 then some (rowOf 4 .ro 0) else none

/-- Metering entries of index 0x6000 (R309). -/
def meteringRow : Nat → Option DictRow
  | 0x01 | 0x03 | 0x04 | 0x07 => some (rowOf 4 .ro 0)
  | 0x02 | 0x05 | 0x06 => some (rowOf 5 .ro 0)
  | 0x08 => some (rowOf 5 .rws 0)
  | 0x09 => some (rowS 2 8 4 16)
  | 0x0A => some (rowOctets 9 .ro 0)
  | 0x0B => some (rowOf 2 .rws 0xFF)
  | 0x0C => some (rowS 4 1000 100 10000)
  | _ => none

/-- Metering entries of a partition's index 0x6100 + p (R309). -/
def ringRow : Nat → Option DictRow
  | 0x01 => some (rowOf 5 .rws 0)
  | 0x02 => some (rowS 2 8 4 16)
  | 0x03 | 0x04 => some (rowOf 3 .rws 0)
  | 0x05 => some (rowS 2 0 0 1)
  | _ => none

/-- Alarm entries (R368). -/
def alarmRow : Nat → Nat → Option DictRow
  | 0x7000, 1 | 0x7000, 2 => some (rowOf 5 .ro 0)
  | 0x7000, 3 => some (rowOf 5 .wo 0)
  | 0x7000, 4 => some (rowOf 5 .rws 0)
  | 0x7000, 5 => some (rowOf 3 .rws 0)
  | i, 1 => if 0x7100 ≤ i ∧ i < 0x7140 then some (rowOf 4 .ro 0) else none
  | i, k => if 0x7100 ≤ i ∧ i < 0x7140 ∧ 2 ≤ k ∧ k ≤ 4 then some (rowOf 5 .ro 0) else none

/-- Capability mirror of index 0x9000 (R278). -/
def capRow (sub : Nat) : Option DictRow :=
  match sub with
  | 0x01 | 0x02 | 0x03 | 0x10 => some (rowOf 4 .ro 0)
  | 0x04 => some (rowOctets 9 .ro 20)
  | 0x05 | 0x11 => some (rowOf 5 .ro 0)
  | 0x06 | 0x08 | 0x09 | 0x12 => some (rowOf 3 .ro 0)
  | 0x07 => some (rowOf 2 .ro 0)
  | _ => if 0x0A ≤ sub ∧ sub < 0x10 then some (rowOf 4 .ro 0) else none

/-- The entry of an index and subindex; none where it does not exist (R354, R356). -/
def dictRow (i sub : Nat) : Option DictRow :=
  if i = 0x1000 then identityRow sub
  else if i = 0x1F00 then firmwareRow sub
  else if i = 0x2000 then managementRow sub
  else if 0x2100 ≤ i ∧ i < 0x2110 then
    match sub with
    | 1 => some (rowOctets 9 .rws 97)
    | 2 => some (rowS 2 0 0 3)
    | 3 => some (rowOctets 9 .ro 8)
    | _ => none
  else if i = 0x2210 ∨ i = 0x2300 then watchdogRow i sub
  else if i = 0x3000 then powerRow sub
  else if i = 0x4000 then (if sub = 1 then some (rowOf 2 .ro 0) else none)
  else if 0x4100 ≤ i ∧ i < 0x4108 then partitionRow sub
  else if i = 0x5000 then linkRow sub
  else if i = 0x6000 then meteringRow sub
  else if 0x6100 ≤ i ∧ i < 0x6108 then ringRow sub
  else if i = 0x7000 ∨ (0x7100 ≤ i ∧ i < 0x7140) then alarmRow i sub
  else if i = 0x8000 then (if sub = 1 then some (rowOf 4 .ro 0) else none)
  else if i = 0x9000 then capRow sub
  else none

/-- Key of an entry in the tables of values. -/
def dkey (i sub : Nat) : Nat := i * 256 + sub

/-- Default of an entry; PORT_ENABLE's is the present ports (R345). -/
def State.dflt (s : State) (i sub : Nat) : Nat :=
  if i = 0x5000 ∧ sub = 3 then s.units.ports
  else match dictRow i sub with
    | some r => r.dflt
    | none => 0

/-- Active value of a stored (RW) entry. -/
def State.entry (s : State) (i sub : Nat) : Nat := Tab.get (s.dflt i sub) s.dict.active (dkey i sub)

/-- Staged value of an RW-S entry: the shadow set starts equal to the active values (R362). -/
def State.staged (s : State) (i sub : Nat) : Nat := Tab.get (s.entry i sub) s.dict.shadow (dkey i sub)

/-- Set the active value of an entry. -/
def State.setEntry (s : State) (i sub v : Nat) : State :=
  { s with dict := { s.dict with active := Tab.set (s.dflt i sub) s.dict.active (dkey i sub) v } }

/-- Set the staged value of an entry: an entry equal to the active value is not listed. -/
def State.setStaged (s : State) (i sub v : Nat) : State :=
  { s with dict := { s.dict with shadow := Tab.set (s.entry i sub) s.dict.shadow (dkey i sub) v } }

/-- Every RW-S and RW-I entry, in ascending index and subindex order (R366, R383). -/
def storedEntries : List (Nat × Nat) :=
  let idx : List Nat := (List.range 16).map (0x2100 + ·)
  let parts (base : Nat) : List Nat := (List.range 8).map (base + ·)
  let subs (l : List Nat) (k : Nat) : List (Nat × Nat) := l.flatMap (fun i => (List.range k).map (fun j => (i, j + 1)))
  let all := subs [0x2000] 7 ++ subs idx 2 ++ subs [0x2210] 3 ++ subs [0x2300] 3 ++ subs [0x3000] 12 ++
    subs (parts 0x4100) 0x14 ++ subs [0x5000] 10 ++ subs [0x6000] 12 ++ subs (parts 0x6100) 5 ++ subs [0x7000] 5
  all.filter (fun p => match dictRow p.1 p.2 with
    | some r => r.acc = .rws || r.acc = .rwi
    | none => false)

end Sys2Proof.Machine
end

