-- ==== Sys2Proof/Machine/Regs.lean ====
section
/-! DEFINITION. The BAR0 register map (R422) as the register tables of the chapters give it: one row for each
register, and the BAR0 offset of each register by name. -/

namespace Sys2Proof.Machine

/-- The blocks of BAR0 (R422). -/
inductive Block where
  | hifCap | hif | hifFlt | cch | str | mtr | pwr | dbg | mbx | port | window | cluster | core | group | msix | pba
  deriving DecidableEq, Repr

/-- Access codes (R11). -/
inductive Access where
  | ro | rw | wo | rs
  deriving DecidableEq, Repr

/-- Owners (R12). -/
inductive Owner where
  | host | partition | marshal
  deriving DecidableEq, Repr

/-- A row of a register table: offset in its block, number of instances and their stride, bytes (4 or 8), defined
bits, access, owner, reset value, whether a freeze covers it (R409). -/
structure RegRow where
  off : Nat
  count : Nat
  stride : Nat
  bytes : Nat
  bits : Nat
  access : Access
  owner : Owner
  reset : Nat
  counts : Bool
  deriving DecidableEq, Repr

/-- Rows of block hifCap. -/
def rowsHifCap : List RegRow := [
  ⟨0x0, 1, 8, 4, 32, .ro, .marshal, 0x1, false⟩,
  ⟨0x4, 1, 8, 4, 8, .ro, .marshal, 0x0, false⟩,
  ⟨0x8, 1, 8, 4, 32, .ro, .marshal, 0x0, false⟩,
  ⟨0xc, 1, 8, 4, 32, .ro, .marshal, 0x0, false⟩,
  ⟨0x10, 1, 8, 4, 20, .ro, .marshal, 0x0, false⟩,
  ⟨0x30, 1, 8, 8, 64, .ro, .marshal, 0x0, false⟩,
  ⟨0x38, 1, 8, 4, 16, .ro, .marshal, 0x0, false⟩,
  ⟨0x3c, 1, 8, 4, 8, .ro, .marshal, 0x0, false⟩,
  ⟨0x40, 1, 8, 4, 16, .ro, .marshal, 0x834, false⟩,
  ⟨0x44, 1, 8, 4, 16, .ro, .marshal, 0x0, false⟩,
  ⟨0x48, 6, 4, 4, 32, .ro, .marshal, 0x0, false⟩,
  ⟨0x60, 1, 8, 4, 32, .ro, .marshal, 0x0, false⟩,
  ⟨0x68, 1, 8, 8, 64, .ro, .marshal, 0x0, false⟩,
  ⟨0x70, 1, 8, 4, 16, .ro, .marshal, 0x0, false⟩,
  ⟨0x78, 1, 8, 4, 8, .ro, .marshal, 0x0, false⟩]

/-- Rows of block hif. -/
def rowsHif : List RegRow := [
  ⟨0x0, 1, 8, 4, 32, .ro, .host, 0x0, false⟩,
  ⟨0x8, 1, 8, 8, 64, .rs, .host, 0x0, true⟩,
  ⟨0x10, 1, 8, 8, 64, .rs, .host, 0x0, true⟩,
  ⟨0x18, 1, 8, 8, 64, .rs, .host, 0x0, true⟩,
  ⟨0x20, 1, 8, 8, 64, .rs, .host, 0x0, true⟩,
  ⟨0x28, 1, 8, 8, 64, .rs, .host, 0x0, true⟩,
  ⟨0x30, 1, 8, 8, 64, .rw, .host, 0x0, false⟩,
  ⟨0x38, 1, 8, 4, 2, .wo, .host, 0x0, false⟩,
  ⟨0x40, 1, 8, 4, 32, .ro, .host, 0x0, false⟩,
  ⟨0x48, 1, 8, 8, 64, .ro, .host, 0x0, false⟩,
  ⟨0x50, 1, 8, 4, 32, .rw, .host, 0x2710, false⟩,
  ⟨0x58, 1, 8, 4, 9, .rw, .host, 0x0, false⟩,
  ⟨0x60, 1, 8, 8, 64, .rs, .host, 0x0, true⟩]

/-- Rows of block hifFlt. -/
def rowsHifFlt : List RegRow := [
  ⟨0x40, 1, 8, 4, 16, .rw, .host, 0x0, false⟩,
  ⟨0x48, 1, 8, 4, 32, .ro, .marshal, 0x0, true⟩,
  ⟨0x50, 1, 8, 4, 1, .wo, .host, 0x0, false⟩,
  ⟨0x58, 1, 8, 4, 8, .ro, .host, 0x7, false⟩,
  ⟨0x60, 1, 8, 4, 32, .ro, .marshal, 0x0, true⟩]

/-- Rows of block cch. -/
def rowsCch : List RegRow := [
  ⟨0x0, 1, 8, 4, 32, .ro, .marshal, 0x0, false⟩,
  ⟨0x8, 1, 8, 8, 48, .ro, .marshal, 0x0, false⟩,
  ⟨0x10, 1, 8, 8, 64, .ro, .marshal, 0x0, false⟩,
  ⟨0x18, 1, 8, 8, 48, .wo, .host, 0x0, false⟩,
  ⟨0x20, 1, 8, 8, 64, .ro, .host, 0x0, false⟩,
  ⟨0x28, 1, 8, 8, 64, .rs, .host, 0x0, true⟩,
  ⟨0x100, 64, 8, 8, 64, .rs, .host, 0x0, true⟩,
  ⟨0x300, 1, 8, 8, 64, .ro, .host, 0x0, false⟩,
  ⟨0x308, 1, 8, 4, 16, .ro, .host, 0x0, false⟩,
  ⟨0x310, 1, 8, 4, 32, .ro, .marshal, 0x0, true⟩,
  ⟨0x318, 1, 8, 8, 64, .rs, .host, 0x0, true⟩]

/-- Rows of block str. -/
def rowsStr : List RegRow := [
  ⟨0x0, 1, 8, 8, 64, .rs, .host, 0x0, true⟩,
  ⟨0x8, 1, 8, 4, 15, .ro, .host, 0x0, false⟩,
  ⟨0x10, 1, 8, 8, 64, .rs, .host, 0x0, true⟩,
  ⟨0x18, 1, 8, 8, 64, .rs, .host, 0x0, true⟩,
  ⟨0x20, 1, 8, 8, 64, .rs, .host, 0x0, true⟩]

/-- Rows of block mtr. -/
def rowsMtr : List RegRow := [
  ⟨0x0, 1, 8, 8, 64, .ro, .host, 0x0, false⟩,
  ⟨0x8, 1, 8, 8, 64, .ro, .host, 0x0, true⟩,
  ⟨0x10, 12, 8, 8, 64, .ro, .host, 0x0, true⟩,
  ⟨0x70, 1, 8, 4, 18, .ro, .host, 0x0, false⟩,
  ⟨0x78, 1, 8, 4, 32, .ro, .host, 0x0, false⟩,
  ⟨0x80, 1, 8, 4, 32, .rw, .host, 0x0, false⟩,
  ⟨0x88, 1, 8, 4, 13, .ro, .host, 0x0, false⟩,
  ⟨0x90, 1, 8, 8, 64, .ro, .host, 0x0, false⟩,
  ⟨0x98, 1, 8, 8, 64, .rs, .host, 0x0, true⟩,
  ⟨0xa0, 1, 8, 8, 64, .ro, .marshal, 0x0, false⟩]

/-- Rows of block pwr. -/
def rowsPwr : List RegRow := [
  ⟨0x0, 1, 8, 4, 32, .ro, .host, 0x834, false⟩,
  ⟨0x8, 1, 8, 4, 32, .ro, .host, 0x0, false⟩,
  ⟨0x10, 1, 8, 8, 64, .rs, .host, 0x0, true⟩,
  ⟨0x18, 1, 8, 8, 64, .rs, .host, 0x0, true⟩,
  ⟨0x20, 6, 8, 8, 64, .rs, .host, 0x0, true⟩,
  ⟨0x50, 6, 8, 8, 64, .rs, .host, 0x0, true⟩,
  ⟨0x80, 1, 8, 4, 16, .ro, .host, 0x0, false⟩]

/-- Rows of block dbg. -/
def rowsDbg : List RegRow := [
  ⟨0x0, 1, 8, 4, 2, .wo, .host, 0x0, false⟩,
  ⟨0x8, 1, 8, 4, 32, .ro, .host, 0x0, false⟩,
  ⟨0x10, 1, 8, 8, 64, .ro, .host, 0x0, false⟩,
  ⟨0x18, 1, 8, 4, 32, .ro, .host, 0x0, false⟩,
  ⟨0x20, 1, 8, 8, 64, .rs, .host, 0x0, true⟩,
  ⟨0x28, 1, 8, 8, 64, .rs, .host, 0x0, true⟩,
  ⟨0x30, 1, 8, 8, 64, .rs, .host, 0x0, true⟩,
  ⟨0x38, 1, 8, 8, 64, .rs, .host, 0x0, true⟩,
  ⟨0x40, 1, 8, 8, 64, .rs, .host, 0x0, true⟩,
  ⟨0x48, 1, 8, 8, 64, .rs, .host, 0x0, true⟩,
  ⟨0x50, 1, 8, 8, 64, .rs, .host, 0x0, true⟩,
  ⟨0x58, 1, 8, 8, 64, .rw, .host, 0x0, false⟩,
  ⟨0x60, 1, 8, 4, 32, .rw, .host, 0x0, false⟩,
  ⟨0x68, 1, 8, 4, 32, .ro, .host, 0x0, false⟩,
  ⟨0x70, 1, 8, 4, 32, .rw, .host, 0x0, false⟩,
  ⟨0x78, 1, 8, 4, 2, .wo, .host, 0x0, false⟩,
  ⟨0x80, 1, 8, 4, 32, .ro, .host, 0x0, false⟩,
  ⟨0x88, 1, 8, 8, 64, .rs, .host, 0x0, true⟩,
  ⟨0x90, 1, 8, 4, 32, .ro, .host, 0x0, true⟩,
  ⟨0x98, 1, 8, 4, 1, .wo, .host, 0x0, false⟩]

/-- Rows of block mbx. -/
def rowsMbx : List RegRow := [
  ⟨0x2000, 1, 8, 4, 13, .wo, .host, 0x0, false⟩,
  ⟨0x2008, 1, 8, 4, 32, .ro, .host, 0x0, false⟩,
  ⟨0x2010, 1, 8, 4, 16, .rw, .host, 0x0, false⟩]

/-- Rows of block port. -/
def rowsPort : List RegRow := [
  ⟨0x0, 1, 8, 4, 32, .ro, .host, 0x0, false⟩,
  ⟨0x8, 1, 8, 8, 64, .rs, .host, 0x0, true⟩,
  ⟨0x10, 1, 8, 8, 64, .rs, .host, 0x0, true⟩,
  ⟨0x18, 1, 8, 8, 64, .rs, .host, 0x0, true⟩,
  ⟨0x20, 1, 8, 8, 64, .rs, .host, 0x0, true⟩,
  ⟨0x28, 1, 8, 8, 64, .rs, .host, 0x0, true⟩,
  ⟨0x30, 1, 8, 8, 64, .rs, .host, 0x0, true⟩,
  ⟨0x38, 1, 8, 8, 64, .rs, .host, 0x0, true⟩,
  ⟨0x40, 1, 8, 8, 64, .rs, .host, 0x0, true⟩,
  ⟨0x48, 1, 8, 8, 64, .rs, .host, 0x0, true⟩,
  ⟨0x50, 1, 8, 4, 2, .wo, .host, 0x0, false⟩,
  ⟨0x58, 2, 8, 8, 64, .ro, .host, 0x0, false⟩,
  ⟨0x68, 1, 8, 8, 64, .rs, .host, 0x0, true⟩]

/-- Rows of block window. -/
def rowsWindow : List RegRow := [
  ⟨0x1000, 1, 8, 4, 24, .rw, .partition, 0x0, false⟩,
  ⟨0x1008, 1, 8, 8, 64, .rw, .partition, 0x0, false⟩,
  ⟨0x1010, 1, 8, 8, 64, .rw, .partition, 0x0, false⟩,
  ⟨0x1018, 1, 8, 4, 2, .wo, .partition, 0x0, false⟩,
  ⟨0x1020, 1, 8, 4, 32, .ro, .partition, 0x0, false⟩,
  ⟨0x1028, 1, 8, 8, 64, .rs, .partition, 0x0, true⟩,
  ⟨0x1030, 1, 8, 8, 64, .rs, .partition, 0x0, true⟩,
  ⟨0x1038, 1, 8, 8, 64, .rs, .partition, 0x0, true⟩,
  ⟨0x0, 1, 8, 4, 16, .rw, .partition, 0x0, false⟩,
  ⟨0x8, 8, 8, 8, 64, .rw, .partition, 0x0, false⟩,
  ⟨0x48, 1, 8, 4, 3, .wo, .partition, 0x0, false⟩,
  ⟨0x50, 1, 8, 4, 32, .ro, .partition, 0x0, false⟩,
  ⟨0x58, 1, 8, 4, 32, .ro, .partition, 0x0, false⟩,
  ⟨0x5c, 1, 8, 4, 32, .ro, .partition, 0x0, false⟩,
  ⟨0x60, 1, 8, 4, 32, .ro, .partition, 0x0, false⟩,
  ⟨0x68, 1, 8, 8, 64, .wo, .partition, 0x0, false⟩,
  ⟨0x70, 1, 8, 8, 64, .rs, .partition, 0x0, true⟩,
  ⟨0x78, 1, 8, 8, 64, .rs, .partition, 0x0, true⟩,
  ⟨0x80, 1, 8, 8, 64, .rs, .partition, 0x0, true⟩,
  ⟨0x88, 1, 8, 8, 64, .rs, .partition, 0x0, true⟩,
  ⟨0x90, 1, 8, 8, 64, .rs, .partition, 0x0, true⟩,
  ⟨0x98, 1, 8, 8, 64, .rs, .partition, 0x0, true⟩,
  ⟨0xa0, 1, 8, 8, 64, .rs, .partition, 0x0, true⟩,
  ⟨0x100, 1, 8, 4, 20, .rw, .partition, 0x0, false⟩,
  ⟨0x108, 4, 8, 8, 64, .rw, .partition, 0x0, false⟩,
  ⟨0x128, 1, 8, 4, 7, .wo, .partition, 0x0, false⟩,
  ⟨0x130, 1, 8, 4, 32, .ro, .partition, 0x0, false⟩,
  ⟨0x138, 1, 8, 4, 8, .ro, .partition, 0x0, false⟩,
  ⟨0x140, 1, 8, 8, 64, .ro, .partition, 0x0, false⟩,
  ⟨0x148, 1, 8, 8, 64, .rs, .partition, 0x0, true⟩,
  ⟨0x150, 1, 8, 8, 64, .rs, .partition, 0x0, true⟩,
  ⟨0x158, 1, 8, 8, 64, .rs, .partition, 0x0, true⟩,
  ⟨0x2000, 1, 8, 4, 32, .ro, .partition, 0x0, false⟩,
  ⟨0x2008, 1, 8, 4, 32, .rw, .partition, 0x0, false⟩,
  ⟨0x2010, 1, 8, 4, 32, .ro, .partition, 0x0, false⟩,
  ⟨0x2018, 1, 8, 4, 1, .wo, .partition, 0x0, false⟩,
  ⟨0x2020, 1, 8, 4, 17, .ro, .partition, 0x0, false⟩,
  ⟨0x2028, 1, 8, 4, 32, .ro, .partition, 0x0, false⟩,
  ⟨0x2030, 1, 8, 8, 64, .ro, .partition, 0x0, true⟩,
  ⟨0x2038, 1, 8, 8, 64, .ro, .partition, 0x0, true⟩,
  ⟨0x3000, 1, 8, 4, 13, .rw, .partition, 0x0, false⟩,
  ⟨0x3008, 4, 8, 8, 64, .rw, .partition, 0x0, false⟩,
  ⟨0x3028, 1, 8, 4, 3, .wo, .partition, 0x0, false⟩,
  ⟨0x3030, 1, 8, 4, 32, .ro, .partition, 0x0, false⟩,
  ⟨0x3038, 1, 8, 8, 64, .wo, .partition, 0x0, false⟩,
  ⟨0x3040, 1, 8, 8, 64, .rs, .partition, 0x0, true⟩,
  ⟨0x3048, 1, 8, 8, 64, .rs, .partition, 0x0, true⟩,
  ⟨0x3050, 1, 8, 8, 64, .rs, .partition, 0x0, true⟩,
  ⟨0x3058, 1, 8, 8, 64, .rs, .partition, 0x0, true⟩,
  ⟨0x9000, 1, 8, 4, 32, .ro, .partition, 0x0, false⟩,
  ⟨0x9008, 1, 8, 4, 32, .rw, .partition, 0x0, false⟩,
  ⟨0x9010, 1, 8, 8, 64, .rs, .partition, 0x0, true⟩,
  ⟨0x9018, 1, 8, 4, 16, .rw, .partition, 0x0, false⟩,
  ⟨0x4000, 1, 8, 4, 32, .rw, .partition, 0x0, false⟩,
  ⟨0x4008, 1, 8, 4, 32, .rw, .partition, 0x3e8, false⟩,
  ⟨0x4010, 1, 8, 8, 48, .rw, .partition, 0x0, false⟩,
  ⟨0x4018, 1, 8, 4, 32, .rw, .partition, 0x0, false⟩,
  ⟨0x4020, 1, 8, 4, 32, .ro, .partition, 0x0, false⟩,
  ⟨0x4028, 1, 8, 4, 32, .rw, .partition, 0x0, false⟩,
  ⟨0x4030, 1, 8, 4, 32, .ro, .partition, 0x0, false⟩,
  ⟨0x4038, 1, 8, 4, 2, .wo, .partition, 0x0, false⟩,
  ⟨0x4040, 1, 8, 8, 64, .rs, .partition, 0x0, true⟩,
  ⟨0x4048, 1, 8, 4, 16, .rw, .partition, 0x0, false⟩,
  ⟨0x4050, 1, 8, 8, 64, .rs, .partition, 0x0, true⟩]

/-- Rows of block cluster. -/
def rowsCluster : List RegRow := [
  ⟨0x0, 1, 8, 4, 32, .ro, .partition, 0x0, false⟩,
  ⟨0x8, 1, 8, 8, 64, .rs, .partition, 0x0, true⟩,
  ⟨0x10, 1, 8, 8, 64, .rs, .partition, 0x0, true⟩,
  ⟨0x18, 1, 8, 8, 64, .rs, .partition, 0x0, true⟩,
  ⟨0x20, 1, 8, 8, 64, .rs, .partition, 0x0, true⟩,
  ⟨0x28, 1, 8, 8, 64, .rs, .partition, 0x0, true⟩,
  ⟨0x30, 1, 8, 8, 64, .rs, .partition, 0x0, true⟩,
  ⟨0x38, 1, 8, 8, 64, .rs, .partition, 0x0, true⟩,
  ⟨0x40, 1, 8, 8, 64, .rs, .partition, 0x0, true⟩,
  ⟨0x48, 1, 8, 4, 32, .ro, .marshal, 0x0, true⟩]

/-- Rows of block core. -/
def rowsCore : List RegRow := [
  ⟨0x0, 1, 8, 4, 32, .ro, .partition, 0x0, false⟩,
  ⟨0x8, 1, 8, 4, 32, .ro, .partition, 0x0, false⟩,
  ⟨0xc, 1, 8, 4, 16, .ro, .partition, 0x0, false⟩,
  ⟨0x10, 1, 8, 4, 8, .ro, .marshal, 0x0, true⟩,
  ⟨0x18, 1, 8, 8, 64, .ro, .marshal, 0x0, false⟩,
  ⟨0x20, 1, 8, 8, 64, .rs, .partition, 0x0, true⟩,
  ⟨0x28, 1, 8, 8, 64, .rs, .partition, 0x0, true⟩,
  ⟨0x30, 1, 8, 8, 64, .rs, .partition, 0x0, true⟩,
  ⟨0x38, 1, 8, 8, 64, .rs, .partition, 0x0, true⟩,
  ⟨0x40, 1, 8, 4, 32, .rs, .partition, 0x0, true⟩,
  ⟨0x48, 1, 8, 4, 2, .wo, .marshal, 0x0, false⟩,
  ⟨0x50, 1, 8, 4, 32, .ro, .partition, 0x0, false⟩,
  ⟨0x58, 1, 8, 4, 32, .ro, .partition, 0x0, false⟩,
  ⟨0x5c, 1, 8, 4, 32, .ro, .partition, 0x0, false⟩,
  ⟨0x60, 1, 8, 4, 9, .ro, .partition, 0x0, false⟩,
  ⟨0x68, 1, 8, 8, 64, .rs, .partition, 0x0, true⟩,
  ⟨0x70, 1, 8, 8, 64, .rs, .partition, 0x0, true⟩,
  ⟨0x78, 1, 8, 8, 64, .rs, .partition, 0x0, true⟩,
  ⟨0x80, 1, 8, 8, 64, .rs, .partition, 0x0, true⟩,
  ⟨0x88, 1, 8, 8, 64, .rs, .partition, 0x0, true⟩,
  ⟨0x90, 1, 8, 4, 32, .ro, .partition, 0x0, false⟩,
  ⟨0x98, 1, 8, 4, 32, .rw, .partition, 0x0, false⟩,
  ⟨0xa0, 1, 8, 8, 64, .rs, .partition, 0x0, true⟩,
  ⟨0x100, 32, 4, 4, 32, .rw, .partition, 0x0, false⟩,
  ⟨0x4000, 1, 8, 4, 32, .ro, .partition, 0x0, false⟩,
  ⟨0x4008, 1, 8, 4, 32, .ro, .partition, 0x0, false⟩,
  ⟨0x4010, 1, 8, 8, 64, .rs, .partition, 0x0, true⟩,
  ⟨0x4018, 1, 8, 8, 64, .rs, .partition, 0x0, true⟩,
  ⟨0x4020, 1, 8, 8, 64, .rs, .partition, 0x0, true⟩,
  ⟨0x4028, 1, 8, 8, 64, .rs, .partition, 0x0, true⟩,
  ⟨0x4030, 1, 8, 8, 64, .rs, .partition, 0x0, true⟩,
  ⟨0x4038, 1, 8, 8, 64, .rs, .partition, 0x0, true⟩,
  ⟨0x4040, 1, 8, 8, 64, .ro, .partition, 0x0, false⟩,
  ⟨0x4048, 1, 8, 4, 32, .ro, .partition, 0x0, false⟩,
  ⟨0x4050, 1, 8, 8, 64, .rs, .partition, 0x0, true⟩,
  ⟨0x4058, 1, 8, 8, 64, .rs, .partition, 0x0, true⟩,
  ⟨0x4060, 1, 8, 8, 64, .rs, .partition, 0x0, true⟩,
  ⟨0x4068, 1, 8, 8, 64, .rs, .partition, 0x0, true⟩,
  ⟨0x4070, 1, 8, 8, 64, .rs, .partition, 0x0, true⟩]

/-- Rows of block group. -/
def rowsGroup : List RegRow := [
  ⟨0x0, 1, 8, 8, 64, .wo, .host, 0x0, false⟩,
  ⟨0x1000, 1, 8, 4, 26, .rw, .host, 0x0, false⟩,
  ⟨0x1008, 1, 8, 8, 64, .rw, .host, 0x0, false⟩,
  ⟨0x1010, 1, 8, 4, 2, .wo, .host, 0x0, false⟩,
  ⟨0x1018, 1, 8, 4, 32, .ro, .host, 0x0, false⟩,
  ⟨0x1020, 1, 8, 8, 48, .rw, .host, 0x0, false⟩]

/-- The rows of a block. -/
def blockRows : Block → List RegRow
  | .hifCap => rowsHifCap
  | .hif => rowsHif
  | .hifFlt => rowsHifFlt
  | .cch => rowsCch
  | .str => rowsStr
  | .mtr => rowsMtr
  | .pwr => rowsPwr
  | .dbg => rowsDbg
  | .mbx => rowsMbx
  | .port => rowsPort
  | .window => rowsWindow
  | .cluster => rowsCluster
  | .core => rowsCore
  | .group => rowsGroup
  | .msix | .pba => []

/-- The block, instance and offset in the block of a BAR0 offset; none where R422 names no block. -/
def blockOf (o : Nat) : Option (Block × Nat × Nat) :=
  if o < 0x80 then some (.hifCap, 0, o)
  else if 0x8000 ≤ o ∧ o < 0x8068 then some (.hif, 0, o - 0x8000)
  else if 0x9000 ≤ o ∧ o < 0x9064 then some (.hifFlt, 0, o - 0x9000)
  else if 0xA000 ≤ o ∧ o < 0xA320 then some (.cch, 0, o - 0xA000)
  else if 0xB000 ≤ o ∧ o < 0xB028 then some (.str, 0, o - 0xB000)
  else if 0xC000 ≤ o ∧ o < 0xC0A8 then some (.mtr, 0, o - 0xC000)
  else if 0xD000 ≤ o ∧ o < 0xD088 then some (.pwr, 0, o - 0xD000)
  else if 0xE000 ≤ o ∧ o < 0xE0A0 then some (.dbg, 0, o - 0xE000)
  else if 0x10000 ≤ o ∧ o < 0x12018 then some (.mbx, 0, o - 0x10000)
  else if 0x20000 ≤ o ∧ o < 0x30000 then some (.port, (o - 0x20000) / 0x1000, o % 0x1000)
  else if 0x30000 ≤ o ∧ o < 0x38000 then some (.msix, 0, o - 0x30000)
  else if 0x38000 ≤ o ∧ o < 0x39000 then some (.pba, 0, o - 0x38000)
  else if 0x100000 ≤ o ∧ o < 0x180000 then some (.window, (o - 0x100000) / 0x10000, o % 0x10000)
  else if 0x200000 ≤ o ∧ o < 0x2A0000 then some (.cluster, (o - 0x200000) / 0x8000, o % 0x8000)
  else if 0x400000 ≤ o ∧ o < 0x900000 then some (.core, (o - 0x400000) / 0x8000, o % 0x8000)
  else if 0x2000000 ≤ o ∧ o < 0x3000000 then some (.group, (o - 0x2000000) / 0x40000, o % 0x40000)
  else none

/-- Whether offset `r` of a block starts an instance of the row. -/
def RegRow.starts (row : RegRow) (r : Nat) : Bool :=
  row.off ≤ r && (r - row.off) % row.stride = 0 && (r - row.off) / row.stride < row.count

/-- Whether a request of `size` bytes at offset `r` lies within an instance of the row (R424). -/
def RegRow.within (row : RegRow) (r size : Nat) : Bool :=
  row.starts r && size ≤ row.bytes || (row.bytes = 8 && size = 4 && 4 ≤ r && row.starts (r - 4))

/-- The row a request of `size` bytes at BAR0 offset `o` lies in, with the offset of the register itself. -/
def regAt (o size : Nat) : Option (RegRow × Nat) :=
  match blockOf o with
  | none => none
  | some (b, _, r) =>
    match (blockRows b).find? (fun row => row.within r size) with
    | none => none
    | some row => some (row, if row.starts r then o else o - 4)

/-- LNK_GW_DROP lies in port 0's block only (R347). -/
def regNamed (o : Nat) : Bool := !(0x21000 ≤ o && o < 0x30000 && 0x68 ≤ o % 0x1000)

/-- Reset value of the register at BAR0 offset `o` (R11's Reset column; 0 where the tables give none, DESIGN CHOICE, log 2). -/
def regReset (o : Nat) : BitVec 64 :=
  match regAt o 4 with
  | some (row, a) => if a = o then BitVec.ofNat 64 row.reset else 0#64
  | none => 0#64

/-- MTX_STATUS (R72). -/
def Reg.mtxStatus (c : Nat) : Nat := 0x400000 + 0x8000 * c
/-- MTX_GLINT (R72). -/
def Reg.mtxGlint (c : Nat) : Nat := 0x400008 + 0x8000 * c
/-- MTX_GLINT_TAG (R72). -/
def Reg.mtxGlintTag (c : Nat) : Nat := 0x40000c + 0x8000 * c
/-- MTX_CSUM_COUNT (R72). -/
def Reg.mtxCsumCount (c : Nat) : Nat := 0x400010 + 0x8000 * c
/-- MTX_CSUM_TIME (R72). -/
def Reg.mtxCsumTime (c : Nat) : Nat := 0x400018 + 0x8000 * c
/-- MTX_ISSUE_WAIT (R72). -/
def Reg.mtxIssueWait (c : Nat) : Nat := 0x400020 + 0x8000 * c
/-- MTX_OUT_WAIT (R72). -/
def Reg.mtxOutWait (c : Nat) : Nat := 0x400028 + 0x8000 * c
/-- MTX_ACTIVE (R72). -/
def Reg.mtxActive (c : Nat) : Nat := 0x400030 + 0x8000 * c
/-- MTX_RETIRED (R72). -/
def Reg.mtxRetired (c : Nat) : Nat := 0x400038 + 0x8000 * c
/-- MTX_FLAGGED (R72). -/
def Reg.mtxFlagged (c : Nat) : Nat := 0x400040 + 0x8000 * c
/-- MTX_INJECT (R72). -/
def Reg.mtxInject (c : Nat) : Nat := 0x400048 + 0x8000 * c
/-- MTX_LAP_STATUS (R100). -/
def Reg.mtxLapStatus (c : Nat) : Nat := 0x400050 + 0x8000 * c
/-- MTX_LAP_REPLAY (R100). -/
def Reg.mtxLapReplay (c : Nat) : Nat := 0x400058 + 0x8000 * c
/-- MTX_LAP_PTAG (R100). -/
def Reg.mtxLapPtag (c : Nat) : Nat := 0x40005c + 0x8000 * c
/-- MTX_ASQ_LEVEL (R100). -/
def Reg.mtxAsqLevel (c : Nat) : Nat := 0x400060 + 0x8000 * c
/-- MTX_DESC_USED (R100). -/
def Reg.mtxDescUsed (c : Nat) : Nat := 0x400068 + 0x8000 * c
/-- MTX_FEED_BYTES (R100). -/
def Reg.mtxFeedBytes (c : Nat) : Nat := 0x400070 + 0x8000 * c
/-- MTX_DESC_WAIT (R100). -/
def Reg.mtxDescWait (c : Nat) : Nat := 0x400078 + 0x8000 * c
/-- MTX_LIST_WAIT (R100). -/
def Reg.mtxListWait (c : Nat) : Nat := 0x400080 + 0x8000 * c
/-- MTX_HSK_WAIT (R100). -/
def Reg.mtxHskWait (c : Nat) : Nat := 0x400088 + 0x8000 * c
/-- MTX_WDOG_CAUSE (R100). -/
def Reg.mtxWdogCause (c : Nat) : Nat := 0x400090 + 0x8000 * c
/-- MTX_SLOT_SEL (R110). -/
def Reg.mtxSlotSel (c : Nat) : Nat := 0x400098 + 0x8000 * c
/-- MTX_CONF_RETIRED (R110). -/
def Reg.mtxConfRetired (c : Nat) : Nat := 0x4000a0 + 0x8000 * c
/-- MTX_SLOT_DATA (R110). -/
def Reg.mtxSlotData (c i : Nat) : Nat := 0x400100 + 0x8000 * c + 4 * i
/-- DBG_SIMT_STATUS (R153). -/
def Reg.dbgSimtStatus (c : Nat) : Nat := 0x404000 + 0x8000 * c
/-- DBG_SIMT_PTAG (R153). -/
def Reg.dbgSimtPtag (c : Nat) : Nat := 0x404008 + 0x8000 * c
/-- DBG_SIMT_ISSUED (R153). -/
def Reg.dbgSimtIssued (c : Nat) : Nat := 0x404010 + 0x8000 * c
/-- DBG_SIMT_LANES (R153). -/
def Reg.dbgSimtLanes (c : Nat) : Nat := 0x404018 + 0x8000 * c
/-- DBG_SIMT_AGED (R153). -/
def Reg.dbgSimtAged (c : Nat) : Nat := 0x404020 + 0x8000 * c
/-- DBG_SIMT_HWAIT (R153). -/
def Reg.dbgSimtHwait (c : Nat) : Nat := 0x404028 + 0x8000 * c
/-- DBG_SIMT_ATOMS (R153). -/
def Reg.dbgSimtAtoms (c : Nat) : Nat := 0x404030 + 0x8000 * c
/-- DBG_SIMT_STXFAIL (R153). -/
def Reg.dbgSimtStxfail (c : Nat) : Nat := 0x404038 + 0x8000 * c
/-- DBG_COACH_PC (R153). -/
def Reg.dbgCoachPc (c : Nat) : Nat := 0x404040 + 0x8000 * c
/-- DBG_COACH_LOOP (R153). -/
def Reg.dbgCoachLoop (c : Nat) : Nat := 0x404048 + 0x8000 * c
/-- DBG_FENCE_WAIT (R170). -/
def Reg.dbgFenceWait (c : Nat) : Nat := 0x404050 + 0x8000 * c
/-- DBG_FENCE_WB (R170). -/
def Reg.dbgFenceWb (c : Nat) : Nat := 0x404058 + 0x8000 * c
/-- DBG_SQ_FULL (R170). -/
def Reg.dbgSqFull (c : Nat) : Nat := 0x404060 + 0x8000 * c
/-- DBG_RSV_LOST (R170). -/
def Reg.dbgRsvLost (c : Nat) : Nat := 0x404068 + 0x8000 * c
/-- DBG_DEV_ACCESS (R170). -/
def Reg.dbgDevAccess (c : Nat) : Nat := 0x404070 + 0x8000 * c
/-- CCH_STATUS (R198). -/
def Reg.cchStatus (k : Nat) : Nat := 0x200000 + 0x8000 * k
/-- CCH_HIT (R198). -/
def Reg.cchHit (k : Nat) : Nat := 0x200008 + 0x8000 * k
/-- CCH_MISS (R198). -/
def Reg.cchMiss (k : Nat) : Nat := 0x200010 + 0x8000 * k
/-- CCH_WB (R198). -/
def Reg.cchWb (k : Nat) : Nat := 0x200018 + 0x8000 * k
/-- CCH_FWD_MISS (R198). -/
def Reg.cchFwdMiss (k : Nat) : Nat := 0x200020 + 0x8000 * k
/-- CCH_INV_STALE (R198). -/
def Reg.cchInvStale (k : Nat) : Nat := 0x200028 + 0x8000 * k
/-- CCH_HOLD_WAIT (R198). -/
def Reg.cchHoldWait (k : Nat) : Nat := 0x200030 + 0x8000 * k
/-- CCH_HOME_BLOCK (R198). -/
def Reg.cchHomeBlock (k : Nat) : Nat := 0x200038 + 0x8000 * k
/-- CCH_RECALL (R198). -/
def Reg.cchRecall (k : Nat) : Nat := 0x200040 + 0x8000 * k
/-- CCH_CE (R198). -/
def Reg.cchCe (k : Nat) : Nat := 0x200048 + 0x8000 * k
/-- CCH_FATAL (R199). -/
def Reg.cchFatal : Nat := 0xa000
/-- CCH_FATAL_ADDR (R199). -/
def Reg.cchFatalAddr : Nat := 0xa008
/-- CCH_FATAL_TIME (R199). -/
def Reg.cchFatalTime : Nat := 0xa010
/-- CCH_DIR_PROBE (R199). -/
def Reg.cchDirProbe : Nat := 0xa018
/-- CCH_DIR_RESULT (R199). -/
def Reg.cchDirResult : Nat := 0xa020
/-- CCH_BRIDGE_RETRY (R199). -/
def Reg.cchBridgeRetry : Nat := 0xa028
/-- CCH_MAP_INDEX (R222). -/
def Reg.cchMapIndex (p : Nat) : Nat := 0x101000 + 0x10000 * p
/-- CCH_MAP_DATA0 (R222). -/
def Reg.cchMapData0 (p : Nat) : Nat := 0x101008 + 0x10000 * p
/-- CCH_MAP_DATA1 (R222). -/
def Reg.cchMapData1 (p : Nat) : Nat := 0x101010 + 0x10000 * p
/-- CCH_MAP_CMD (R222). -/
def Reg.cchMapCmd (p : Nat) : Nat := 0x101018 + 0x10000 * p
/-- CCH_MAP_STATUS (R222). -/
def Reg.cchMapStatus (p : Nat) : Nat := 0x101020 + 0x10000 * p
/-- CCH_MAP_WRITES (R222). -/
def Reg.cchMapWrites (p : Nat) : Nat := 0x101028 + 0x10000 * p
/-- CCH_XLAT_MISS (R222). -/
def Reg.cchXlatMiss (p : Nat) : Nat := 0x101030 + 0x10000 * p
/-- CCH_PF_COUNT (R222). -/
def Reg.cchPfCount (p : Nat) : Nat := 0x101038 + 0x10000 * p
/-- CCH_CHAN_REQ (R223). -/
def Reg.cchChanReq (i : Nat) : Nat := 0xa100 + 8 * i
/-- CCH_CHAN_HOT (R223). -/
def Reg.cchChanHot : Nat := 0xa300
/-- CCH_CHAN_IMBAL (R223). -/
def Reg.cchChanImbal : Nat := 0xa308
/-- CCH_RS_CE (R223). -/
def Reg.cchRsCe : Nat := 0xa310
/-- CCH_CHAN_RETRY (R223). -/
def Reg.cchChanRetry : Nat := 0xa318
/-- STR_Q_SEL (R254). -/
def Reg.strQSel (p : Nat) : Nat := 0x100000 + 0x10000 * p
/-- STR_Q_DATA (R254). -/
def Reg.strQData (p i : Nat) : Nat := 0x100008 + 0x10000 * p + 8 * i
/-- STR_Q_CMD (R254). -/
def Reg.strQCmd (p : Nat) : Nat := 0x100048 + 0x10000 * p
/-- STR_Q_STATUS (R254). -/
def Reg.strQStatus (p : Nat) : Nat := 0x100050 + 0x10000 * p
/-- STR_Q_HEAD (R254). -/
def Reg.strQHead (p : Nat) : Nat := 0x100058 + 0x10000 * p
/-- STR_Q_TAIL (R254). -/
def Reg.strQTail (p : Nat) : Nat := 0x10005c + 0x10000 * p
/-- STR_Q_INFO (R254). -/
def Reg.strQInfo (p : Nat) : Nat := 0x100060 + 0x10000 * p
/-- STR_RING (R254). -/
def Reg.strRing (p : Nat) : Nat := 0x100068 + 0x10000 * p
/-- STR_STARTED (R254). -/
def Reg.strStarted (p : Nat) : Nat := 0x100070 + 0x10000 * p
/-- STR_FAILED (R254). -/
def Reg.strFailed (p : Nat) : Nat := 0x100078 + 0x10000 * p
/-- STR_DROPPED (R254). -/
def Reg.strDropped (p : Nat) : Nat := 0x100080 + 0x10000 * p
/-- STR_PERIOD_MISS (R254). -/
def Reg.strPeriodMiss (p : Nat) : Nat := 0x100088 + 0x10000 * p
/-- STR_CQ_FULL (R254). -/
def Reg.strCqFull (p : Nat) : Nat := 0x100090 + 0x10000 * p
/-- STR_DB_IGNORED (R254). -/
def Reg.strDbIgnored (p : Nat) : Nat := 0x100098 + 0x10000 * p
/-- STR_WAIT_NS (R254). -/
def Reg.strWaitNs (p : Nat) : Nat := 0x1000a0 + 0x10000 * p
/-- STR_DECODED (R255). -/
def Reg.strDecoded : Nat := 0xb000
/-- STR_INFLIGHT (R255). -/
def Reg.strInflight : Nat := 0xb008
/-- STR_OPEN_HELD (R255). -/
def Reg.strOpenHeld : Nat := 0xb010
/-- STR_DECODE_BUSY (R255). -/
def Reg.strDecodeBusy : Nat := 0xb018
/-- HIF_CAP_VERSION (R278). -/
def Reg.hifCapVersion : Nat := 0x0
/-- HIF_CAP_VARIANT (R278). -/
def Reg.hifCapVariant : Nat := 0x4
/-- HIF_CAP_UNITS (R278). -/
def Reg.hifCapUnits : Nat := 0x8
/-- HIF_CAP_GEN (R278). -/
def Reg.hifCapGen : Nat := 0xc
/-- HIF_CAP_CLUSTERS (R278). -/
def Reg.hifCapClusters : Nat := 0x10
/-- HIF_CAP_CHANNELS (R278). -/
def Reg.hifCapChannels : Nat := 0x30
/-- HIF_CAP_PORTS (R278). -/
def Reg.hifCapPorts : Nat := 0x38
/-- HIF_CAP_DIES (R278). -/
def Reg.hifCapDies : Nat := 0x3c
/-- HIF_CAP_MHZ (R278). -/
def Reg.hifCapMhz : Nat := 0x40
/-- HIF_CAP_LPDDR (R278). -/
def Reg.hifCapLpddr : Nat := 0x44
/-- HIF_CAP_SLOTS (R278). -/
def Reg.hifCapSlots (i : Nat) : Nat := 0x48 + 4 * i
/-- HIF_CAP_TOPO (R278). -/
def Reg.hifCapTopo : Nat := 0x60
/-- HIF_CAP_PEERS (R278). -/
def Reg.hifCapPeers : Nat := 0x68
/-- HIF_CAP_LINKS (R278). -/
def Reg.hifCapLinks : Nat := 0x70
/-- HIF_CAP_CALLER (R278). -/
def Reg.hifCapCaller : Nat := 0x78
/-- STR_OBJ_SEL (R280). -/
def Reg.strObjSel (p : Nat) : Nat := 0x100100 + 0x10000 * p
/-- STR_OBJ_DATA (R280). -/
def Reg.strObjData (p i : Nat) : Nat := 0x100108 + 0x10000 * p + 8 * i
/-- STR_OBJ_CMD (R280). -/
def Reg.strObjCmd (p : Nat) : Nat := 0x100128 + 0x10000 * p
/-- STR_OBJ_STATUS (R280). -/
def Reg.strObjStatus (p : Nat) : Nat := 0x100130 + 0x10000 * p
/-- STR_FREEING (R280). -/
def Reg.strFreeing (p : Nat) : Nat := 0x100138 + 0x10000 * p
/-- STR_ENQ_COUNT (R280). -/
def Reg.strEnqCount (p : Nat) : Nat := 0x100140 + 0x10000 * p
/-- STR_FOREIGN (R280). -/
def Reg.strForeign (p : Nat) : Nat := 0x100148 + 0x10000 * p
/-- STR_EXPORT_FAIL (R280). -/
def Reg.strExportFail (p : Nat) : Nat := 0x100150 + 0x10000 * p
/-- STR_RELAY_IGNORED (R280). -/
def Reg.strRelayIgnored (p : Nat) : Nat := 0x100158 + 0x10000 * p
/-- STR_FOREIGN_ALL (R281). -/
def Reg.strForeignAll : Nat := 0xb020
/-- MTR_RING_HEAD (R310). -/
def Reg.mtrRingHead (p : Nat) : Nat := 0x102000 + 0x10000 * p
/-- MTR_RING_TAIL (R310). -/
def Reg.mtrRingTail (p : Nat) : Nat := 0x102008 + 0x10000 * p
/-- MTR_STATUS (R310). -/
def Reg.mtrStatus (p : Nat) : Nat := 0x102010 + 0x10000 * p
/-- MTR_RING_CMD (R310). -/
def Reg.mtrRingCmd (p : Nat) : Nat := 0x102018 + 0x10000 * p
/-- MTR_OPEN (R310). -/
def Reg.mtrOpen (p : Nat) : Nat := 0x102020 + 0x10000 * p
/-- MTR_BACKLOG (R310). -/
def Reg.mtrBacklog (p : Nat) : Nat := 0x102028 + 0x10000 * p
/-- MTR_ENERGY (R310). -/
def Reg.mtrEnergy (p : Nat) : Nat := 0x102030 + 0x10000 * p
/-- MTR_OVH (R310). -/
def Reg.mtrOvh (p : Nat) : Nat := 0x102038 + 0x10000 * p
/-- MTR_FRAME (R311). -/
def Reg.mtrFrame : Nat := 0xc000
/-- MTR_E_IN (R311). -/
def Reg.mtrEIn : Nat := 0xc008
/-- MTR_E_RAIL (R311). -/
def Reg.mtrERail (i : Nat) : Nat := 0xc010 + 8 * i
/-- MTR_AWAITING (R311). -/
def Reg.mtrAwaiting : Nat := 0xc070
/-- MTR_HOST_HEAD (R311). -/
def Reg.mtrHostHead : Nat := 0xc078
/-- MTR_HOST_TAIL (R311). -/
def Reg.mtrHostTail : Nat := 0xc080
/-- MTR_SENSOR (R311). -/
def Reg.mtrSensor : Nat := 0xc088
/-- MTR_BLOCK (R311). -/
def Reg.mtrBlock : Nat := 0xc090
/-- MTR_NOTE_LOST (R311). -/
def Reg.mtrNoteLost : Nat := 0xc098
/-- MTR_HSS_LEFT (R311). -/
def Reg.mtrHssLeft : Nat := 0xc0a0
/-- LNK_GW_DB (R340). -/
def Reg.lnkGwDb (m : Nat) : Nat := 0x2000000 + 0x40000 * m
/-- LNK_GW_REGOFS (R340). -/
def Reg.lnkGwRegofs (m : Nat) : Nat := 0x2001000 + 0x40000 * m
/-- LNK_GW_REGVAL (R340). -/
def Reg.lnkGwRegval (m : Nat) : Nat := 0x2001008 + 0x40000 * m
/-- LNK_GW_REGCMD (R340). -/
def Reg.lnkGwRegcmd (m : Nat) : Nat := 0x2001010 + 0x40000 * m
/-- LNK_GW_REGSTAT (R340). -/
def Reg.lnkGwRegstat (m : Nat) : Nat := 0x2001018 + 0x40000 * m
/-- LNK_GW_APBASE (R340). -/
def Reg.lnkGwApbase (m : Nat) : Nat := 0x2001020 + 0x40000 * m
/-- LNK_STATE (R347). -/
def Reg.lnkState (k : Nat) : Nat := 0x20000 + 0x1000 * k
/-- LNK_TX_FLITS (R347). -/
def Reg.lnkTxFlits (k : Nat) : Nat := 0x20008 + 0x1000 * k
/-- LNK_RX_FLITS (R347). -/
def Reg.lnkRxFlits (k : Nat) : Nat := 0x20010 + 0x1000 * k
/-- LNK_REPLAY (R347). -/
def Reg.lnkReplay (k : Nat) : Nat := 0x20018 + 0x1000 * k
/-- LNK_CRC_ERR (R347). -/
def Reg.lnkCrcErr (k : Nat) : Nat := 0x20020 + 0x1000 * k
/-- LNK_FEC_CORR (R347). -/
def Reg.lnkFecCorr (k : Nat) : Nat := 0x20028 + 0x1000 * k
/-- LNK_TAGFAIL (R347). -/
def Reg.lnkTagfail (k : Nat) : Nat := 0x20030 + 0x1000 * k
/-- LNK_CREDIT_VIOL (R347). -/
def Reg.lnkCreditViol (k : Nat) : Nat := 0x20038 + 0x1000 * k
/-- LNK_RETRAIN (R347). -/
def Reg.lnkRetrain (k : Nat) : Nat := 0x20040 + 0x1000 * k
/-- LNK_RATE_REFUSED (R347). -/
def Reg.lnkRateRefused (k : Nat) : Nat := 0x20048 + 0x1000 * k
/-- LNK_CMD (R347). -/
def Reg.lnkCmd (k : Nat) : Nat := 0x20050 + 0x1000 * k
/-- LNK_PEER_SERIAL (R347). -/
def Reg.lnkPeerSerial (k i : Nat) : Nat := 0x20058 + 0x1000 * k + 8 * i
/-- LNK_GW_DROP (R347). -/
def Reg.lnkGwDrop (k : Nat) : Nat := 0x20068 + 0x1000 * k
/-- LNK_H_SEL (R348). -/
def Reg.lnkHSel (p : Nat) : Nat := 0x103000 + 0x10000 * p
/-- LNK_H_DATA (R348). -/
def Reg.lnkHData (p i : Nat) : Nat := 0x103008 + 0x10000 * p + 8 * i
/-- LNK_H_CMD (R348). -/
def Reg.lnkHCmd (p : Nat) : Nat := 0x103028 + 0x10000 * p
/-- LNK_H_STATUS (R348). -/
def Reg.lnkHStatus (p : Nat) : Nat := 0x103030 + 0x10000 * p
/-- LNK_RQ_DB (R348). -/
def Reg.lnkRqDb (p : Nat) : Nat := 0x103038 + 0x10000 * p
/-- LNK_SENT (R348). -/
def Reg.lnkSent (p : Nat) : Nat := 0x103040 + 0x10000 * p
/-- LNK_RNR (R348). -/
def Reg.lnkRnr (p : Nat) : Nat := 0x103048 + 0x10000 * p
/-- LNK_RX_MSGS (R348). -/
def Reg.lnkRxMsgs (p : Nat) : Nat := 0x103050 + 0x10000 * p
/-- LNK_RX_REFUSED (R348). -/
def Reg.lnkRxRefused (p : Nat) : Nat := 0x103058 + 0x10000 * p
/-- PWR_STATUS (R375). -/
def Reg.pwrStatus : Nat := 0xd000
/-- PWR_P100 (R375). -/
def Reg.pwrP100 : Nat := 0xd008
/-- PWR_LIMIT_NS (R375). -/
def Reg.pwrLimitNs : Nat := 0xd010
/-- PWR_THERM_NS (R375). -/
def Reg.pwrThermNs : Nat := 0xd018
/-- PWR_DROOP_EVT (R375). -/
def Reg.pwrDroopEvt (i : Nat) : Nat := 0xd020 + 8 * i
/-- PWR_STRETCH_NS (R375). -/
def Reg.pwrStretchNs (i : Nat) : Nat := 0xd050 + 8 * i
/-- PWR_TEMP_MAX (R375). -/
def Reg.pwrTempMax : Nat := 0xd080
/-- HIF_MBX_CMD (R376). -/
def Reg.hifMbxCmd : Nat := 0x12000
/-- HIF_MBX_STATUS (R376). -/
def Reg.hifMbxStatus : Nat := 0x12008
/-- HIF_MBX_IRQ (R376). -/
def Reg.hifMbxIrq : Nat := 0x12010
/-- HIF_FLT_HEAD (R396). -/
def Reg.hifFltHead (p : Nat) : Nat := 0x109000 + 0x10000 * p
/-- HIF_FLT_TAIL (R396). -/
def Reg.hifFltTail (p : Nat) : Nat := 0x109008 + 0x10000 * p
/-- HIF_FLT_LOST (R396). -/
def Reg.hifFltLost (p : Nat) : Nat := 0x109010 + 0x10000 * p
/-- HIF_FLT_VEC (R396). -/
def Reg.hifFltVec (p : Nat) : Nat := 0x109018 + 0x10000 * p
/-- HIF_FLT_FATAL_VEC (R396). -/
def Reg.hifFltFatalVec : Nat := 0x9040
/-- HIF_FLT_FATAL_CNT (R396). -/
def Reg.hifFltFatalCnt : Nat := 0x9048
/-- HIF_RESET (R396). -/
def Reg.hifReset : Nat := 0x9050
/-- HIF_START (R396). -/
def Reg.hifStart : Nat := 0x9058
/-- HIF_RESETS (R396). -/
def Reg.hifResets : Nat := 0x9060
/-- DBG_TR_CTL (R416). -/
def Reg.dbgTrCtl (p : Nat) : Nat := 0x104000 + 0x10000 * p
/-- DBG_TR_MINWAIT (R416). -/
def Reg.dbgTrMinwait (p : Nat) : Nat := 0x104008 + 0x10000 * p
/-- DBG_TR_BASE (R416). -/
def Reg.dbgTrBase (p : Nat) : Nat := 0x104010 + 0x10000 * p
/-- DBG_TR_CFG (R416). -/
def Reg.dbgTrCfg (p : Nat) : Nat := 0x104018 + 0x10000 * p
/-- DBG_TR_HEAD (R416). -/
def Reg.dbgTrHead (p : Nat) : Nat := 0x104020 + 0x10000 * p
/-- DBG_TR_TAIL (R416). -/
def Reg.dbgTrTail (p : Nat) : Nat := 0x104028 + 0x10000 * p
/-- DBG_TR_STATUS (R416). -/
def Reg.dbgTrStatus (p : Nat) : Nat := 0x104030 + 0x10000 * p
/-- DBG_TR_CMD (R416). -/
def Reg.dbgTrCmd (p : Nat) : Nat := 0x104038 + 0x10000 * p
/-- DBG_TR_LOST (R416). -/
def Reg.dbgTrLost (p : Nat) : Nat := 0x104040 + 0x10000 * p
/-- DBG_TR_VEC (R416). -/
def Reg.dbgTrVec (p : Nat) : Nat := 0x104048 + 0x10000 * p
/-- DBG_KV_READ (R416). -/
def Reg.dbgKvRead (p : Nat) : Nat := 0x104050 + 0x10000 * p
/-- DBG_FREEZE_CMD (R416). -/
def Reg.dbgFreezeCmd : Nat := 0xe000
/-- DBG_FREEZE_STATUS (R416). -/
def Reg.dbgFreezeStatus : Nat := 0xe008
/-- DBG_FREEZE_TIME (R416). -/
def Reg.dbgFreezeTime : Nat := 0xe010
/-- DBG_FREEZE_ID (R416). -/
def Reg.dbgFreezeId : Nat := 0xe018
/-- DBG_FREEZE_BOUNCE (R416). -/
def Reg.dbgFreezeBounce : Nat := 0xe020
/-- DBG_FREEZE_REPEAT (R416). -/
def Reg.dbgFreezeRepeat : Nat := 0xe028
/-- DBG_RESET_GLITCH (R416). -/
def Reg.dbgResetGlitch : Nat := 0xe030
/-- DBG_BAD_WRITE (R416). -/
def Reg.dbgBadWrite : Nat := 0xe038
/-- DBG_BAD_DOORBELL (R416). -/
def Reg.dbgBadDoorbell : Nat := 0xe040
/-- DBG_PF_BAR4 (R416). -/
def Reg.dbgPfBar4 : Nat := 0xe048
/-- DBG_BAD_ACCESS (R416). -/
def Reg.dbgBadAccess : Nat := 0xe050
/-- DBG_HTR_BASE (R416). -/
def Reg.dbgHtrBase : Nat := 0xe058
/-- DBG_HTR_CFG (R416). -/
def Reg.dbgHtrCfg : Nat := 0xe060
/-- DBG_HTR_HEAD (R416). -/
def Reg.dbgHtrHead : Nat := 0xe068
/-- DBG_HTR_TAIL (R416). -/
def Reg.dbgHtrTail : Nat := 0xe070
/-- DBG_HTR_CMD (R416). -/
def Reg.dbgHtrCmd : Nat := 0xe078
/-- DBG_HTR_STATUS (R416). -/
def Reg.dbgHtrStatus : Nat := 0xe080
/-- DBG_HTR_LOST (R416). -/
def Reg.dbgHtrLost : Nat := 0xe088
/-- DBG_ITR_COUNT (R416). -/
def Reg.dbgItrCount : Nat := 0xe090
/-- DBG_ITR_CMD (R416). -/
def Reg.dbgItrCmd : Nat := 0xe098
/-- HIF_LINK_STATUS (R432). -/
def Reg.hifLinkStatus : Nat := 0x8000
/-- HIF_RETRAINS (R432). -/
def Reg.hifRetrains : Nat := 0x8008
/-- HIF_CPL_TIMEOUT (R432). -/
def Reg.hifCplTimeout : Nat := 0x8010
/-- HIF_CPL_ERR (R432). -/
def Reg.hifCplErr : Nat := 0x8018
/-- HIF_POISON_RX (R432). -/
def Reg.hifPoisonRx : Nat := 0x8020
/-- HIF_MSI_DROP (R432). -/
def Reg.hifMsiDrop : Nat := 0x8028
/-- HIF_PTM_OFFSET (R432). -/
def Reg.hifPtmOffset : Nat := 0x8030
/-- HIF_PTM_CMD (R432). -/
def Reg.hifPtmCmd : Nat := 0x8038
/-- HIF_PTM_STATUS (R432). -/
def Reg.hifPtmStatus : Nat := 0x8040
/-- HIF_PTM_ERR (R432). -/
def Reg.hifPtmErr : Nat := 0x8048
/-- HIF_PTM_INTERVAL (R432). -/
def Reg.hifPtmInterval : Nat := 0x8050
/-- HIF_IDE_REQ (R432). -/
def Reg.hifIdeReq : Nat := 0x8058
/-- HIF_IDE_REFUSED (R432). -/
def Reg.hifIdeRefused : Nat := 0x8060

end Sys2Proof.Machine
end

