-- ==== Sys2Proof/Machine/Ops.lean ====
section
/-! DEFINITION. The operations every family uses: outcomes, time, free values, registers and counters, units and
partitions, MSI-X, fault rings, alarms, trace buffers. -/

namespace Sys2Proof.Machine

/-- The outcome of a command. -/
abbrev Res := Host.Outcome State Fault Refusal

/-- An event takes effect when its condition holds; a command for an event that is not due changes nothing (DESIGN CHOICE, log 5). -/
def guarded (enabled : Bool) (s t : State) : Res := .next (if enabled then t else s)

/-- A command that names a unit outside the spec's numbering stops (DESIGN CHOICE, log 6). -/
def onUnit (named : Bool) (r : Res) : Res := if named then r else .fault .noSuchUnit

/-- After step 6 of R389 the module is off: until it starts again only its pins, its cables and its input reach it (R435). -/
def powered (s : State) (r : Res) : Res := if s.boot.off then .next s else r

/-! ### Time and free values -/

/-- Device time advances (a 64-bit count of nanoseconds). -/
def State.tick (s : State) (dt : Nat) : State := { s with time := wrap64 (s.time + dt) }

/-- Nanoseconds from device time `t` to now, modulo 2^64. -/
def State.since (s : State) (t : Nat) : Nat := (s.time + 2 ^ 64 - t % 2 ^ 64) % 2 ^ 64

/-- The next free value (R13, DESIGN CHOICE, log 11), truncated to `bits`. -/
def State.freeVal (s : State) (bits : Nat) : Nat := (Config.free s.freeCtr).toNat % 2 ^ bits

/-- Advance the counter of free values. -/
def State.useFree (s : State) (n : Nat) : State := { s with freeCtr := s.freeCtr + n }

/-- A fresh identifier. -/
def State.useId (s : State) : State := { s with nextId := s.nextId + 1 }

/-- Append to what leaves the module. -/
def State.emit (s : State) (o : Out) : State := { s with out := s.out ++ [o] }

/-! ### Registers with storage -/

/-- The value a register holds. -/
def State.reg (s : State) (o : Nat) : Nat := (Tab.get (regReset o) s.regs o).toNat

/-- Set a register. -/
def State.setReg (s : State) (o v : Nat) : State :=
  { s with regs := Tab.set (regReset o) s.regs o (BitVec.ofNat 64 v) }

/-- Add to a counter, which wraps at 64 bits. -/
def State.count (s : State) (o n : Nat) : State := s.setReg o (wrap64 (s.reg o + n))

/-- Add to a 32-bit counter. -/
def State.count32 (s : State) (o n : Nat) : State := s.setReg o ((s.reg o + n) % 2 ^ 32)

/-- Add to a saturating 32-bit counter. -/
def State.countSat (s : State) (o n : Nat) : State := s.setReg o (min (s.reg o + n) (2 ^ 32 - 1))

/-- Counters of cycles count time the model has no clock for: each takes a free number of cycles more (DESIGN CHOICE, log
16). -/
def State.accrue (s : State) (l : List Nat) : State := l.foldl (fun s o => (s.count o (s.freeVal 64)).useFree 1) s

/-- The unit behind the status register at `o` is seen to have done its last command. -/
def State.seenDone (s : State) (o : Nat) : State :=
  State.useFree { s with busy := s.busy.filter (fun x => x ≠ o) } 1

/-- Whether the unit behind the status register at `o` is still BUSY with its last command: the time a command takes is
not stated, and a free value tells (DESIGN CHOICE, log 63). -/
def State.stillBusy (s : State) (o : Nat) : State × Bool :=
  if !s.busy.contains o then (s, false)
  else if s.freeVal 1 = 1 then (s.useFree 1, true)
  else (s.seenDone o, false)

/-- A command has been given to the unit behind the status register at `o`. -/
def State.markBusy (s : State) (o : Nat) : State := { s with busy := o :: s.busy.filter (fun x => x ≠ o) }

/-- A command written to a command register: ignored while the unit is BUSY, else performed in the instant of the write,
BUSY staying set until the unit is seen done. -/
def State.command (s : State) (o : Nat) (ignored f : State → State) : State :=
  let r := s.stillBusy o
  if r.2 then ignored r.1 else (f r.1).markBusy o

/-- Set one field of a register. -/
def State.setRegFld (s : State) (o lo n v : Nat) : State := s.setReg o (setFld (s.reg o) lo n v)

/-- Set every listed register to its reset value. -/
def State.resetRegs (s : State) (l : List Nat) : State := { s with regs := s.regs.filter (fun p => p.1 ∉ l) }

/-! ### Status codes (R251) -/

/-- Status codes of packets, launches and records (R251). -/
def Stat.ok := 0x00
def Stat.badOpcode := 0x01
def Stat.badField := 0x02
def Stat.placement := 0x03
def Stat.absentUnit := 0x04
def Stat.occupancy := 0x05
def Stat.staleObject := 0x06
def Stat.pageFault := 0x07
def Stat.memError := 0x08
def Stat.depError := 0x09
def Stat.waitTimeout := 0x0A
def Stat.fenceOrder := 0x0B
def Stat.foreign := 0x0C
def Stat.overflow := 0x0D
def Stat.reqBusy := 0x0E
def Stat.reqMismatch := 0x0F
def Stat.ringOverrun := 0x10
def Stat.linkError := 0x11
def Stat.droppedLate := 0x18
def Stat.discarded := 0x19
def Stat.aborted := 0x1A
def Stat.badLap := 0x20
def Stat.pacedSpan := 0x21
def Stat.badFormat := 0x22
def Stat.badRegion := 0x23
def Stat.lapChanged := 0x24
def Stat.badDesc := 0x25
def Stat.descMismatch := 0x26
def Stat.descShort := 0x27
def Stat.descExcess := 0x28
def Stat.addrProg := 0x29
def Stat.overlap := 0x2A
def Stat.badScale := 0x2B
def Stat.checksum := 0x2C
def Stat.glintStop := 0x2D
def Stat.glint := 0x2E
def Stat.watchdog := 0x2F
def Stat.illegal := 0x30
def Stat.regRange := 0x31
def Stat.align := 0x32
def Stat.scratchRange := 0x33
def Stat.atomRegion := 0x34
def Stat.badBaton := 0x35
def Stat.scope := 0x36
def Stat.loop := 0x37

/-- Whether a status is a stopping status (R252). -/
def stopping (st : Nat) : Bool :=
  st != Stat.ok && st != Stat.droppedLate && st != Stat.discarded && st != Stat.aborted

/-! ### Units (R5, R278) -/

/-- A Xiari 2-C has one die. -/
def State.oneDie (s : State) : Bool := s.units.variant = 3
/-- Clusters, cores, ports, channels and LPDDR5X units in the numbering. -/
def State.nClusters (s : State) : Nat := if s.oneDie then 10 else 20
def State.nCores (s : State) : Nat := 8 * s.nClusters
def State.nPorts (s : State) : Nat := if s.oneDie then 8 else 16
def State.nChannels (s : State) : Nat := if s.oneDie then 32 else 64
def State.nUnits (s : State) : Nat := if s.oneDie then 256 else 512

/-- The clusters fused off: exactly two of each die of a Xiari 2-B, those `fused` names first; none on another variant (R2). -/
def State.fusedOff (s : State) : List Nat :=
  if s.units.variant = 2 then
    [0, 1].flatMap (fun d =>
      let l := (List.range 10).map (fun k => 10 * d + k)
      (l.filter (fun k => bitOf s.units.fused k) ++ l.filter (fun k => !bitOf s.units.fused k)).take 2)
  else []

/-- Presence of clusters, cores and ports. -/
def State.clusterOn (s : State) (k : Nat) : Bool := k < s.nClusters && bitOf s.units.clusters k && !s.fusedOff.contains k
def State.coreOn (s : State) (c : Nat) : Bool := c < s.nCores && s.clusterOn (c / 8) && bitOf s.units.cores c
def State.portOn (s : State) (k : Nat) : Bool := k < s.nPorts && bitOf s.units.ports k

/-- Whether the module runs work: READY, or an orderly power-down that still lets started packets run (R377, R389). -/
def State.alive (s : State) : Bool := !s.boot.off && (s.boot.start = 7 || (s.boot.start = 10 && s.boot.pdStep ≤ 2))

/-! ### Partitions (R219, R257) -/

/-- The clusters of partition `p`, as a mask. -/
def State.pClusters (s : State) (p : Nat) : Nat := s.entry (0x4100 + p) 0x01 % 2 ^ 20
/-- The LPDDR5X units of partition `p`, as a mask. -/
def State.pUnits (s : State) (p : Nat) : Nat := s.entry (0x4100 + p) 0x02
/-- First map unit and number of map units. -/
def State.mapFirst (s : State) (p : Nat) : Nat := s.entry (0x4100 + p) 0x03
def State.mapUnits (s : State) (p : Nat) : Nat := s.entry (0x4100 + p) 0x04

/-- The partition that holds cluster `k`. -/
def State.partOfCluster (s : State) (k : Nat) : Option Nat := (List.range 8).find? (fun p => bitOf (s.pClusters p) k)
/-- The partition that holds core `c`. -/
def State.partOfCore (s : State) (c : Nat) : Option Nat := s.partOfCluster (c / 8)
/-- The partition that holds LPDDR5X unit `u`. -/
def State.partOfUnit (s : State) (u : Nat) : Option Nat := (List.range 8).find? (fun p => bitOf (s.pUnits p) u)

/-- The CLEARING entry of partition `p` (R219). -/
def State.clearing (s : State) (p : Nat) : Nat :=
  bitsOf ((List.range 20).map (fun k => s.pmap.clearSlices.contains k && bitOf (s.pClusters p) k)) +
    2 ^ 20 * (s.pmap.clearUnits.filter (fun u => bitOf (s.pUnits p) u)).length

/-- Subentries that give the first slot and the slot count of a partition, by kind of slot. -/
inductive Kind where
  | ctx | queue | mobj | fence | baton | req | handle
  deriving DecidableEq, Repr

/-- Subindex of the first slot of a kind; the count follows it. -/
def Kind.sub : Kind → Nat
  | .ctx => 0x06 | .queue => 0x08 | .mobj => 0x0A | .fence => 0x0C | .baton => 0x0E | .req => 0x10 | .handle => 0x13

/-- Slots of a kind the module holds (R256, R329). -/
def Kind.slots : Kind → Nat
  | .ctx => 4096 | .queue => 65536 | .mobj => 1048576 | .fence => 262144 | .baton => 8192 | .req => 65536
  | .handle => 8192

/-- First slot of a kind of partition `p`, and how many it has. -/
def State.first (s : State) (p : Nat) (k : Kind) : Nat := s.entry (0x4100 + p) k.sub
def State.slots (s : State) (p : Nat) (k : Kind) : Nat := s.entry (0x4100 + p) (k.sub + 1)

/-- Whether slot `n` of a kind lies in the partition's range (R257). -/
def State.inRange (s : State) (p : Nat) (k : Kind) (n : Nat) : Bool :=
  s.first p k ≤ n && n < s.first p k + s.slots p k

/-- The partition whose range holds slot `n`. -/
def State.partOf (s : State) (k : Kind) (n : Nat) : Option Nat := (List.range 8).find? (fun p => s.inRange p k n)

/-- Whether partition `p` has a carve-out: a cluster. -/
def State.carved (s : State) (p : Nat) : Bool := s.pClusters p != 0

/-- The function of a partition (R419): its VF while enabled, else the PF. -/
def State.fnOf (s : State) (p : Nat) : Nat := if s.pcie.vfEnable && p + 1 ≤ s.pcie.numVfs then p + 1 else 0

/-- Whether a function exists: the PF, or a VF enabled by the host (R418, R420). -/
def State.fnOn (s : State) (fn : Nat) : Bool := fn = 0 || (s.pcie.vfEnable && fn ≤ s.pcie.numVfs && fn ≤ 8)

/-- Whether a function may act for partition `p` (R12, R419). -/
def actsFor (fn p : Nat) : Bool := fn = 0 || fn = p + 1

/-! ### MSI-X (R427, R428) -/

/-- Entries of a function's table. -/
def msixEntries (fn : Nat) : Nat := if fn = 0 then 256 else 224

/-- A function's PCIe state. -/
def State.pfn (s : State) (fn : Nat) : PFn := Tab.get PFn.init s.pcie.fns fn
def State.setPfn (s : State) (fn : Nat) (f : PFn) : State :=
  { s with pcie := { s.pcie with fns := Tab.set PFn.init s.pcie.fns fn f } }

/-- An entry of a vector table: address, data, vector control with the mask bit (bit 96), masked at reset. -/
def PFn.entry (f : PFn) (v : Nat) : BitVec 128 := Tab.get (BitVec.ofNat 128 (2 ^ 96)) f.table v

/-- A write of the module to host memory: a posted write where the PCIe link is up, else a write that waits to travel to
the host anchor (R339). -/
def State.hostPut (s : State) (addr : Nat) (bytes : List Byte) : State :=
  if s.pcie.link then s.emit (.pwrite addr bytes)
  else { s with links := { s.links with hostWrites := s.links.hostWrites ++ [(addr, bytes)] } }

/-- A leg's interrupt stands among its host writes at an address no write has. -/
def legIrq (v : Nat) : Nat := 2 ^ 64 + v

/-- Send the message of a vector. -/
def State.sendMsix (s : State) (fn v : Nat) : State :=
  let e := ((s.pfn fn).entry v).toNat
  s.emit (.msix fn v (fld e 0 64) (fld e 64 32))

/-- Raise a vector of a function (R427, R428); on a leg it becomes an interrupt request to the host anchor (R339). -/
def State.raise (s : State) (fn v : Nat) : State :=
  let f := s.pfn fn
  if !s.pcie.link then { s with links := { s.links with hostWrites := s.links.hostWrites ++ [(legIrq v, [])] } }
  else if msixEntries fn ≤ v ∨ f.msix = false then s.count Reg.hifMsiDrop 1
  else if f.d3 || f.fmask || bitOf (f.entry v).toNat 96 then
    s.setPfn fn { f with pba := setFld f.pba v 1 1 }
  else s.sendMsix fn v

/-- Raise the vector of a register field with EN in bit 15, for partition `p`. -/
def State.raiseField (s : State) (p field : Nat) : State :=
  if bitOf field 15 then s.raise (s.fnOf p) (fld field 0 11) else s

/-! ### Records of 64 bytes -/

/-- The bytes of a record: fields of offset, size and value over zeros, little-endian (R9). -/
def layout (n : Nat) (fields : List (Nat × Nat × Nat)) : List Byte :=
  Mem.bytes (fields.foldl (fun m f => Mem.write m f.1 (leBytes f.2.1 f.2.2)) []) 0 n

/-- A field of a record given as bytes. -/
def overlay (record : List Byte) (o : Nat) (bytes : List Byte) : List Byte :=
  record.take o ++ bytes ++ record.drop (o + bytes.length)

/-- The identity certificate (R381): its signed 200 bytes and the two signatures of the authority. -/
def State.identCert (s : State) : List Byte :=
  let part (i : Nat) : Nat := leNat (Config.identPart i)
  layout 200 [(0, 4, 1), (4, 16, Config.serial.toNat), (20, 1, s.units.variant), (24, 97, leNat (Crypto.pubOf (Crypto.keyOf 1))),
    (121, 52, leNat (Crypto.hssPub 1)), (176, 16, part 2), (192, 4, part 3)] ++ leBytes 3628 (part 4)

/-! ### Fault records (R393, R394, R396) -/

/-- Header and body of a fault record. -/
structure FaultRec where
  kind : Nat
  status : Nat
  source : Nat
  part : Nat
  ptag : Nat
  queue : Nat
  ctx : Nat
  body : List (Nat × Nat × Nat)
  deriving DecidableEq, Repr

/-- The bytes of a fault record with its SEQ and TIME. -/
def FaultRec.bytes (r : FaultRec) (seq time : Nat) : List Byte :=
  layout 64 ([(0, 1, r.kind), (1, 1, r.status), (2, 1, r.source), (3, 1, r.part), (4, 4, seq), (8, 8, time),
    (16, 4, r.ptag), (20, 2, r.queue), (22, 2, r.ctx)] ++ r.body)

/-- Write a record into partition `p`'s fault ring, or count it lost (R396). -/
def State.faultPut (s : State) (p : Nat) (bytes : Nat → List Byte) : State :=
  let h := s.reg (Reg.hifFltHead p)
  let t := s.reg (Reg.hifFltTail p)
  if (h + 2 ^ 32 - t) % 2 ^ 32 < 64 then
    let ring := Mem.write (Tab.get [] s.rings p) (64 * (h % 64)) (bytes h)
    let s := { s with rings := Tab.set [] s.rings p ring }
    (s.setReg (Reg.hifFltHead p) ((h + 1) % 2 ^ 32)).raiseField p (s.reg (Reg.hifFltVec p))
  else s.count (Reg.hifFltLost p) 1

/-- Write a fault record into its partition's ring. -/
def State.faultRec (s : State) (r : FaultRec) : State :=
  s.faultPut r.part (fun seq => r.bytes seq s.time)

/-- Write a per-partition record with its arguments (R394). -/
def State.partRec (s : State) (p event : Nat) (args : List Nat) : State :=
  s.faultRec { kind := 3, status := event, source := 0, part := p, ptag := 0, queue := 0, ctx := 0,
               body := args.zipIdx.map (fun a => (24 + 8 * a.2, 8, a.1)) }

/-! ### Activity charged to meter indices (R287, R288) -/

/-- Indices beside the pool of meter indices. -/
def unrequested (p : Nat) : Nat := 131072 + p
def moduleIndex : Nat := 131080

/-- Events of the counter sites: issue groups, active lanes, MACs by rate row of R53 (from 2), tile store bytes, feeder
bytes, coach instructions; slice reads and writes; cache hits, requests, write-backs, forwards; mesh transfers times hops,
bridge crossings; DMA bytes, packets decoded; memory reads, writes, row activations; flits sent and received,
relay-reduction elements; TLP payload bytes in and out. -/
def Site.issues := 0
def Site.lanes := 1
def Site.macs := 2
def Site.tileBytes := 7
def Site.feederBytes := 8
def Site.coach := 9
def Site.dmaBytes := 18
def Site.decoded := 19
def Site.flitsOut := 23
def Site.flitsIn := 24
def Site.reduced := 25
def Site.tlpIn := 26
def Site.tlpOut := 27

/-- The rails an event's energy is modelled on; those of a core, slice or cache are its die's. -/
def siteRails (event die : Nat) : List Nat :=
  if event ≤ 9 then [die % 2, 2 + die % 2]
  else if event ≤ 11 then [2 + die % 2]
  else if event ≤ 15 then [2 + die % 2, 4]
  else if event ≤ 19 then [4]
  else if event ≤ 22 then [5, 6, 7, 8]
  else if event ≤ 25 then [9]
  else if event ≤ 27 then [10]
  else []

/-- A site counts `n` events for an index. -/
def State.tally (s : State) (idx event die n : Nat) : State :=
  let k := 64 * idx + 2 * event + die % 2
  { s with meter := { s.meter with acts := Tab.set 0 s.meter.acts k (Tab.get 0 s.meter.acts k + n) } }

/-! ### Ralxon PDUs (R349, R351, R352, R359) -/

/-- Bytes of an item: head, data, zeros to a multiple of 4 (R352). -/
def itemBytes (i : Item) (istatus : Nat) : List Byte :=
  layout 8 [(0, 2, i.index), (2, 1, i.sub), (3, 1, i.type), (4, 2, i.data.length), (6, 1, istatus)] ++ i.data ++
    List.replicate ((4 - i.data.length % 4) % 4) 0#8

/-- Length of a list of items. -/
def itemsLen (items : List (Item × Nat)) : Nat := (items.map (fun i => (itemBytes i.1 i.2).length)).sum

/-- Bytes of a PDU (R351). -/
def pduBytes (op pflags status session seq retry : Nat) (items : List (Item × Nat)) : List Byte :=
  layout 24 [(0, 1, 1), (1, 1, op), (2, 1, pflags), (3, 1, status), (4, 2, session), (6, 2, items.length), (8, 4, seq),
    (12, 4, retry), (16, 2, itemsLen items)] ++ items.flatMap (fun i => itemBytes i.1 i.2)

/-- A PDU as the payload of a frame: zeros fill it to 46 bytes (R349). -/
def framed (pdu : List Byte) : List Byte := pdu ++ List.replicate (46 - pdu.length) 0#8

/-- The tag of a session's PDU: the first 16 bytes of HMAC-SHA-256 under the session key (R359). -/
def Session.tag (k : Session) (pdu : List Byte) : List Byte := (Crypto.sha2.hmac k.key pdu).take 16

/-- A PDU of a session, with its tag, in a frame to the session's MAC address. -/
def Session.frame (k : Session) (pdu : List Byte) : Out := .frame k.mac (framed (pdu ++ k.tag pdu))

/-! ### Alarms (R368, R369) -/

/-- History of an alarm that has not been raised. -/
def AlarmRec.init : AlarmRec := { count := 0, first := 0, last := 0, detail := 0 }

/-- The entries 0x7100 + c: COUNT, FIRST, LAST and DETAIL. -/
def alarmItems (c : Nat) (a : AlarmRec) : List (Item × Nat) :=
  let item (sub type n v : Nat) : Item × Nat := ({ index := 0x7100 + c, sub := sub, type := type, data := leBytes n v }, 0)
  [item 1 4 4 a.count, item 2 5 8 a.first, item 3 5 8 a.last, item 4 5 8 a.detail]

/-- The ALARM PDU of alarm `c` to a session; the spec gives its SEQ no value: a free one (log 71). -/
def alarmPdu (c : Nat) (a : AlarmRec) (n : Nat) (k : Session) (seq : Nat) : Out :=
  k.frame (pduBytes 0x20 0 0 n seq 0 (alarmItems c a))

/-- Raise alarm `c`: latch it, set ACTIVE while the condition holds, keep its history, send the ALARM PDUs and raise
ALARM_VECTOR. -/
def State.alarm (s : State) (c detail : Nat) (active : Bool) : State :=
  let d := s.dict
  let a := Tab.get AlarmRec.init d.alarms c
  let a' : AlarmRec := { count := (a.count + 1) % 2 ^ 32, first := if a.count = 0 then s.time else a.first,
                         last := s.time, detail := detail }
  let d := { d with alarmLatched := setFld d.alarmLatched c 1 1,
                    alarmActive := if active then setFld d.alarmActive c 1 1 else d.alarmActive,
                    alarms := Tab.set AlarmRec.init d.alarms c a' }
  let open_ := d.sessions.filter (fun p => p.2.opened)
  let pdus := open_.zipIdx.map (fun p => alarmPdu c a' p.1.1 p.1.2 ((s.useFree p.2).freeVal 32))
  let s := State.useFree { s with dict := d, out := s.out ++ pdus } open_.length
  s.raise 0 (s.entry 0x7000 5)

/-- The condition of alarm `c` no longer holds. -/
def State.alarmOff (s : State) (c : Nat) : State :=
  { s with dict := { s.dict with alarmActive := setFld s.dict.alarmActive c 1 0 } }

/-- Whether ALERT_N is asserted (R368): a bit of ACTIVE or LATCHED not masked; FATAL cannot be masked. -/
def State.alert (s : State) : Bool :=
  let m := s.entry 0x7000 4
  (List.range 64).any (fun c =>
    (bitOf s.dict.alarmActive c || bitOf s.dict.alarmLatched c) && (c = 0 || !bitOf m c))

/-! ### Trace buffers (R399 to R401) -/

/-- An empty trace buffer. -/
def TraceBuf.init : TraceBuf := { recs := [], since := 0, dropped := 0, seq := 0, tstep := false, held := none }

/-- The fields of a synchronisation record (R399). -/
structure TraceRec where
  event : Nat
  agent : Nat
  unit : Nat
  part : Nat
  object : Nat
  ptag : Nat
  queue : Nat
  ltag : Nat
  cmdidx : Nat
  replay : Nat
  dtag : Nat
  value : Nat
  waited : Nat
  ragent : Nat
  runit : Nat
  rflags : Nat
  rptag : Nat
  deriving DecidableEq, Repr

/-- A record with every field 0 but the ones that name it. -/
def TraceRec.mk0 (event agent unit part object value : Nat) : TraceRec :=
  { event := event, agent := agent, unit := unit, part := part, object := object, ptag := 0, queue := 0, ltag := 0,
    cmdidx := 0, replay := 0, dtag := 0, value := value, waited := 0, ragent := 0, runit := 0, rflags := 0, rptag := 0 }

/-- The bytes of a trace record. -/
def TraceRec.bytes (r : TraceRec) (time : Nat) (tstep : Bool) (seq : Nat) : List Byte :=
  layout 64 [(0, 8, time), (8, 1, r.event), (9, 1, r.agent), (10, 1, r.unit), (11, 1, r.part), (12, 4, r.object),
    (16, 4, r.ptag), (20, 2, r.queue), (22, 2, r.ltag), (24, 2, r.cmdidx), (26, 2, r.replay), (28, 2, r.dtag),
    (30, 1, bit tstep), (32, 8, r.value), (40, 8, r.waited), (48, 1, r.ragent), (49, 1, r.runit), (50, 1, r.rflags),
    (52, 4, r.rptag), (56, 4, seq)]

/-- A trace buffer: 0 to 19 the clusters', 20 and 21 the service stops' of die 0 and die 1 (R401). -/
def State.buffer (s : State) (b : Nat) : TraceBuf := Tab.get TraceBuf.init s.traces b
def State.setBuffer (s : State) (b : Nat) (t : TraceBuf) : State :=
  { s with traces := Tab.set TraceBuf.init s.traces b t }

/-- Append one record to a buffer that has room. -/
def TraceBuf.put (t : TraceBuf) (time : Nat) (r : TraceRec) : TraceBuf :=
  { recs := t.recs ++ [r.bytes time t.tstep (t.seq + 1)], since := if t.recs.isEmpty then time else t.since,
    dropped := t.dropped, seq := (t.seq + 1) % 2 ^ 32, tstep := false, held := t.held }

/-- Write a record into a buffer of 256 records: dropped and counted when it is full; the next one that fits follows
a LOST record (R401). -/
def State.trace (s : State) (b : Nat) (r : TraceRec) : State :=
  let t := s.buffer b
  let room := if t.dropped = 0 then 255 else 254
  if room < t.recs.length then
    (s.setBuffer b { t with dropped := t.dropped + 1 }).count
      (if r.part < 8 then Reg.dbgTrLost r.part else Reg.dbgHtrLost) 1
  else if t.dropped = 0 then s.setBuffer b (t.put s.time r)
  else
    let l := TraceRec.mk0 0x05 7 0xFF 0xFF 0 t.dropped
    s.setBuffer b (({ t.put s.time l with dropped := 0 }).put s.time r)

/-- Write a wait record of partition `p`, when it traces synchronisation and the wait was long enough or did not end
by release (R400). -/
def State.traceWait (s : State) (b : Nat) (r : TraceRec) : State :=
  if bitOf (s.reg (Reg.dbgTrCtl r.part)) 0 && (s.reg (Reg.dbgTrMinwait r.part) ≤ r.waited || r.rflags != 0) then
    s.trace b r
  else s

/-- Write a signal or update record of partition `p`: when it released a waiter, or with ALL_SIGNALS (R400). -/
def State.traceSignal (s : State) (b : Nat) (r : TraceRec) (released : Bool) : State :=
  let ctl := s.reg (Reg.dbgTrCtl r.part)
  if bitOf ctl 0 && (released || bitOf ctl 1) then s.trace b r else s

/-! ### The change journal (R367) -/

/-- Append a journal entry, keeping the last 4,096. -/
def State.journalPut (s : State) (e : JEntry) : State :=
  let d := s.dict
  let j := d.journal ++ [{ e with seq := d.jcount, time := s.time }]
  { s with dict := { d with journal := j.drop (j.length - 4096), jcount := (d.jcount + 1) % 2 ^ 32 } }

/-! ### Units' default states -/

/-- An idle coach core. -/
def Coach.init : Coach :=
  { running := false, pc := 0, s := [], loops := [], sq := [], awaits := [], wait := .none, since := 0,
    resv := none, acq := false, rel := false }

/-- An idle matrix array. -/
def ArrayState.init : ArrayState :=
  { bank := false, shadow := none, flip := false, last := none, issued := [], injProduct := false, injCell := false,
    behind := [], stopped := false, mismatches := [] }

/-- An empty coach cache. -/
def CoachCache.init : CoachCache := { lines := [], tree := [] }

/-- No issue made: a scheduler's last slot is one no core has. -/
def IssueOrder.init : IssueOrder :=
  { count := 0, last := List.replicate 4 64, run := List.replicate 4 0, at' := [], cycles := 0 }

/-- An idle core: no kernel, no lap, empty caches, zero tile store and health slots (R109, R387). -/
def Core.init : Core :=
  { kernel := none, boundary := none, scratchSets := 0, packs := [], teams := [], rsvLeft := [], issue := IssueOrder.init, l1 := [], l1Tree := [],
    coach := Coach.init, icache := CoachCache.init, dcache := CoachCache.init, lap := none, array := ArrayState.init, tile := [], health := [], stream := [] }

/-- The core `c`. -/
def State.core (s : State) (c : Nat) : Core := Tab.get Core.init s.cores c
def State.setCore (s : State) (c : Nat) (x : Core) : State := { s with cores := Tab.set Core.init s.cores c x }

/-- The number of the present reset among all resets and power-ups: fresh draws at each (R178, R205). -/
def State.epoch (s : State) : Nat := s.reg Reg.hifResets + 2 ^ 32 * s.meter.boot

/-- A nonzero 32-bit LFSR seed from a draw of the random source (R178: a zero draw is discarded). -/
def seedOf (n : Nat) : BitVec 32 := BitVec.ofNat 32 (1 + (Config.draw n).toNat % (2 ^ 32 - 1))

/-- A cache agent with nothing cached; its LFSR holds the seed of the last reset (DESIGN CHOICE, log 12). -/
def Agent.init (a : Nat) : Agent :=
  { lines := [], lfsr := seedOf a, loads := [], atoms := [], accepted := [], ncReads := [] }
def State.agent (s : State) (a : Nat) : Agent := Tab.get (Agent.init a) s.agents a
def State.setAgent (s : State) (a : Nat) (x : Agent) : State := { s with agents := Tab.put s.agents a x }

/-- A directory slice with no entry. -/
def Dir.init (k : Nat) : Dir := { entries := [], lfsr := seedOf (32 + k), waiting := [] }
def State.dir (s : State) (k : Nat) : Dir := Tab.get (Dir.init k) s.dirs k
def State.setDir (s : State) (k : Nat) (x : Dir) : State := { s with dirs := Tab.put s.dirs k x }

/-- A queue after module reset: DISABLED, descriptor all zero (R226, R387). -/
def Queue.init : Queue :=
  { st := .disabled, desc := 0, head := 0, tail := 0, ccount := 0, cqHead := 0, reserved := 0, vt := 0, cur := none,
    skip := false, skipped := 0, skipOwner := none, stamps := [], packets := [], cqLost := false, owed := [], halt := false, list := (0, 0),
    nextList := (0, 0), period := 0, active := false, next := 0, okCount := 0, pstatus := 0, dropped := false,
    opened := [] }
def State.queue (s : State) (q : Nat) : Queue := Tab.get Queue.init s.queues q
def State.setQueue (s : State) (q : Nat) (x : Queue) : State := { s with queues := Tab.set Queue.init s.queues q x }

/-- A FREE context slot. -/
def Context.init : Context :=
  { st := .free, since := 0, escalated := false, aborted := 0, orphaned := 0, freeing := 0, byCmd := false, scanned := false,
    faults := [] }
def State.ctx (s : State) (c : Nat) : Context := Tab.get Context.init s.ctxs c
def State.setCtx (s : State) (c : Nat) (x : Context) : State := { s with ctxs := Tab.set Context.init s.ctxs c x }

/-- A FREE memory object slot. -/
def MObj.init : MObj :=
  { st := 0, base := 0, pages := 0, owner := 0, stamp := 0, zero := false, fv := false, fence := 0 }
def State.mobj (s : State) (n : Nat) : MObj := Tab.get MObj.init s.mobjs n
def State.setMobj (s : State) (n : Nat) (x : MObj) : State := { s with mobjs := Tab.set MObj.init s.mobjs n x }

/-- A FREE fence slot. -/
def Fence.init : Fence :=
  { st := 0, value := 0, owner := 0, any := false, imported := false, source := 0, exports := [0, 0] }
def State.fence (s : State) (n : Nat) : Fence := Tab.get Fence.init s.fences n
def State.setFence (s : State) (n : Nat) (x : Fence) : State := { s with fences := Tab.set Fence.init s.fences n x }

/-- A FREE baton slot. -/
def Baton.init : Baton := { live := false, value := 0, owner := 0, coreScope := false, core := 0, waiters := [] }
def State.baton (s : State) (n : Nat) : Baton := Tab.get Baton.init s.batons n
def State.setBaton (s : State) (n : Nat) (x : Baton) : State := { s with batons := Tab.set Baton.init s.batons n x }

/-- A FREE request slot. -/
def Request.init : Request :=
  { st := 0, reqid := 0, tenant := 0, attached := 0, packets := 0, meter := 0, part := 0, dropped := false,
    aborted := false }
def State.request (s : State) (n : Nat) : Request := Tab.get Request.init s.reqs n
def State.setRequest (s : State) (n : Nat) (x : Request) : State := { s with reqs := Tab.set Request.init s.reqs n x }

/-- Freezing (R409, R410): whether any holder holds the counters. -/
def State.frozen (s : State) : Bool := s.freeze.reg || s.freeze.pin || s.freeze.group.isSome

end Sys2Proof.Machine
end

