-- ==== Sys2Proof/Machine/Translate.lean ====
section
/-! DEFINITION. Physical addresses, carve-outs, the page map and translation (09_memory_and_resident_store.md,
R200 to R217), with the stale-object check of R266. -/

namespace Sys2Proof.Machine

/-! ### Physical targets (R200) -/

/-- First physical address of the resident store and of the register image. -/
def rsBase : Nat := 0x010000000000
def regBase : Nat := 0x020000000000

/-- Whether a physical address lies in LPDDR5X. -/
def State.inDram (s : State) (pa : Nat) : Bool := pa < s.nUnits * 0x40000000

/-- The slice of a resident store address, when a slice of a present cluster holds it. -/
def State.sliceOf (s : State) (pa : Nat) : Option Nat :=
  if rsBase ≤ pa then
    let k := (pa - rsBase) / 0x4000000
    if (pa - rsBase) % 0x4000000 < 0x3000000 && s.clusterOn k then some k else none
  else none

/-- Whether the BAR0 page at `o` may be named by partition `p` (R426). -/
def State.regPageOk (s : State) (p o : Nat) : Bool :=
  let page := o / 0x8000
  page = 0 || page = (0x100000 + 0x10000 * p) / 0x8000 || page = (0x100000 + 0x10000 * p) / 0x8000 + 1 ||
  (match blockOf (page * 0x8000) with
   | some (.cluster, k, _) => bitOf (s.pClusters p) k
   | some (.core, c, _) => bitOf (s.pClusters p) (c / 8)
   | _ => false)

/-- Whether the physical address exists for a page map entry of the target (R200, R426). -/
def State.physOk (s : State) (p tgt pa : Nat) : Bool :=
  match tgt with
  | 0 => s.inDram pa
  | 1 => (s.sliceOf pa).isSome
  | 2 => regBase ≤ pa && pa < regBase + 0x4000000 && s.regPageOk p (pa - regBase)
  | 3 => true
  | _ => false

/-- Whether the page lies in partition `p`'s carve-out as it stands now (R213 check 3). -/
def State.inCarve (s : State) (p tgt pa : Nat) : Bool :=
  match tgt with
  | 0 => bitOf (s.pUnits p) (pa / 0x40000000) && s.inDram pa
  | 1 => (match s.sliceOf pa with | some k => bitOf (s.pClusters p) k | none => false)
  | 2 => s.regPageOk p (pa - regBase)
  | _ => true

/-- The channel of a physical address (R205); the key is drawn anew at every reset (DESIGN CHOICE, log 12). -/
def State.channelOf (s : State) (pa : Nat) : Nat :=
  let key := Config.draw (64 + 128 * s.epoch) ++ Config.draw (65 + 128 * s.epoch)
  if s.oneDie then fld pa 8 5 ^^^ ((Config.channelHash key (pa / 2 ^ 13)).toNat % 32)
  else fld pa 8 6 ^^^ ((Config.channelHash key (pa / 2 ^ 14)).toNat % 64)

/-- The address of a byte within its channel (R205). -/
def State.channelLocal (s : State) (pa : Nat) : Nat := pa / (if s.oneDie then 2 ^ 13 else 2 ^ 14) * 256 + pa % 256

/-! ### Entries (R210, R211) -/

/-- Fields of a page map entry. -/
def eV (e : Nat) : Bool := bitOf e 0
def eAttr (e : Nat) : Nat := fld e 1 3
def eK (e : Nat) : Bool := bitOf e 4
def eSH (e : Nat) : Bool := bitOf e 5
def eWP (e : Nat) : Bool := bitOf e 6
def eOwner (e : Nat) : Nat := fld e 8 12
def eVpn (e : Nat) : Nat := fld e 31 33
def ePfn (e : Nat) : Nat := fld e 64 49
def eTgt (e : Nat) : Nat := fld e 113 3

/-- Region attributes (R210). -/
def Attr.wb := 0
def Attr.wt := 1
def Attr.wa := 2
def Attr.uc := 3
def Attr.dev := 4

/-- Physical address of the page of an entry. -/
def ePage (e : Nat) : Nat := ePfn e * 0x8000

/-- Whether the combination of target, attribute and K is allowed, every reserved bit and code clear (R10, R211). -/
def entryFormOk (e : Nat) : Bool :=
  !bitOf e 7 && fld e 20 11 = 0 && fld e 116 12 = 0 && eTgt e ≤ 3 && eAttr e ≤ 4 &&
  (eTgt e = 3 || fld e 97 16 = 0) &&
  (match eTgt e with
   | 0 => eAttr e ≤ 3 && (!eK e || eAttr e ≤ 2)
   | 1 => eAttr e ≤ 3 && !eK e
   | _ => eAttr e = 4 && !eK e)

/-- An entry of partition `p`, by its number in the partition's range. -/
def State.mapEntry (s : State) (p i : Nat) : Nat := (Tab.get 0 s.pmap.entries (s.mapFirst p * 32768 + i)).toNat
def State.setMapEntry (s : State) (p i e : Nat) : State :=
  let t : Tab (BitVec 128) := Tab.set 0#128 s.pmap.entries (s.mapFirst p * 32768 + i) (BitVec.ofNat 128 e)
  { s with pmap := { s.pmap with entries := t } }

/-! ### Translation (R212, R213) -/

/-- Home bucket of a virtual page among `n` buckets. -/
def homeBucket (vpn n : Nat) : Nat := (vpn ^^^ (vpn / 2 ^ 13) ^^^ (vpn / 2 ^ 26)) % n

/-- The first matching entry in probe order: its number within the range and the entry. -/
def State.walk (s : State) (p vpn : Nat) : Option (Nat × Nat) :=
  let n := s.mapUnits p * 4096
  if n = 0 then none
  else
    let h := homeBucket vpn n
    let slots := (List.range 4).flatMap (fun probe => (List.range 8).map (fun slot => ((h + probe) % n) * 8 + slot))
    (slots.find? (fun i => eV (s.mapEntry p i) && eVpn (s.mapEntry p i) = vpn)).map (fun i => (i, s.mapEntry p i))

/-- Reasons of a page fault (R213). -/
def Reason.notMapped := 1
def Reason.context := 2
def Reason.carve := 3
def Reason.write := 4
def Reason.attr := 5

/-- A translated address. -/
structure Xlat where
  pa : Nat
  tgt : Nat
  attr : Nat
  k : Bool
  deriving DecidableEq, Repr

/-- What an access is: its context (none: no context check, R218), whether it writes, whether the engine may use DEV
and K pages (R213 check 5). -/
structure XReq where
  ctx : Option Nat
  write : Bool
  devOk : Bool
  kOk : Bool
  deriving DecidableEq, Repr

/-- Translate a device-virtual address of partition `p`: the physical address, or the reason of the fault. -/
def State.translate (s : State) (p : Nat) (r : XReq) (va : Nat) : Xlat ⊕ Nat :=
  if 2 ^ 48 ≤ va then .inr Reason.notMapped
  else match s.walk p (va / 0x8000) with
    | none => .inr Reason.notMapped
    | some (_, e) =>
      let pa := ePage e + va % 0x8000
      if !eSH e && (match r.ctx with | some c => eOwner e != c | none => false) then .inr Reason.context
      else if !s.inCarve p (eTgt e) pa then .inr Reason.carve
      else if eWP e && r.write then .inr Reason.write
      else if (eAttr e = Attr.dev && !r.devOk) || (eK e && !r.kOk) then .inr Reason.attr
      else .inl { pa := pa, tgt := eTgt e, attr := eAttr e, k := eK e }

/-! ### Translation caches (R214) -/

/-- Capacity of the cache of a holder: core c, DMA engine of cluster k (160 + k), Starter (180), VF n (180 + n). -/
def tlbCapacity (holder : Nat) : Nat := if holder < 160 ∨ holder = 180 then 1024 else 256

/-- Whether a holder's cache has the translation of a virtual page. -/
def State.tlbHas (s : State) (holder p vpn : Nat) : Bool :=
  s.pmap.tlb.any (fun t => t.1 = holder && t.2.1 = p && t.2.2.1 = vpn)

/-- Lines of the module reserve that hold the buckets a walk reads: up to the one with the entry, else all four (R212, R214).
The map lies at the start of the reserve (DESIGN CHOICE, log 82). -/
def State.walkLines (s : State) (p vpn : Nat) : List Nat :=
  let n := s.mapUnits p * 4096
  if n = 0 then []
  else
    let h := homeBucket vpn n
    let bucket (probe : Nat) : Nat := (h + probe) % n
    let last := match s.walk p vpn with
      | some (i, _) => ((List.range 4).find? (fun probe => bucket probe = i / 8)).getD 3
      | none => 3
    (List.range (last + 1)).map (fun probe => s.mapFirst p * 4096 + bucket probe)

/-- Count a miss of a holder's cache and take the entry in; which entry makes room is not stated, the model takes the oldest
(DESIGN CHOICE, log 13). -/
def State.tlbFill (s : State) (holder p vpn : Nat) : State :=
  let s := s.count (Reg.cchXlatMiss p) 1
  match s.walk p vpn with
  | none => s
  | some (_, e) =>
    let mine := s.pmap.tlb.filter (fun t => t.1 = holder)
    let tlb := if mine.length < tlbCapacity holder then s.pmap.tlb
               else match mine.head? with
                 | some old => s.pmap.tlb.erase old
                 | none => s.pmap.tlb
    { s with pmap := { s.pmap with tlb := tlb ++ [(holder, p, vpn, BitVec.ofNat 128 e)] } }

/-- Remove the cached translations of a virtual page from every cache of the partition (R215). -/
def State.tlbDrop (s : State) (p vpn : Nat) : State :=
  { s with pmap := { s.pmap with tlb := s.pmap.tlb.filter (fun t => !(t.2.1 = p && t.2.2.1 = vpn)) } }

/-! ### Memory objects that are being freed (R266) -/

/-- Whether work stamped `stamp` meets a FREEING object of the partition at `va`. -/
def State.stale (s : State) (p stamp va : Nat) : Bool :=
  s.mobjs.any (fun m => m.2.st = 2 && s.inRange p .mobj m.1 && m.2.stamp < stamp &&
    m.2.base ≤ va && va < m.2.base + m.2.pages * 0x8000)

/-- Translate for stamped work: a status with the reason, or the address; STALE_OBJECT stands in place of PAGE_FAULT. -/
def State.xlate (s : State) (p stamp : Nat) (r : XReq) (va : Nat) : Xlat ⊕ (Nat × Nat) :=
  if s.stale p stamp va then .inr (Stat.staleObject, 0)
  else match s.translate p r va with
    | .inl x => .inl x
    | .inr reason => .inr (Stat.pageFault, reason)

/-- Count a page fault of the partition. -/
def State.countPf (s : State) (p : Nat) : State := s.count (Reg.cchPfCount p) 1

/-! ### Homes (R183) -/

/-- The home set of an LPDDR5X line: the present clusters of the partition that holds its unit; every present cluster
for the module reserve. -/
def State.homeSet (s : State) (line : Nat) : List Nat :=
  let on := (List.range 20).filter (fun k => s.clusterOn k)
  if line / 2 ^ 23 = 0 then on
  else match s.partOfUnit (line / 2 ^ 23) with
    | some p => on.filter (fun k => bitOf (s.pClusters p) k)
    | none => []

/-- The XOR of the two halves of the physical line number. -/
def lineHash (line : Nat) : Nat := (line % 65536) ^^^ (line / 65536 % 65536)

/-- The home of a line. -/
def State.homeOf (s : State) (line : Nat) : Option Nat :=
  let l := s.homeSet line
  if l.isEmpty then none else some (nth 0 l (lineHash line % l.length))

end Sys2Proof.Machine
end

