-- ==== Sys2Proof/Machine/Threads.lean ====
section
/-! DEFINITION. Registers of threads, packs and coach cores, and the L1 data cache of a core (R122, R144, R155, R171
to R173). -/

namespace Sys2Proof.Machine

/-! ### Vector and scalar registers (R122) -/

/-- A vector register of a thread; field value 0xFF reads as zero. -/
def Thread.reg (t : Thread) (r : Nat) : Nat := if r = 255 then 0 else (Tab.get 0#32 t.v r).toNat

/-- Write a vector register; field value 0xFF discards. -/
def Thread.setReg (t : Thread) (r x : Nat) : Thread :=
  if r = 255 then t else { t with v := Tab.set 0#32 t.v r (BitVec.ofNat 32 x) }

/-- A 64-bit operand in the pair from `r`. -/
def Thread.pair (t : Thread) (r : Nat) : Nat := if r = 255 then 0 else t.reg r + 2 ^ 32 * t.reg (r + 1)

/-- Write `n` consecutive registers from `r` with a value, low word first. -/
def Thread.setRegs (t : Thread) (r x : Nat) : Nat → Thread
  | 0 => t
  | n + 1 => if r = 255 then t else (t.setReg r (x % 2 ^ 32)).setRegs (r + 1) (x / 2 ^ 32) n

/-- A scalar register of a pack. -/
def Pack.sreg (p : Pack) (r : Nat) : Nat := if r < 64 then (Tab.get 0#64 p.sregs r).toNat else 0
def Pack.setSreg (p : Pack) (r x : Nat) : Pack :=
  if r < 64 then { p with sregs := Tab.set 0#64 p.sregs r (BitVec.ofNat 64 x) } else p

/-- A register of a coach core; field value 0xFF reads as zero and discards (R144). -/
def Coach.reg (c : Coach) (r : Nat) : Nat := if r < 64 then (Tab.get 0#64 c.s r).toNat else 0
def Coach.setReg (c : Coach) (r x : Nat) : Coach :=
  if r < 64 then { c with s := Tab.set 0#64 c.s r (BitVec.ofNat 64 x) } else c

/-- A thread as it starts (R119): v0 its index in the team, every other register 0. -/
def Thread.start (entry index : Nat) : Thread :=
  { pc := entry, exited := false, v := Tab.set 0#32 [] 0 (BitVec.ofNat 32 index), awaits := [], wait := .none,
    since := 0, waitPc := 0, lastIssue := 0, arrivals := [0, 0, 0, 0], resv := none, acq := false, rel := false }

/-- A thread that is not there: exited. -/
def Thread.gone : Thread := { Thread.start 0 0 with exited := true }

/-- The thread of a lane. -/
def Pack.thread (p : Pack) (lane : Nat) : Thread := nth Thread.gone p.threads lane
def Pack.setThread (p : Pack) (lane : Nat) (t : Thread) : Pack := { p with threads := setNth p.threads lane t }

/-- Apply a function to the listed lanes. -/
def Pack.mapLanes (p : Pack) (lanes : List Nat) (f : Nat → Thread → Thread) : Pack :=
  { p with threads := p.threads.zipIdx.map (fun t => if lanes.contains t.2 then f t.2 t.1 else t.1) }

/-- The pack in a slot. -/
def State.pack (s : State) (c slot : Nat) : Option Pack := (s.core c).packs.look slot
def State.setPack (s : State) (c slot : Nat) (p : Pack) : State :=
  let k := s.core c
  s.setCore c { k with packs := Tab.put k.packs slot p }
def State.setCoach (s : State) (c : Nat) (x : Coach) : State := s.setCore c { s.core c with coach := x }

/-! ### Load data -/

/-- A loaded value as a destination holds it: sign-extended where asked, in `n` registers of 32 bits (R128) or whole
64-bit registers (R144). -/
def extend (size : Nat) (sext : Bool) (width v : Nat) : Nat :=
  if sext then wrapInt width (sx (8 * size) v) else v

/-- Number of destination registers of a thread for an access size. -/
def vecRegs (size : Nat) : Nat := if size ≤ 4 then 1 else size / 4

/-- Give a load's value to its destination, which then no longer awaits it; field value 0xFF discards it. -/
def State.giveLoad (s : State) (who : Waiter) (r size : Nat) (sext : Bool) (v : Nat) : State :=
  if r = 255 then s else match who with
  | .lane c slot lane =>
    match s.pack c slot with
    | none => s
    | some p =>
      let t := p.thread lane
      let n := vecRegs size
      let x := if n = 1 then extend size sext 32 v else v
      let t := (t.setRegs r x n)
      let t := { t with awaits := t.awaits.filter (fun a => !(r ≤ a && a < r + n)) }
      s.setPack c slot (p.setThread lane t)
  | .coach c =>
    let k := (s.core c).coach
    let k := if size = 16 then (k.setReg r (v % 2 ^ 64)).setReg (r + 1) (v / 2 ^ 64)
             else k.setReg r (extend size sext 64 v)
    s.setCoach c { k with awaits := k.awaits.filter (fun a => !(a = r || (size = 16 && a = r + 1))) }

/-! ### L1 data cache (R172, R173) -/

/-- Sets left to the cache. -/
def Core.l1Sets (k : Core) : Nat := 128 - k.scratchSets

/-- The set of a line. -/
def Core.l1Set (k : Core) (line : Nat) : Nat := line % k.l1Sets

/-- The eight-way tree's victim: bits of the nodes 1 to 7, a clear bit leads to the lower half (PRESUMED, log 14). -/
def treeVictim (t : Nat) : Nat :=
  let a := bit (bitOf t 1)
  let b := bit (bitOf t (2 + a))
  let c := bit (bitOf t (4 + 2 * a + b))
  4 * a + 2 * b + c

/-- Mark a way used: the nodes on its path point to the other halves. -/
def treeUse (t way : Nat) : Nat :=
  let a := way / 4
  let b := way / 2 % 2
  let c := way % 2
  setFld (setFld (setFld t 1 1 (1 - a)) (2 + a) 1 (1 - b)) (4 + 2 * a + b) 1 (1 - c)

/-- Mark a line's way used. -/
def Core.l1Touch (k : Core) (line : Nat) : Core :=
  match k.l1.look line with
  | none => k
  | some l =>
    let i := k.l1Set line
    { k with l1Tree := Tab.set 0 k.l1Tree i (treeUse (Tab.get 0 k.l1Tree i) l.way) }

/-- Lines of a set with their ways. -/
def Core.l1Ways (k : Core) (i : Nat) : List (Nat × L1Line) := k.l1.filter (fun p => k.l1Set p.1 = i)

/-- The way a new line of the set takes, and the line it evicts: an invalid way, else a streaming line, else the
tree's victim (R128, R171). -/
def Core.l1Victim (k : Core) (i : Nat) : Nat × Option Nat :=
  let ways := k.l1Ways i
  match (List.range 8).find? (fun w => ways.all (fun p => p.2.way != w)) with
  | some w => (w, none)
  | none =>
    let v := match ways.find? (fun p => p.2.stream) with
      | some p => p.2.way
      | none => treeVictim (Tab.get 0 k.l1Tree i)
    (v, (ways.find? (fun p => p.2.way = v)).map Prod.fst)

/-- The dirty bytes of a line, by offset. -/
def L1Line.dirtyBytes (l : L1Line) : List (Nat × Byte) :=
  (setBits l.dirty 128).map (fun o => (o, BitVec.ofNat 8 (l.data / 2 ^ (8 * o))))

/-- Set bytes of a line of 128 bytes held as a number. -/
def setBytes (data : Nat) (bytes : List (Nat × Byte)) : Nat :=
  bytes.foldl (fun d b => setFld d (8 * b.1) 8 b.2.toNat) data

/-- The mask of the listed offsets. -/
def maskOf (bytes : List (Nat × Byte)) : Nat := bytes.foldl (fun m b => m ||| 2 ^ b.1) 0

/-- Bytes of a value of `n` bytes from offset `o` of a line. -/
def bytesAt (o : Nat) (l : List Byte) : List (Nat × Byte) := l.zipIdx.map (fun b => (o + b.2, b.1))

/-- The value of `n` bytes from offset `o` of a line held as a number. -/
def lineVal (data o n : Nat) : Nat := fld data (8 * o) (8 * n)

/-- Update present bytes of a line, dirty or not. -/
def L1Line.put (l : L1Line) (bytes : List (Nat × Byte)) (dirty : Bool) : L1Line :=
  { l with data := setBytes l.data bytes, valid := l.valid ||| maskOf bytes,
           dirty := if dirty then l.dirty ||| maskOf bytes else l.dirty }

/-- Drop a line from the L1. -/
def Core.l1Drop (k : Core) (line : Nat) : Core := { k with l1 := Tab.del k.l1 line }

end Sys2Proof.Machine
end

