-- ==== Sys2Proof/Machine/Fatal.lean ====
section
/-! DEFINITION. The stop of a module-fatal fault (R197, R395): what is discarded, latched, recorded and raised. -/

namespace Sys2Proof.Machine

/-- A core after the discard of R197: nothing running, caches and queues empty; scratch, registers and the address
stream gone with the work. -/
def Core.discard (k : Core) : Core :=
  { k with kernel := none, boundary := none, scratchSets := 0, packs := [], teams := [], l1 := [], l1Tree := [], coach := Coach.init,
           icache := CoachCache.init, dcache := CoachCache.init,
           lap := none, array := { k.array with shadow := none, last := none, issued := [], behind := [], stopped := false }, stream := [] }

/-- A cache agent after the discard: no line, no waiting access; the LFSR goes on. -/
def Agent.discard (a : Agent) : Agent :=
  { a with lines := [], loads := [], atoms := [], accepted := [], ncReads := [] }

/-- Discard every store queue, L1 line, cache line, transaction and launch in flight (R197 step 2). -/
def State.discardWork (s : State) : State :=
  { s with cores := (s.cores.map (fun p => (p.1, p.2.discard))).filter (fun p => p.2 ≠ Core.init),
           agents := s.agents.map (fun p => (p.1, p.2.discard)),
           dirs := s.dirs.map (fun p => (p.1, { p.2 with entries := [], waiting := [] })),
           net := [], launches := [],
           links := { s.links with sent := [] },
           pcie := { s.pcie with reads := [], fetched := [] } }

/-- The fields a module-fatal cause fills in its record (R395). -/
structure FatalInfo where
  cause : Nat
  agent : Nat
  mclass : Nat
  rail : Nat
  temp : Nat
  sensor : Nat
  addr : Nat
  deriving DecidableEq, Repr

/-- A cause that fills no field. -/
def FatalInfo.of (cause : Nat) : FatalInfo :=
  { cause := cause, agent := 0, mclass := 0, rail := 0, temp := 0, sensor := 0, addr := 0 }

/-- The record of a module-fatal fault, for a partition's ring or (0xFF) for HIF_FLT_FATAL. -/
def State.fatalRecord (s : State) (i : FatalInfo) (part : Nat) : FaultRec :=
  { kind := 4, status := i.cause, source := 0, part := part, ptag := 0, queue := 0, ctx := 0,
    body := [(24, 1, i.agent % 32), (25, 1, i.mclass), (26, 1, i.rail), (28, 2, i.temp), (30, 2, i.sensor),
             (32, 8, i.addr), (40, 4, s.reg Reg.cchFatal)] }

/-- A module-fatal fault: the first cause stops and discards all work, is latched, recorded and raised; a later cause
before a module reset is counted (R197, R395, R396). -/
def State.fatalStop (s : State) (i : FatalInfo) : State :=
  if s.boot.fatal ≠ 0 then s.countSat Reg.hifFltFatalCnt 1
  else
    let s := if 1 ≤ i.cause ∧ i.cause ≤ 4 then
        ((s.setReg Reg.cchFatal (i.cause + 2 ^ 4 * (i.agent % 32) + 2 ^ 9 * (i.mclass % 4) + 2 ^ 11)).setReg
          Reg.cchFatalAddr (i.addr % 2 ^ 48)).setReg Reg.cchFatalTime s.time
      else s
    let s := s.discardWork
    let s := { s with boot := { s.boot with start := if s.boot.start = 10 then 10 else 9, fatal := i.cause },
                      meter := { s.meter with stopped := 1 } }
    let s := { s with fatal := Mem.write [] 0 ((s.fatalRecord i 0xFF).bytes 0 s.time) }
    let s := s.raise 0 (fld (s.reg Reg.hifFltFatalVec) 0 11)
    let s := (List.range 8).foldl (fun s p => s.faultRec (s.fatalRecord i p)) s
    s.alarm 0 i.cause true

end Sys2Proof.Machine
end

