-- ==== Sys2Proof/Machine/Formats.lean ====
section
/-! DEFINITION. Number formats, scales and conversions (02_number_formats.md, R29 to R48): exact values as signed
fractions, and one rounding into every format. -/

namespace Sys2Proof.Machine

/-- The element formats of R29, in the order of their codes. -/
inductive Fmt where
  | fp32 | bf16 | fp16 | e4m3 | e5m2 | int8 | e3m2 | e2m3 | e2m1 | int4 | t2
  deriving DecidableEq, Repr

/-- The format of a code; codes 11 to 15 are reserved (R29). -/
def fmtOfCode : Nat → Option Fmt
  | 0 => some .fp32 | 1 => some .bf16 | 2 => some .fp16 | 3 => some .e4m3 | 4 => some .e5m2 | 5 => some .int8
  | 6 => some .e3m2 | 7 => some .e2m3 | 8 => some .e2m1 | 9 => some .int4 | 10 => some .t2 | _ => none

/-- Element width in bits (R29). -/
def fmtWidth : Fmt → Nat
  | .fp32 => 32 | .bf16 | .fp16 => 16 | .e4m3 | .e5m2 | .int8 => 8 | .e3m2 | .e2m3 => 6 | .e2m1 | .int4 => 4 | .t2 => 2

/-- Whether the product class is integer (R29). -/
def fmtIsInt : Fmt → Bool
  | .int8 | .int4 | .t2 => true
  | _ => false

/-- Width of the exponent field. -/
def fmtExp : Fmt → Nat
  | .fp32 | .bf16 => 8 | .fp16 | .e5m2 => 5 | .e4m3 => 4 | .e3m2 => 3 | .e2m3 | .e2m1 => 2 | _ => 0

/-- Width of the mantissa field. -/
def fmtMan : Fmt → Nat
  | .fp32 => 23 | .bf16 => 7 | .fp16 => 10 | .e4m3 => 3 | .e5m2 => 2 | .e3m2 => 2 | .e2m3 => 3 | .e2m1 => 1 | _ => 0

/-- Exponent bias. -/
def fmtBias : Fmt → Nat
  | .fp32 | .bf16 => 127 | .fp16 | .e5m2 => 15 | .e4m3 => 7 | .e3m2 => 3 | .e2m3 | .e2m1 => 1 | _ => 0

/-- Whether the format has infinities (R30). -/
def fmtHasInf : Fmt → Bool
  | .fp32 | .bf16 | .fp16 | .e5m2 => true
  | _ => false

/-- Whether the format has a NaN (R30). -/
def fmtHasNaN : Fmt → Bool
  | .fp32 | .bf16 | .fp16 | .e5m2 | .e4m3 => true
  | _ => false

/-- The canonical NaN of a format (R43 step 1); 0, which is +0, where the format has none. -/
def fmtNaN : Fmt → Nat
  | .fp32 => 0x7FC00000 | .bf16 => 0x7FC0 | .fp16 => 0x7E00 | .e4m3 => 0x7F | .e5m2 => 0x7E | _ => 0

/-- An exact value: NaN, an infinity, or the signed fraction `±n / d` with `d` above 0 (R37: a real number with no
rounding; zero keeps its sign). -/
inductive Num where
  | nan
  | inf (neg : Bool)
  | fin (neg : Bool) (n d : Nat)
  deriving DecidableEq, Repr

/-- The fraction `n / d` times 2^e. -/
def scale2 (n d : Nat) (e : Int) : Nat × Nat :=
  if 0 ≤ e then (n * 2 ^ e.toNat, d) else (n, d * 2 ^ (-e).toNat)

/-- The value `±m × 2^e`. -/
def numPow (neg : Bool) (m : Nat) (e : Int) : Num := .fin neg (scale2 m 1 e).1 (scale2 m 1 e).2

/-- floor(log2(n / d)) of a positive fraction. -/
def floorLog2 (n d : Nat) : Int :=
  let e : Int := (Nat.log2 n : Int) - (Nat.log2 d : Int)
  let p := scale2 1 1 e
  if p.1 * d ≤ n * p.2 then e else e - 1

/-- Whether the value is NaN or infinite. -/
def Num.nonfinite : Num → Bool
  | .fin .. => false
  | _ => true

/-- The exact product; NaN for 0 times infinity. -/
def Num.mul : Num → Num → Num
  | .nan, _ | _, .nan => .nan
  | .inf s, .inf t => .inf (s != t)
  | .inf s, .fin t n _ | .fin t n _, .inf s => if n = 0 then .nan else .inf (s != t)
  | .fin s n d, .fin t m e => .fin (s != t) (n * m) (d * e)

/-- The exact sum; opposite infinities give NaN; a zero sum is negative only when both addends are. -/
def Num.add : Num → Num → Num
  | .nan, _ | _, .nan => .nan
  | .inf s, .inf t => if s = t then .inf s else .nan
  | .inf s, .fin .. | .fin .., .inf s => .inf s
  | .fin s n d, .fin t m e =>
    let a := n * e
    let b := m * d
    if s = t then .fin s (a + b) (d * e)
    else if a = b then .fin false 0 1
    else if b < a then .fin s (a - b) (d * e) else .fin t (b - a) (d * e)

/-- The value with its sign reversed. -/
def Num.neg : Num → Num
  | .nan => .nan
  | .inf s => .inf (!s)
  | .fin s n d => .fin (!s) n d

/-- The exact quotient by a positive fraction. -/
def Num.divPos (x : Num) (m e : Nat) : Num :=
  match x with
  | .fin s n d => .fin s (n * e) (d * m)
  | y => y

/-- Ordered comparison `x < y` of two values, false when either is NaN; the two zeros are equal. -/
def Num.lt : Num → Num → Bool
  | .nan, _ | _, .nan => false
  | .inf s, .inf t => s && !t
  | .inf s, .fin .. => s
  | .fin .., .inf t => !t
  | .fin s n d, .fin t m e =>
    let a : Int := if s then -(n * e : Nat) else (n * e : Nat)
    let b : Int := if t then -(m * d : Nat) else (m * d : Nat)
    decide (a < b)

/-- Equality of two values, false when either is NaN; the two zeros are equal. -/
def Num.eq : Num → Num → Bool
  | .nan, _ | _, .nan => false
  | x, y => !(Num.lt x y) && !(Num.lt y x)

/-- The exact value of an encoding of a format (R31, R32, R33). -/
def decodeElem (f : Fmt) (w : Nat) : Num :=
  match f with
  | .int8 => .fin (decide (sx 8 w < 0)) (sx 8 w).natAbs 1
  | .int4 => .fin (decide (sx 4 w < 0)) (sx 4 w).natAbs 1
  | .t2 => if w % 4 = 1 then .fin false 1 1 else if w % 4 = 3 then .fin true 1 1 else .fin false 0 1
  | _ =>
    let mw := fmtMan f
    let ew := fmtExp f
    let m := fld w 0 mw
    let e := fld w mw ew
    let s := bitOf w (mw + ew)
    if f = .e4m3 then
      if e = 15 ∧ m = 7 then .nan
      else if e = 0 then numPow s m (1 - 7 - 3) else numPow s (8 + m) ((e : Int) - 7 - 3)
    else if fmtHasInf f ∧ e = 2 ^ ew - 1 then
      if m = 0 then .inf s else .nan
    else if e = 0 then numPow s m (1 - (fmtBias f : Int) - mw)
    else numPow s (2 ^ mw + m) ((e : Int) - fmtBias f - mw)

/-- Rounding of a conversion (R42): to nearest even, toward zero, stochastic with its 16-bit draw. `away` rounds a
magnitude up (R41's fine scale; the integer and float roundings of chapter 06 use `down` and `up` by sign). -/
inductive Rnd where
  | rne | rtz | sr (u : Nat) | away
  deriving DecidableEq, Repr

/-- Round the non-negative fraction `n / d` to a whole number (R42, R44). -/
def roundNat (r : Rnd) (n d : Nat) : Nat :=
  let q := n / d
  let m := n % d
  match r with
  | .rtz => q
  | .away => if m = 0 then q else q + 1
  | .rne => if 2 * m < d then q else if d < 2 * m then q + 1 else if q % 2 = 0 then q else q + 1
  | .sr u => if u < m * 65536 / d then q + 1 else q

/-- Events of a converted element (R47). -/
inductive Ev where
  | none | nonfinite | sat | zero
  deriving DecidableEq, Repr

/-- The largest finite magnitude of a format as a fraction (R30, R41). -/
def fmtMax : Fmt → Nat × Nat
  | .fp32 => ((2 ^ 24 - 1) * 2 ^ 104, 1) | .bf16 => ((2 ^ 8 - 1) * 2 ^ 120, 1) | .fp16 => (65504, 1)
  | .e4m3 => (448, 1) | .e5m2 => (57344, 1) | .int8 => (127, 1) | .e3m2 => (28, 1) | .e2m3 => (15, 2)
  | .e2m1 => (6, 1) | .int4 => (7, 1) | .t2 => (1, 1)

/-- The encoding of the largest finite magnitude of a floating-point format. -/
def fmtMaxCode (f : Fmt) : Nat :=
  if f = .e4m3 then 0x7E
  else if fmtHasInf f then (2 ^ fmtExp f - 1) * 2 ^ fmtMan f - 1
  else 2 ^ (fmtExp f + fmtMan f) - 1

/-- The sign bit of a floating-point encoding. -/
def signBit (f : Fmt) (neg : Bool) : Nat := if neg then 2 ^ (fmtExp f + fmtMan f) else 0

/-- The encoding of infinity. -/
def infCode (f : Fmt) : Nat := (2 ^ fmtExp f - 1) * 2 ^ fmtMan f

/-- The rounded magnitude of `n / d` in a floating-point format with an unbounded exponent range: a count and the
exponent of its unit (R43 step 3; the grid includes the subnormals). -/
def roundMag (f : Fmt) (r : Rnd) (n d : Nat) : Nat × Int :=
  if n = 0 then (0, 0) else
  let emin : Int := 1 - (fmtBias f : Int)
  let e := max (floorLog2 n d) emin
  let q : Int := e - (fmtMan f : Int)
  let p := scale2 n d (-q)
  (roundNat r p.1 p.2, q)

/-- The encoding of `k × 2^q` in a floating-point format, the sign apart. -/
def encodeMag (f : Fmt) (k : Nat) (q : Int) : Nat :=
  let mw := fmtMan f
  if k = 0 then 0
  else
    let k' := if 2 ^ (mw + 1) ≤ k then k / 2 else k
    let q' : Int := if 2 ^ (mw + 1) ≤ k then q + 1 else q
    if k' < 2 ^ mw then k'
    else ((q' + (mw : Int) + (fmtBias f : Int)).toNat) * 2 ^ mw + (k' - 2 ^ mw)

/-- Whether a conversion in this mode turns an overflow into infinity (R43 step 4). -/
def overflowsToInf (f : Fmt) (r : Rnd) : Bool := fmtHasInf f && (r != .rtz)

/-- Convert a value into an integer format (R43; the magnitude bound is R41's Fmax, the result the bound on the
value's side). -/
def convertInt (f : Fmt) (r : Rnd) (neg : Bool) (n d : Nat) : Nat × Ev :=
  let w := fmtWidth f
  let k := roundNat r n d
  if k ≤ (fmtMax f).1 then
    (wrapInt w (if neg then -(k : Int) else k), if k = 0 then .zero else .none)
  else (if neg then 2 ^ (w - 1) else 2 ^ (w - 1) - 1, .sat)

/-- Convert a value into a format: its encoding and the event it reports (R43, R47). -/
def convertTo (f : Fmt) (r : Rnd) (x : Num) : Nat × Ev :=
  match x with
  | .nan => (fmtNaN f, .nonfinite)
  | .inf s =>
    if fmtIsInt f then (if s then 2 ^ (fmtWidth f - 1) else 2 ^ (fmtWidth f - 1) - 1, .nonfinite)
    else if fmtHasInf f then (signBit f s + infCode f, .nonfinite)
    else (signBit f s + fmtMaxCode f, .nonfinite)
  | .fin s n d =>
    if fmtIsInt f then convertInt f r s n d
    else
      let p := roundMag f r n d
      let v := scale2 p.1 1 p.2
      let mx := fmtMax f
      if v.1 * mx.2 ≤ mx.1 * v.2 then
        (signBit f s + encodeMag f p.1 p.2, if p.1 = 0 then .zero else .none)
      else if overflowsToInf f r then (signBit f s + infCode f, .nonfinite)
      else (signBit f s + fmtMaxCode f, .sat)

/-- Round into FP32 to nearest even: the accumulator's own rounding (02, Conversion) and the SIMT default. -/
def toF32 (x : Num) : Nat := (convertTo .fp32 .rne x).1

/-- The exact value of an FP32 register. -/
def ofF32 (w : Nat) : Num := decodeElem .fp32 w

/-- Bytes of a row of 64 elements (R34). -/
def rowBytes (f : Fmt) : Nat := 8 * fmtWidth f

/-- Element `i` of a packed row: bits `w·i` up of the row read as one little-endian number (R34: dense, ascending,
whatever the width). -/
def rowElem (f : Fmt) (row : List Byte) (i : Nat) : Nat := fld (leNat row) (fmtWidth f * i) (fmtWidth f)

/-- The elements of a packed row given as one little-endian number. -/
def unpackNat (w : Nat) : Nat → Nat → List Nat
  | 0, _ => []
  | n + 1, v => v % 2 ^ w :: unpackNat w n (v / 2 ^ w)

/-- The little-endian number of a list of elements of `w` bits (R34). -/
def packNat (w : Nat) : List Nat → Nat
  | [] => 0
  | x :: xs => x % 2 ^ w + 2 ^ w * packNat w xs

/-- Block modes (R35). -/
inductive Blk where
  | none | b16 | b32
  deriving DecidableEq, Repr

/-- The block mode of a code; code 3 is reserved (R35). -/
def blkOfCode : Nat → Option Blk
  | 0 => some .none | 1 => some .b16 | 2 => some .b32 | _ => Option.none

/-- Scale bytes of a row of 64 elements (R35). -/
def blkRowBytes : Blk → Nat
  | .none => 0 | .b16 => 4 | .b32 => 2

/-- Elements in a block; a row has one block where there is no fine scale. -/
def blkSize : Blk → Nat
  | .none => 64 | .b16 => 16 | .b32 => 32

/-- The value of a fine-scale byte and whether it is an invalid code (R38). -/
def fineScale (b : Blk) (w : Nat) : Num × Bool :=
  match b with
  | .none => (.fin false 1 1, false)
  | .b16 => (decodeElem .e4m3 (w % 128), decide (128 ≤ w ∨ w % 128 = 127))
  | .b32 => if w = 255 then (.nan, true) else (numPow false 1 ((w : Int) - 127), false)

/-- Whether a coarse scale may be used: positive and finite (R39). -/
def coarseOk (w : Nat) : Bool :=
  match ofF32 w with
  | .fin false n _ => decide (0 < n)
  | _ => false

/-- The effective value of an element (R37): element × fine × coarse, exact; NaN for a NaN fine scale (R38). -/
def effValue (f : Fmt) (e : Nat) (fine coarse : Num) : Num :=
  match fine with
  | .nan => .nan
  | s => ((decodeElem f e).mul s).mul coarse

/-- The fine scale of an output block whose largest finite magnitude is `an / ad`, with coarse scale `cn / cd` (R41). -/
def chooseScale (b : Blk) (f : Fmt) (an ad cn cd : Nat) : Nat :=
  match b with
  | .none => 0
  | .b16 =>
    if an = 0 then 0
    else
      let mx := fmtMax f
      -- a ÷ (c × Fmax)
      let n := an * cd * mx.2
      let d := ad * cn * mx.1
      if 448 * d < n then 0x7E
      else if n * 512 < d then 1
      else
        let p := roundMag .e4m3 .away n d
        min 0x7E (encodeMag .e4m3 p.1 p.2)
  | .b32 =>
    if an = 0 then 0
    else
      let mx := fmtMax f
      let k := floorLog2 (an * cd) (ad * cn) - floorLog2 mx.1 mx.2
      (max (-127) (min 127 k) + 127).toNat

/-- The generator of R45: z for a seed and a counter. -/
def srMix (seed n : Nat) : Nat :=
  let z := (seed + n * 0x9E3779B97F4A7C15) % 2 ^ 64
  let z := ((z ^^^ (z / 2 ^ 30)) * 0xBF58476D1CE4E5B9) % 2 ^ 64
  let z := ((z ^^^ (z / 2 ^ 27)) * 0x94D049BB133111EB) % 2 ^ 64
  z ^^^ (z / 2 ^ 31)

/-- The draw of stochastic rounding for counter `n` of an invocation's seed (R45). -/
def srDraw (seed n : Nat) : Nat := srMix seed n / 2 ^ 48

/-- The counter of R45: replay index, command index, rank, tile ordinal and element. -/
def srCounter (replay cmd rank tile elem : Nat) : Nat :=
  (replay % 2 ^ 16) * 2 ^ 48 + (cmd % 2 ^ 12) * 2 ^ 36 + (rank % 2 ^ 8) * 2 ^ 28 + (tile % 2 ^ 16) * 2 ^ 12 + elem % 2 ^ 12

/-- The output block's largest finite magnitude as a fraction (R41: values that are not finite take no part). -/
def blockMax : List Num → Nat × Nat
  | [] => (0, 1)
  | .fin _ n d :: xs =>
    let p := blockMax xs
    if p.1 * d < n * p.2 then (n, d) else p
  | _ :: xs => blockMax xs

/-- Convert one element of an output block with coarse scale `c` and fine scale byte `sb` (R41). -/
def convertScaled (f : Fmt) (b : Blk) (sb : Nat) (cn cd : Nat) (r : Rnd) (v : Num) : Nat × Ev :=
  match b, (fineScale b sb).1, v with
  | .b16, .fin _ 0 _, .fin s _ _ => (if fmtIsInt f then 0 else signBit f s, .zero)
  | _, .fin _ sn sd, v => convertTo f r (v.divPos (cn * sn) (cd * sd))
  | _, _, v => convertTo f r v

end Sys2Proof.Machine
end

