-- ==== Sys2Proof/Machine/Coherence.lean ====
section
/-! DEFINITION. The coherence domain: agents, homes and messages (08_caches_and_coherence.md, R178 to R195), and the
accesses of cores that the cluster caches serve (R154 to R165). -/

namespace Sys2Proof.Machine

/-! ### Lines and memory -/

/-- Whether a line number lies in the resident store. -/
def rsLine (line : Nat) : Bool := rsBase / 128 ≤ line

/-- A line of LPDDR5X memory as a number. -/
def State.memLine (s : State) (line : Nat) : Nat := leNat (Mem.bytes s.dram (128 * line) 128)
def State.setMemLine (s : State) (line v : Nat) : State :=
  { s with dram := Mem.write s.dram (128 * line) (leBytes 128 v) }

/-- Write bytes of a line, by offset, into a memory. -/
def putBytes (m : Mem) (line : Nat) (bytes : List (Nat × Byte)) : Mem :=
  bytes.foldl (fun m b => Mem.setByte m (128 * line + b.1) b.2) m

/-- Stable states in which an agent may read (R185). -/
def LineState.readable : LineState → Bool
  | .S | .E | .M | .O => true
  | _ => false

/-- A line entering a transaction: no way, nothing received. -/
def CLine.request (st : LineState) (zero : Bool) : CLine :=
  { st := st, data := 0, way := 16, got := zero, dirtyBit := false, grant := none, acks := 0, zero := zero, hold := 0,
    parked := [], coach := 0 }

/-- The line an agent holds; none is state I. -/
def State.line (s : State) (a line : Nat) : Option CLine := (s.agent a).lines.look line
def State.setLine (s : State) (a line : Nat) (x : CLine) : State :=
  let g := s.agent a
  s.setAgent a { g with lines := Tab.put g.lines line x }
def State.dropLine (s : State) (a line : Nat) : State :=
  let g := s.agent a
  s.setAgent a { g with lines := Tab.del g.lines line }

/-- The bytes an accepted store writes, by offset. -/
def Accepted.writes (x : Accepted) : List (Nat × Byte) := if x.zero then bytesAt 0 (List.replicate 128 0#8) else x.bytes

/-- A line's bytes with the accepted stores that `p` names laid over them. -/
def Agent.viewIf (g : Agent) (p : Accepted → Bool) (line data : Nat) : Nat :=
  g.accepted.foldl (fun d x => if x.line = line && p x then setBytes d x.writes else d) data

/-- Whether a store has entered the cluster cache itself, and not a coach data cache alone (R154, R161). -/
def Accepted.shared (x : Accepted) : Bool := x.core.isNone || x.nc

/-- Whether an access of a core, or of an engine outside every core, sees an accepted store (R154, R155, R161). -/
def Accepted.seenBy (x : Accepted) (core : Option Nat) : Bool := x.shared || x.core = core

/-- A line's bytes as an access through the cluster cache sees them: accepted stores show (R154). -/
def Agent.view (g : Agent) (core : Option Nat) (line data : Nat) : Nat := g.viewIf (fun x => x.seenBy core) line data

/-- Count in a cluster's CCH register; the Starter's cache has none (R198). -/
def State.countCch (s : State) (a : Nat) (r : Nat → Nat) (n : Nat) : State := if a < 20 then s.count (r a) n else s

/-- Whether a line lies in the module reserve (R200). -/
def reserveLine (line : Nat) : Bool := line / 2 ^ 23 = 0

/-- Count in a home's CCH register, which leaves out the lines of the module reserve (R198). -/
def State.countHome (s : State) (h line : Nat) (r : Nat → Nat) (n : Nat) : State :=
  if reserveLine line then s else s.countCch h r n

/-! ### Messages (R186) -/

/-- Put a message in flight. -/
def State.send (s : State) (m : Msg) : State := { s with net := s.net ++ [m] }

/-- A message with its fixed fields; the rest 0. -/
def Msg.plain (cls kind line src dst : Nat) (toHome : Bool) : Msg :=
  { cls := cls, kind := kind, line := line, src := src, dst := dst, toHome := toHome, req := 0, install := 0, acks := 0,
    flag := false, data := 0, bytes := [] }

/-- Whether two messages are of one class between one pair of endpoints. -/
def Msg.sameChannel (m n : Msg) : Bool :=
  m.cls = n.cls && m.src = n.src && m.dst = n.dst && m.toHome = n.toHome

/-- Whether a message in flight is the one a row names: its kind, line and ends, and its sender where the row names one. -/
def Msg.isFor (m b : Msg) (src : Option Nat) : Bool :=
  m.kind = b.kind && m.line = b.line && m.dst = b.dst && m.toHome = b.toHome && (match src with | some a => m.src = a | none => true)

/-- Take the message a row names out of the network: none while an older message of its class and endpoints is in flight
(R186). It arrives as it was sent; one that was not in flight, `b`, comes from outside the model's agents. -/
def State.arrive (s : State) (b : Msg) (src : Option Nat) : Option (State × Msg) :=
  match s.net.find? (fun m => m.isFor b src) with
  | none => some (s, b)
  | some m =>
    match s.net.find? (fun n => n.sameChannel m) with
    | some n => if n = m then some ({ s with net := s.net.erase m }, m) else none
    | none => none

/-- A request of an agent to a line's home (R187); each counts in CCH_MISS. -/
def State.ask (s : State) (a kind line : Nat) (bytes : List (Nat × Byte)) : State :=
  match s.homeOf line with
  | none => s
  | some h => (s.countCch a Reg.cchMiss 1).send { Msg.plain 0 kind line a h true with req := a, bytes := bytes }

/-! ### Reservations (R164) -/

/-- Drop the reservations on a granule that an event breaks, counting each in DBG_RSV_LOST: those held at cluster `k`
(all clusters where none is given), but for the thread `except`. -/
def State.breakResv (s : State) (k : Option Nat) (granule : Nat) (but : Option Waiter) : State :=
  let hit (w : Waiter) (r : Option (Nat × Nat)) : Bool :=
    match r with
    | some (g, c) => g = granule && (k = none || k = some c) && but ≠ some w
    | none => false
  s.cores.foldl (fun s p =>
    let c := p.1
    let core := s.core c
    let clear (slot : Nat) (ts : List Thread) : List Thread :=
      ts.zipIdx.map (fun t => if hit (.lane c slot t.2) t.1.resv then { t.1 with resv := none } else t.1)
    let packs := core.packs.map (fun q => (q.1, { q.2 with threads := clear q.1 q.2.threads }))
    let n := (core.packs.map (fun q => (q.2.threads.zipIdx.filter (fun t => hit (.lane c q.1 t.2) t.1.resv)).length)).sum
    let gone := core.rsvLeft.filter (fun r => r.1 = granule && (k = none || k = some r.2))
    let left := core.rsvLeft.filter (fun r => !gone.contains r)
    let h := hit (.coach c) core.coach.resv
    let coach := if h then { core.coach with resv := none } else core.coach
    if n = 0 && !h && gone.isEmpty then s
    else (s.setCore c { core with packs := packs, coach := coach, rsvLeft := left }).count (Reg.dbgRsvLost c) (n + bit h + gone.length)) s

/-- Set a waiter's reservation. -/
def State.setResv (s : State) (w : Waiter) (r : Option (Nat × Nat)) : State :=
  match w with
  | .lane c slot lane =>
    match s.pack c slot with
    | some p => s.setPack c slot (p.setThread lane { p.thread lane with resv := r })
    | none => s
  | .coach c => s.setCoach c { (s.core c).coach with resv := r }

/-- A waiter's reservation. -/
def State.resv (s : State) (w : Waiter) : Option (Nat × Nat) :=
  match w with
  | .lane c slot lane => (match s.pack c slot with | some p => (p.thread lane).resv | none => none)
  | .coach c => (s.core c).coach.resv

/-- The core a waiter belongs to. -/
def Waiter.core : Waiter → Nat
  | .lane c _ _ => c
  | .coach c => c

/-! ### Coach caches (R171, R179) -/

/-- The set of a line in a coach cache, of 64 sets of four ways; the rule names no other index (DEDUCED, log 80). -/
def coachSet (line : Nat) : Nat := line % 64

/-- The four-way tree of three nodes: its victim, and a way marked used (PRESUMED, log 14). -/
def tree4Victim (t : Nat) : Nat :=
  let a := bit (bitOf t 1)
  2 * a + bit (bitOf t (2 + a))
def tree4Use (t way : Nat) : Nat := setFld (setFld t 1 1 (1 - way / 2)) (2 + way / 2) 1 (1 - way % 2)

/-- Whether the cache holds a copy of a line. -/
def CoachCache.has (k : CoachCache) (line : Nat) : Bool := (k.lines.look line).isSome
def CoachCache.drop (k : CoachCache) (line : Nat) : CoachCache := { k with lines := Tab.del k.lines line }

/-- Take a copy in, dirty or not, in a free way or the victim's; the line that makes room. -/
def CoachCache.put (k : CoachCache) (line : Nat) (dirty : Bool) : CoachCache × Option Nat :=
  let i := coachSet line
  let use (k : CoachCache) (way : Nat) (d : Bool) : CoachCache :=
    { lines := Tab.put k.lines line { way := way, dirty := d }, tree := Tab.set 0 k.tree i (tree4Use (Tab.get 0 k.tree i) way) }
  match k.lines.look line with
  | some l => (use k l.way (l.dirty || dirty), none)
  | none =>
    let ways := k.lines.filter (fun p => coachSet p.1 = i)
    match (List.range 4).find? (fun w => ways.all (fun p => p.2.way != w)) with
    | some w => (use k w dirty, none)
    | none =>
      let v := tree4Victim (Tab.get 0 k.tree i)
      match ways.find? (fun p => p.2.way = v) with
      | some p => (use (k.drop p.1) v dirty, some p.1)
      | none => (use k v dirty, none)

/-- Set or clear the presence bit of a core in its cluster cache's line. -/
def State.setPresence (s : State) (c line : Nat) (on : Bool) : State :=
  match s.line (c / 8) line with
  | some l => s.setLine (c / 8) line { l with coach := setFld l.coach (c % 8) 1 (bit on) }
  | none => s

/-- A coach core takes a copy of a line its cluster cache holds, or of a resident store line, into one of its caches; dirty
data that makes room goes back to the cluster cache. -/
def State.coachPut (s : State) (c : Nat) (instr : Bool) (line : Nat) (dirty : Bool) : State :=
  let k := s.core c
  let r := (if instr then k.icache else k.dcache).put line dirty
  let k := if instr then { k with icache := r.1 } else { k with dcache := r.1 }
  let s := (s.setCore c k).setPresence c line true
  match r.2 with
  | some old => if k.icache.has old || k.dcache.has old then s else s.setPresence c old false
  | none => s

/-- A core's coach caches lose a line; they keep it clean. -/
def Core.coachDrop (k : Core) (line : Nat) : Core := { k with icache := k.icache.drop line, dcache := k.dcache.drop line }
def Core.coachClean (k : Core) (line : Nat) : Core :=
  match k.dcache.lines.look line with
  | some l => { k with dcache := { k.dcache with lines := Tab.put k.dcache.lines line { l with dirty := false } } }
  | none => k

/-- The cluster cache invalidates every coach copy of a line but core `but`'s, taking dirty data back (R179). -/
def State.dropCopies (s : State) (a line : Nat) (but : Option Nat) : State :=
  match s.line a line with
  | none => s
  | some l =>
    ((setBits l.coach 8).map (8 * a + ·)).foldl (fun s c =>
      if but = some c then s else (s.setCore c ((s.core c).coachDrop line)).setPresence c line false) s

/-- It takes dirty coach data back and leaves the copies clean (R179). -/
def State.cleanCopies (s : State) (a line : Nat) : State :=
  match s.line a line with
  | none => s
  | some l => ((setBits l.coach 8).map (8 * a + ·)).foldl (fun s c => s.setCore c ((s.core c).coachClean line)) s

/-- Every coach copy of a line ends, as at a write of a resident store line (R176). -/
def State.dropResident (s : State) (line : Nat) : State :=
  s.cores.foldl (fun s p => if p.2.icache.has line || p.2.dcache.has line then s.setCore p.1 ((s.core p.1).coachDrop line) else s) s

/-! ### Accepting stores (R154, R175 to R177) -/

/-- Write bytes of a resident store line at its slice, which performs them (R176). -/
def State.slicePut (s : State) (line : Nat) (bytes : List (Nat × Byte)) : State :=
  let s := { s with rstore := putBytes s.rstore line bytes }
  (s.breakResv none line none).dropResident line

/-- A store enters the cluster cache of an agent: accepted. One to a resident store line of the cluster's own slice is
performed there at once, behind no other of the line (R176). -/
def State.accept (s : State) (a line : Nat) (bytes : List (Nat × Byte)) (nc zero : Bool) (core : Option Nat) : State :=
  let g := s.agent a
  let x : Accepted :=
    { id := s.nextId, line := line, bytes := bytes, nc := nc, sent := false, zero := zero, core := core, asked := false }
  if rsLine line && s.sliceOf (128 * line) = some a && !g.accepted.any (fun y => y.line = line) then s.slicePut line x.writes
  else (s.setAgent a { g with accepted := g.accepted ++ [x] }).useId

/-- Write back the dirty bytes of an L1 line, leaving the line clean (R173, R175). -/
def State.l1WriteBack (s : State) (c line : Nat) : State :=
  match (s.core c).l1.look line with
  | none => s
  | some l =>
    if l.dirty = 0 then s
    else
      let k := s.core c
      let s := s.setCore c { k with l1 := Tab.put k.l1 line { l with dirty := 0 } }
      s.accept (c / 8) line l.dirtyBytes false false none

/-- A write of the coach core or the feeder invalidates the L1's copy of the line: what the write covers and every clean
byte; dirty bytes it does not cover stay dirty, as no event of R157 writes them back (R155; DEDUCED, log 21). -/
def State.l1Inval (s : State) (c line : Nat) (offs : List Nat) : State :=
  let k := s.core c
  match k.l1.look line with
  | none => s
  | some l =>
    let left := (setBits l.dirty 128).filter (fun o => !offs.contains o)
    let d := (left.map (2 ^ ·)).sum
    if d = 0 then s.setCore c (k.l1Drop line) else s.setCore c { k with l1 := Tab.put k.l1 line { l with valid := d, dirty := d } }

/-- Write back every dirty line of a core's L1, lowest line first; the number written back. -/
def State.l1WriteAll (s : State) (c : Nat) : State × Nat :=
  let dirty := ((s.core c).l1.filter (fun p => p.2.dirty ≠ 0)).map Prod.fst
  (dirty.foldl (fun s l => s.l1WriteBack c l) s, dirty.length)

/-- Make a line present in a core's L1, evicting a line of its set where no way is free. -/
def State.l1Alloc (s : State) (c line : Nat) (stream : Bool) : State :=
  let k := s.core c
  match k.l1.look line with
  | some l =>
    let k := k.l1Touch line
    s.setCore c { k with l1 := Tab.put k.l1 line { l with stream := l.stream && stream } }
  | none =>
    if k.l1Sets = 0 then s
    else
      let v := k.l1Victim (k.l1Set line)
      let s := match v.2 with
        | some old => let s := s.l1WriteBack c old; s.setCore c ((s.core c).l1Drop old)
        | none => s
      let k := s.core c
      let l : L1Line := { valid := 0, dirty := 0, data := 0, way := v.1, stream := stream }
      s.setCore c ({ k with l1 := Tab.put k.l1 line l }.l1Touch line)

/-- Put bytes into an L1 line. -/
def State.l1Put (s : State) (c line : Nat) (bytes : List (Nat × Byte)) (dirty : Bool) : State :=
  let k := s.core c
  match k.l1.look line with
  | some l => s.setCore c ({ k with l1 := Tab.put k.l1 line (l.put bytes dirty) }.l1Touch line)
  | none => s

/-- Fill the invalid bytes of an L1 line from the cluster cache's copy (R173). -/
def State.l1Fill (s : State) (c line data : Nat) (stream : Bool) : State :=
  let s := s.l1Alloc c line stream
  let k := s.core c
  match k.l1.look line with
  | none => s
  | some l =>
    let new := (List.range 128).filter (fun o => !bitOf l.valid o)
    let d := new.foldl (fun d o => setFld d (8 * o) 8 (fld data (8 * o) 8)) l.data
    s.setCore c { k with l1 := Tab.put k.l1 line { l with data := d, valid := 2 ^ 128 - 1 } }

/-! ### Atomic operations (R133) -/

/-- FP32 addition to nearest even (R126). -/
def addRne (x y : Nat) : Nat := toF32 ((ofF32 x).add (ofF32 y))

/-- One level of the fixed tree: neighbours added, an empty node passing its neighbour. -/
def treeLevel : List (Option Nat) → List (Option Nat)
  | a :: b :: l => (match a, b with
      | some x, some y => some (addRne x y)
      | some x, none => some x
      | none, y => y) :: treeLevel l
  | l => l

/-- The operands' tree sum over 32 lanes. -/
def treeSum (lanes : List (Nat × Nat)) : Nat :=
  let leaf := (List.range 32).map (fun l => (lanes.find? (fun p => p.1 = l)).map Prod.snd)
  match treeLevel (treeLevel (treeLevel (treeLevel (treeLevel leaf)))) with
  | some x :: _ => x
  | _ => 0

/-- An integer operation of AOP on `n`-bit values. -/
def aluAtom (n aop v b : Nat) : Nat :=
  match aop with
  | 0 => (v + b) % 2 ^ n | 1 => v &&& b | 2 => v ||| b | 3 => v ^^^ b
  | 4 => if sx n b < sx n v then b else v
  | 5 => if sx n v < sx n b then b else v
  | 6 => min v b | 7 => max v b | _ => b

/-- One combined read-modify-write: lanes ascending with operand and compare value; each lane's result, the new value. -/
def atomOp (size aop : Nat) (lanes : List (Nat × Nat × Nat)) (old : Nat) : List (Nat × Nat) × Nat :=
  if aop = 10 then
    (lanes.map (fun l => (l.1, old)), addRne old (treeSum (lanes.map (fun l => (l.1, l.2.1)))))
  else
    let n := 8 * size
    lanes.foldl (fun (acc : List (Nat × Nat) × Nat) l =>
      let v := acc.2
      let w := if aop = 9 then (if v = l.2.2 % 2 ^ n then l.2.1 % 2 ^ n else v) else aluAtom n aop v (l.2.1 % 2 ^ n)
      (acc.1 ++ [(l.1, v)], w)) ([], old)

/-- The lane's waiter of an access made by `who`. -/
def Waiter.withLane (w : Waiter) (lane : Nat) : Waiter :=
  match w with
  | .lane c slot _ => .lane c slot lane
  | .coach c => .coach c

/-- A thread's atomic access is done: it goes on, or waits for its acquire fence (R131). -/
def State.endAccess (s : State) (w : Waiter) : State :=
  match w with
  | .lane c slot lane =>
    match s.pack c slot with
    | some p =>
      let t := p.thread lane
      let wait : Wait := if t.acq && !t.awaits.isEmpty then .fence [] true else .none
      s.setPack c slot (p.setThread lane { t with wait := wait, acq := false })
    | none => s
  | .coach c =>
    let k := (s.core c).coach
    let wait : Wait := if k.acq && !k.awaits.isEmpty then .fence [] true else .none
    s.setCoach c { k with wait := wait, acq := false }

/-- Write an access's result and let the thread go on. -/
def State.giveResult (s : State) (w : Waiter) (d size v : Nat) : State :=
  (s.giveLoad w d size false v).endAccess w

/-- Perform an atomic, LDX or STX on the bytes a line holds at cluster `k`: the line's new bytes, if any, and the
results given (R133, R135, R164). -/
def State.doAtom (s : State) (k : Nat) (w : AtomWait) (data : Nat) : State × Option (List (Nat × Byte)) :=
  let line := w.pa / 128
  let o := w.pa % 128
  let old := lineVal data o w.size
  match w.kind with
  | 0 =>
    let r := atomOp w.size w.aop (w.lanes.map (fun l => (l.1, l.2.2.1, l.2.2.2))) old
    let s := s.breakResv (some k) line none
    let s := w.lanes.foldl (fun s l =>
      let v := (r.1.find? (fun x => x.1 = l.1)).map Prod.snd
      s.giveResult (w.who.withLane l.1) l.2.1 w.size (v.getD 0)) s
    (s, some (bytesAt o (leBytes w.size r.2)))
  | 1 =>
    (w.lanes.foldl (fun s l => (s.giveResult (w.who.withLane l.1) l.2.1 w.size old).setResv (w.who.withLane l.1)
      (some (line, k))) s, none)
  | _ =>
    w.lanes.foldl (fun (acc : State × Option (List (Nat × Byte))) l =>
      let s := acc.1
      let me := w.who.withLane l.1
      if s.resv me = some (line, k) then
        let s := (s.setResv me none).breakResv (some k) line none
        ((s.giveLoad me l.2.1 4 false 0).endAccess me, some (bytesAt o (leBytes w.size l.2.2.1)))
      else
        let s := (s.setResv me none).count (Reg.dbgSimtStxfail me.core) 1
        ((s.giveLoad me l.2.1 4 false 1).endAccess me, acc.2)) (s, none)

/-! ### Progress of waiting accesses -/

/-- Replace an accepted store by its number; take one out. -/
def State.setAccepted (s : State) (a : Nat) (x : Accepted) : State :=
  let g := s.agent a
  s.setAgent a { g with accepted := g.accepted.map (fun y => if y.id = x.id then x else y) }
def State.dropAccepted (s : State) (a id : Nat) : State :=
  let g := s.agent a
  s.setAgent a { g with accepted := g.accepted.filter (fun y => y.id ≠ id) }

/-- Perform an accepted store on a line the agent holds in M or E; a coach core's leaves a dirty copy with it (R179, R192). -/
def State.performStore (s : State) (a : Nat) (x : Accepted) : State :=
  let s := s.dropAccepted a x.id
  let s := if x.asked then s else s.countCch a Reg.cchHit 1
  let s := (s.breakResv (some a) x.line none).dropCopies a x.line x.core
  let s := match s.line a x.line with
    | some l => s.setLine a x.line { l with st := .M, data := setBytes l.data x.writes }
    | none => s
  match x.core with
  | some c => if x.nc then s else s.coachPut c false x.line true
  | none => s

/-- Ask for ownership of a line held in S or O, by Upg, or by ClaimZ where it is to be zeroed (R192). -/
def State.upgrade (s : State) (a line : Nat) (l : CLine) (zero : Bool) : State :=
  (s.setLine a line { l with st := if l.st = .S then .SMA else .OMA, grant := none, acks := 0, zero := zero }).ask a
    (if zero then 3 else 2) line []

/-- Perform one accepted store when its line allows it, else ask the home for what it needs; one to another cluster's slice
arrives there at a time that is not stated, a free value (R175 to R177, R192; DESIGN CHOICE, log 80). -/
def State.tryStore (s : State) (a : Nat) (x : Accepted) : State :=
  let g := s.agent a
  match g.accepted.find? (fun y => y.line = x.line) with
  | none => s
  | some y =>
    if y.id ≠ x.id then s
    else if rsLine y.line then
      if s.freeVal 1 = 0 then s.useFree 1 else ((s.useFree 1).dropAccepted a y.id).slicePut y.line y.writes
    else match g.lines.look y.line with
      | some l =>
        (match l.st with
         | .M | .E => s.performStore a y
         | .S | .O => (s.setAccepted a { y with asked := true }).upgrade a y.line l y.zero
         | _ => s.setAccepted a { y with asked := true })
      | none =>
        if (s.homeOf y.line).isNone then s
        else if y.nc && !y.zero then
          if y.sent then s else (s.setAccepted a { y with sent := true, asked := true }).ask a 5 y.line y.bytes
        else ((s.setAccepted a { y with asked := true }).setLine a y.line (CLine.request .IMAD y.zero)).ask a
          (if y.zero then 3 else 1) y.line []

/-- A line's bytes as a waiting load sees them: with the stores accepted before it (R158). -/
def Agent.viewFor (g : Agent) (w : LoadWait) (data : Nat) : Nat :=
  g.viewIf (fun x => x.seenBy (some w.who.core) && x.id < w.id) (w.pa / 128) data

/-- Give a waiting load its value out of its line's data, filling the cache it fills. -/
def State.serveLoad (s : State) (a : Nat) (w : LoadWait) (data : Nat) : State :=
  let g := s.agent a
  let line := w.pa / 128
  let d := g.viewFor w data
  let s := s.setAgent a { g with loads := g.loads.erase w }
  let s := if w.asked then s else s.countCch a Reg.cchHit 1
  let s := match w.fill with
    | .l1 c stream => s.l1Fill c line (g.view (some c) line data) stream
    | .coach c instr => s.coachPut c instr line false
    | .none => s
  s.giveLoad w.who w.reg w.size w.sext (lineVal (setBytes d w.bytes) (w.pa % 128) w.size)

/-- Serve one waiting load from its agent when the line may be read, else ask the home (R156, R175, R192). -/
def State.tryLoad (s : State) (a : Nat) (w : LoadWait) : State :=
  let g := s.agent a
  let line := w.pa / 128
  let asked (s : State) : State :=
    let g := s.agent a
    s.setAgent a { g with loads := g.loads.map (fun x => if x = w then { x with asked := true } else x) }
  match g.lines.look line with
  | some l => if l.st.readable then s.serveLoad a w l.data else asked s
  | none =>
    if (s.homeOf line).isNone then s
    else if w.nc then
      if g.ncReads.any (fun r => r.line = line) then asked s
      else
        let s := asked s
        let g := s.agent a
        (s.setAgent a { g with ncReads := g.ncReads ++ [{ line := line }] }).ask a 4 line []
    else ((asked s).setLine a line (CLine.request .ISD false)).ask a 0 line []

/-- A load for nobody: it brings its line and leaves a copy in the cache it fills. -/
def State.touch (s : State) (a : Nat) (who : Waiter) (fill : Fill) (line : Nat) : State :=
  let g := s.agent a
  let w : LoadWait := { id := s.nextId, who := who, pa := 128 * line, size := 1, reg := 255, sext := false, fill := fill,
                        bytes := [], nc := false, asked := false }
  (s.setAgent a { g with loads := g.loads ++ [w] }).tryLoad a w

/-- The cluster cache through which the holder of a translation cache walks the map; 31 is the PCIe host port, of the virtual
functions. -/
def walkAgent (holder : Nat) : Nat :=
  if holder < 160 then holder / 8 else if holder < 180 then holder - 160 else if holder = 180 then 20 else 31

/-- Use the translation of a virtual page from a holder's cache. A miss reads the bucket lines through the cluster cache, as
CH 2 loads (R214). -/
def State.tlbUse (s : State) (holder p va : Nat) : State :=
  let vpn := va / 0x8000
  if 2 ^ 48 ≤ va || s.tlbHas holder p vpn then s
  else
    let a := walkAgent holder
    (s.walkLines p vpn).foldl (fun s line =>
      if a = 31 then s.ask 31 4 line [] else s.touch a (.lane 0 64 0) .none line) (s.tlbFill holder p vpn)

/-- Whether an earlier load of one of the access's threads still waits for bytes of its line (R158). -/
def Agent.loadsBefore (g : Agent) (w : AtomWait) : Bool :=
  g.loads.any (fun x => x.pa / 128 = w.pa / 128 && w.lanes.any (fun l => w.who.withLane l.1 = x.who))

/-- Perform one waiting atomic, LDX or STX at its agent, once no earlier store of its cluster to the line is still to be
performed and no earlier load of its threads to be served (R158, R194). -/
def State.tryAtom (s : State) (a : Nat) (w : AtomWait) : State :=
  let g := s.agent a
  let line := w.pa / 128
  let done (s : State) : State :=
    let g := s.agent a
    s.setAgent a { g with atoms := g.atoms.erase w }
  let asked (s : State) : State :=
    let g := s.agent a
    s.setAgent a { g with atoms := g.atoms.map (fun x => if x = w then { x with asked := true } else x) }
  let mine := s.agent (w.who.core / 8)
  if mine.accepted.any (fun x => x.line = line) || mine.loadsBefore w then s
  else if w.kind = 2 && !(w.lanes.any (fun l => s.resv (w.who.withLane l.1) = some (line, a))) then
    done (s.doAtom a w 0).1
  else match g.lines.look line with
    | some l =>
      if l.st = .M || l.st = .E || (w.kind = 1 && l.st.readable) then
        let s := if w.asked then s else s.countCch a Reg.cchHit 1
        let r := (done s).doAtom a w l.data
        (match r.2 with
         | some b =>
           let s := r.1.dropCopies a line none
           (match s.line a line with
            | some l => s.setLine a line { l with st := .M, data := setBytes l.data b }
            | none => s)
         | none => r.1)
      else if l.st = .S || l.st = .O then (asked s).upgrade a line l false
      else asked s
    | none =>
      if (s.homeOf line).isNone then s
      else if w.kind = 1 then ((asked s).setLine a line (CLine.request .ISD false)).ask a 0 line []
      else ((asked s).setLine a line (CLine.request .IMAD false)).ask a 1 line []

/-! ### Installing and evicting (R178, R187, R189) -/

/-- One step of the LFSR, Galois form, polynomial x³² + x²² + x² + x + 1 (DESIGN CHOICE, log 15: shifting right). -/
def lfsrStep (x : BitVec 32) : BitVec 32 := if x.getLsbD 0 then (x >>> 1) ^^^ 0x80200003#32 else x >>> 1

/-- The set of a line in a cluster cache. -/
def cSet (line : Nat) : Nat := (line % 4096) ^^^ (line / 4096 % 4096)

/-- Ways of an agent's cache, and a line's set there: the Starter's cache has 512 sets of 8 ways (R171), indexed by the same
bits folded as R178 folds them, modulo 512 (DEDUCED, log 80). -/
def agentWays (a : Nat) : Nat := if a = 20 then 8 else 16
def agentSet (a line : Nat) : Nat := if a = 20 then cSet line % 512 else cSet line

/-- Whether an agent may evict the line: stable and out of its hold. -/
def CLine.evictable (l : CLine) : Bool := l.st.readable && l.hold = 0

/-- Send a Put with the line's data. -/
def State.sendPut (s : State) (a line kind data : Nat) : State :=
  match s.homeOf line with
  | none => s
  | some h => s.send { Msg.plain 0 kind line a h true with req := a, data := data }

/-- Evict a line: silently from S and E, by PutM or PutO from M and O (R185, R191). -/
def State.evict (s : State) (a line : Nat) : State :=
  match s.line a line with
  | none => s
  | some l =>
    let s := (s.breakResv (some a) line none).dropCopies a line none
    match l.st with
    | .M => ((s.setLine a line { l with st := .MIA, way := 16, coach := 0 }).countCch a Reg.cchWb 1).sendPut a line 6 l.data
    | .O => ((s.setLine a line { l with st := .OIA, way := 16, coach := 0 }).countCch a Reg.cchWb 1).sendPut a line 7 l.data
    | _ => s.dropLine a line

/-- Find a way for a line in its set: the lowest invalid one, else a victim from the LFSR, which steps; none while every
way is held. -/
def State.takeWay (s : State) (a line : Nat) : Option (State × Nat) :=
  let g := s.agent a
  let n := agentWays a
  let ways := g.lines.filter (fun p => agentSet a p.1 = agentSet a line && p.2.way < 16)
  match (List.range n).find? (fun w => ways.all (fun p => p.2.way != w)) with
  | some w => some (s, w)
  | none =>
    let first := g.lfsr.toNat % n
    let order := (List.range n).map (fun i => (first + i) % n)
    let s := s.setAgent a { g with lfsr := lfsrStep g.lfsr }
    match order.findSome? (fun w => ways.find? (fun p => p.2.way = w && p.2.evictable)) with
    | some p => some (s.evict a p.1, p.2.way)
    | none => none

/-- The die of an agent (R182). -/
def agentDie (a : Nat) : Nat := if a < 10 || a = 20 then 0 else 1

/-- A requester that holds all it needs installs the granted state and sends CompAck (R187); while no way is free it keeps
what it holds. -/
def State.install (s : State) (a line : Nat) : State :=
  match s.line a line with
  | none => s
  | some l =>
    match l.grant with
    | none => s
    | some gr =>
      let st : Option LineState := match l.st with
        | .ISD => if l.got then some (if gr.install = 2 then .E else if gr.install = 3 then .M else .S) else none
        | .IMAD => if l.got && l.acks = gr.acks then some .M else none
        | .SMA | .OMA => if l.acks = gr.acks then some .M else none
        | _ => none
      match st with
      | none => s
      | some st =>
        match (if l.way < 16 then some (s, l.way) else s.takeWay a line) with
        | none => s
        | some (s, w) =>
          let home := s.homeOf line
          let near := match home with | some h => agentDie h = agentDie a | none => false
          let hold := if near && (st = .M || st = .E) then 1 else 0
          let s := s.setLine a line { l with st := st, way := w, grant := none, acks := 0, got := false,
                                             zero := false, hold := hold }
          match home with
          | some h => s.send { Msg.plain 3 21 line a h true with req := a, flag := l.dirtyBit }
          | none => s

/-- Let every access that can go on do so: lines whose transaction is complete are installed, then the loads of each agent
are served, its stores performed, then its atomics. -/
def State.pump (s : State) : State :=
  let as := s.agents.map Prod.fst
  let s := as.foldl (fun s a => (s.agent a).lines.foldl (fun s p => if p.2.grant.isSome then s.install a p.1 else s) s) s
  let s := as.foldl (fun s a => (s.agent a).loads.foldl (fun s w => s.tryLoad a w) s) s
  let s := as.foldl (fun s a => (s.agent a).accepted.foldl (fun s x => s.tryStore a x) s) s
  as.foldl (fun s a => (s.agent a).atoms.foldl (fun s w => s.tryAtom a w) s) s

/-! ### Forwards at an agent (R188, R189, R192) -/

/-- The answer to a forward, put in flight: Data to the requester, FwdMiss or RecallData or InvAck. -/
def State.answer (s : State) (a kind line req data : Nat) (flag : Bool) : State :=
  match kind with
  | 15 => s.send { Msg.plain 2 15 line a req false with data := data, flag := flag }
  | 16 => (match s.homeOf line with
           | some h => (s.countCch a Reg.cchFwdMiss 1).send (Msg.plain 2 16 line a h true)
           | none => s)
  | 17 => (match s.homeOf line with
           | some h => s.send { Msg.plain 2 17 line a h true with data := data }
           | none => s)
  | _ => s.send (Msg.plain 3 20 line a req false)

/-- InvAck answering a Recall. -/
def State.ackHome (s : State) (a line : Nat) : State :=
  match s.homeOf line with
  | some h => s.send (Msg.plain 3 20 line a h true)
  | none => s

/-- Protocol error (R192, R196 cause 1). -/
def State.protocolError (s : State) (a cls line : Nat) : State :=
  s.fatalStop { FatalInfo.of 1 with agent := a, mclass := cls, addr := 128 * line }

/-- An agent without a copy: FwdMiss to the home, or InvAck, counted (R188). -/
def State.noCopy (s : State) (a kind line req : Nat) : State :=
  match kind with
  | 11 => (s.countCch a Reg.cchInvStale 1).answer a 20 line req 0 false
  | 12 => (s.countCch a Reg.cchInvStale 1).ackHome a line
  | _ => s.answer a 16 line req 0 false

/-- An agent acts on a forward: FwdS 8, FwdX 9, FwdCur 10, Inv 11, Recall 12 (R192). -/
def State.forward (s : State) (a kind line req : Nat) : State :=
  match s.line a line with
  | none => s.noCopy a kind line req
  | some l =>
    let lose (s : State) : State := ((s.breakResv (some a) line none).dropCopies a line none).dropLine a line
    let into (st : LineState) (s : State) : State := (s.cleanCopies a line).setLine a line { l with st := st }
    let again (s : State) : State := ((s.breakResv (some a) line none).dropCopies a line none).setLine a line
      { l with st := .IMAD, got := l.zero, way := 16, coach := 0 }
    match l.st, kind with
    | .S, 11 => (lose s).answer a 20 line req 0 false
    | .S, 12 => (lose s).ackHome a line
    | .E, 8 => (into .S s).answer a 15 line req l.data false
    | .E, 9 => (lose s).answer a 15 line req l.data false
    | .E, 10 => s.answer a 15 line req l.data false
    | .E, 11 => (lose s).answer a 20 line req 0 false
    | .E, 12 => (lose s).ackHome a line
    | .M, 8 => (into .O s).answer a 15 line req l.data true
    | .M, 9 => (lose s).answer a 15 line req l.data true
    | .M, 10 => s.answer a 15 line req l.data false
    | .M, 11 => (lose s).answer a 20 line req 0 false
    | .M, 12 => (lose s).answer a 17 line req l.data false
    | .O, 8 => (s.cleanCopies a line).answer a 15 line req l.data true
    | .O, 9 => (lose s).answer a 15 line req l.data true
    | .O, 10 => s.answer a 15 line req l.data false
    | .O, 11 => (lose s).answer a 20 line req 0 false
    | .O, 12 => (lose s).answer a 17 line req l.data false
    | .SMA, 11 => (again s).answer a 20 line req 0 false
    | .OMA, 9 => (again s).answer a 15 line req l.data true
    | .OMA, 11 => (again s).answer a 20 line req 0 false
    | .MIA, 8 => (into .OIA s).answer a 15 line req l.data true
    | .OIA, 8 => s.answer a 15 line req l.data true
    | .MIA, 9 | .OIA, 9 => (into .IIA s).answer a 15 line req l.data true
    | .MIA, 12 | .OIA, 12 => (into .IIA s).answer a 17 line req l.data false
    | .MIA, 10 | .OIA, 10 => s.answer a 15 line req l.data false
    | .MIA, 11 | .OIA, 11 => (into .IIA s).answer a 20 line req 0 false
    | .ISD, _ | .IMAD, _ | .IIA, _ => s.noCopy a kind line req
    | _, _ => s.protocolError a 1 line

/-- Forwards an agent has parked. -/
def Agent.parkedCount (g : Agent) : Nat := (g.lines.map (fun p => p.2.parked.length)).sum

/-- A forward reaches an agent: within the hold it is parked in one of 16 hold slots, FwdCur apart; none while the slots
are full, as the Forward class then waits at that agent (R189). -/
def State.takeForward (s : State) (a kind line req : Nat) : Option State :=
  if 16 ≤ (s.agent a).parkedCount then none
  else match s.line a line with
    | some l =>
      if l.hold = 1 && kind != 10 then some (s.setLine a line { l with parked := l.parked ++ [{ kind := kind, req := req }] })
      else some (s.forward a kind line req)
    | none => some (s.forward a kind line req)

/-! ### The home (R183, R184, R187, R193) -/

/-- A line's directory entry; none is state I. -/
def State.dirEntry (s : State) (h line : Nat) : Option DirEntry := (s.dir h).entries.look line
def State.setDirEntry (s : State) (h line : Nat) (e : DirEntry) : State :=
  let d := s.dir h
  s.setDir h { d with entries := Tab.put d.entries line e }
def State.dropDirEntry (s : State) (h line : Nat) : State :=
  let d := s.dir h
  s.setDir h { d with entries := Tab.del d.entries line }

/-- Agents a sharer vector lists. -/
def listed (v : Nat) : List Nat := setBits v 21

/-- Send a forward to each listed agent. -/
def State.forwardAll (s : State) (h kind line req : Nat) (as : List Nat) : State :=
  as.foldl (fun s a => s.send { Msg.plain 1 kind line h a false with req := req }) s

/-- Send the requester a response with data or not: DataG 13 or Grant 14. -/
def State.grantTo (s : State) (h kind line req install acks : Nat) : State :=
  s.send { Msg.plain 2 kind line h req false with install := install, acks := acks,
                                                  data := if kind = 13 then s.memLine line else 0 }

/-- The home works on a request whose line is not busy (R193). -/
def State.homeAct (s : State) (h : Nat) (r : HReq) : State :=
  let e := (s.dirEntry h r.line).getD { st := 0, owner := 0, sharers := 0, txn := none }
  let others := (listed e.sharers).filter (fun a => a ≠ r.req)
  let n := others.length
  let open' (s : State) (owed : Nat) : State :=
    s.setDirEntry h r.line { e with txn := some { request := r, owed := owed, isRecall := false } }
  let has := bitOf e.sharers r.req
  let isOwner := (e.st = 2 || e.st = 3) && e.owner = r.req
  -- RdX, and an Upg that the home answers as one
  let rdx : State :=
    match e.st with
    | 0 => (open' s 0).grantTo h 13 r.line r.req 3 0
    | 1 => ((open' s 0).forwardAll h 11 r.line r.req others).grantTo h 13 r.line r.req 3 n
    | 2 => ((open' s 0).forwardAll h 9 r.line r.req [e.owner]).grantTo h 14 r.line r.req 3 0
    | _ => (((open' s 0).forwardAll h 9 r.line r.req [e.owner]).forwardAll h 11 r.line r.req
              (others.filter (fun a => a ≠ e.owner))).grantTo h 14 r.line r.req 3 (n - 1)
  match r.kind with
  | 0 =>
    (match e.st with
     | 0 => (open' s 0).grantTo h 13 r.line r.req 2 0
     | 1 => (open' s 0).grantTo h 13 r.line r.req 1 0
     | _ => ((open' s 0).forwardAll h 8 r.line r.req [e.owner]).grantTo h 14 r.line r.req 1 0)
  | 1 => rdx
  | 2 =>
    if e.st = 1 && has then ((open' s 0).forwardAll h 11 r.line r.req others).grantTo h 14 r.line r.req 3 n
    else if e.st = 3 && has then ((open' s 0).forwardAll h 11 r.line r.req others).grantTo h 14 r.line r.req 3 n
    else if e.st = 2 && isOwner then s.protocolError r.req 0 r.line
    else rdx
  | 3 =>
    (match e.st with
     | 0 => (open' s 0).grantTo h 14 r.line r.req 3 0
     | 1 => ((open' s 0).forwardAll h 11 r.line r.req others).grantTo h 14 r.line r.req 3 n
     | 2 => ((open' s 0).forwardAll h 11 r.line r.req [e.owner]).grantTo h 14 r.line r.req 3 1
     | _ => ((open' s 0).forwardAll h 11 r.line r.req others).grantTo h 14 r.line r.req 3 n)
  | 4 =>
    (match e.st with
     | 0 | 1 => (open' s 0).grantTo h 13 r.line r.req 0 0
     | _ => (open' s 0).forwardAll h 10 r.line r.req [e.owner])
  | 5 =>
    if e.st = 0 then
      ({ s with dram := putBytes s.dram r.line r.bytes }).send (Msg.plain 2 19 r.line h r.req false)
    else
      let all := listed e.sharers
      (open' s all.length).forwardAll h 12 r.line r.req all
  | k =>
    -- PutM, PutO
    if isOwner then
      let s := { s with dram := putBytes s.dram r.line r.bytes }
      let s := if e.st = 3 && k ≤ 7 then
          let sh := setFld e.sharers r.req 1 0
          if sh = 0 then s.dropDirEntry h r.line
          else s.setDirEntry h r.line { e with st := 1, owner := 0, sharers := sh }
        else s.dropDirEntry h r.line
      s.send { Msg.plain 2 18 r.line h r.req false with flag := false }
    else s.send { Msg.plain 2 18 r.line h r.req false with flag := true }

/-- Whether a request for the line waits for the recall of a victim, which makes the line busy too (R184, R187). -/
def Dir.claimed (d : Dir) (line : Nat) : Bool :=
  d.entries.any (fun e => match e.2.txn with | some t => t.isRecall && t.request.line = line | none => false)

/-- The home takes a request up: held while the line is busy; a full set first recalls a victim (R184, R187). -/
def State.homeTake (s : State) (h : Nat) (r : HReq) : State :=
  let d := s.dir h
  let hold (s : State) : State := let d := s.dir h; s.setDir h { d with waiting := d.waiting ++ [r] }
  match d.entries.look r.line with
  | some e => if e.txn.isSome then hold s else s.homeAct h r
  | none =>
    let set := d.entries.filter (fun p => lineHash p.1 % 8192 = lineHash r.line % 8192)
    if d.claimed r.line then hold s
    else if set.length < 16 || 5 ≤ r.kind then s.homeAct h r
    else
      let free := set.filter (fun p => p.2.txn.isNone)
      match free[d.lfsr.toNat % (max free.length 1)]? with
      | none => hold s
      | some v =>
        let hs := listed v.2.sharers
        let s := s.setDir h { d with lfsr := lfsrStep d.lfsr }
        let s := s.setDirEntry h v.1 { v.2 with txn := some { request := r, owed := hs.length, isRecall := true } }
        (s.countHome h v.1 Reg.cchRecall 1).forwardAll h 12 v.1 r.req hs

/-- Requests that waited are taken up again, in arrival order, once a line is free. -/
def State.homeNext (s : State) (h : Nat) : State :=
  let w := (s.dir h).waiting
  let s := s.setDir h { s.dir h with waiting := [] }
  w.foldl (fun s r => s.homeTake h r) s

/-- The requester's CompAck ends a transaction: the directory takes its next state (R193). -/
def nextDir (e : DirEntry) (r : HReq) (dirty : Bool) : Option DirEntry :=
  match r.kind with
  | 0 =>
    (match e.st with
     | 0 => some { st := 2, owner := r.req, sharers := 2 ^ r.req, txn := none }
     | 1 => some { e with sharers := setFld e.sharers r.req 1 1, txn := none }
     | 2 => if dirty then some { e with st := 3, sharers := setFld e.sharers r.req 1 1, txn := none }
            else some { st := 1, owner := 0, sharers := setFld e.sharers r.req 1 1, txn := none }
     | _ => some { e with sharers := setFld e.sharers r.req 1 1, txn := none })
  | 4 => if e.st = 0 then none else some { e with txn := none }
  | _ => some { st := 2, owner := r.req, sharers := 2 ^ r.req, txn := none }

/-- A recalled agent has answered: with all answers the WrNC is merged, or the victim's entry is freed and its request
goes on (R184, R193). -/
def State.recallAnswer (s : State) (h line a : Nat) : State :=
  match s.dirEntry h line with
  | some e =>
    (match e.txn with
     | some t =>
       if t.owed = 0 then s.protocolError a 3 line
       else if 1 < t.owed then s.setDirEntry h line { e with txn := some { t with owed := t.owed - 1 } }
       else
         let s := s.dropDirEntry h line
         let s := if t.isRecall then s.homeTake h t.request
           else ({ s with dram := putBytes s.dram line t.request.bytes }).send
             (Msg.plain 2 19 line h t.request.req false)
         s.homeNext h
     | none => s.protocolError a 3 line)
  | none => s.protocolError a 3 line

/-! ### What a message does where it arrives (R187 to R193) -/

/-- Whether an agent number names a present agent (R182). -/
def State.agentOn (s : State) (a : Nat) : Bool := a = 20 || s.clusterOn a

/-- Complete the non-caching reads of a line at an agent with its data: the loads take it, CompAck goes to the home
(R175, R194). -/
def State.ncDone (s : State) (a line data : Nat) : State :=
  let g := s.agent a
  let mine := if a = 31 then [] else g.loads.filter (fun w => w.nc && w.pa / 128 = line)
  let s := if a = 31 then s else
    s.setAgent a { g with loads := g.loads.filter (fun w => !(w.nc && w.pa / 128 = line)),
                          ncReads := g.ncReads.filter (fun r => r.line ≠ line) }
  let s := mine.foldl (fun s w =>
    s.giveLoad w.who w.reg w.size w.sext (lineVal (setBytes (g.viewFor w data) w.bytes) (w.pa % 128) w.size)) s
  match s.homeOf line with
  | some h => s.send { Msg.plain 3 21 line a h true with req := a }
  | none => s

/-- A request at its home; at most 256 wait there. The directory names no absent agent, nor a requester that is none. -/
def State.actRequest (s : State) (m : Msg) : Option State :=
  if s.homeOf m.line ≠ some m.dst || 256 ≤ (s.dir m.dst).waiting.length then none
  else if m.req ≠ 31 && !s.agentOn m.req then some (s.protocolError m.req 0 m.line)
  else
    let bytes := if m.kind = 6 || m.kind = 7 then bytesAt 0 (leBytes 128 m.data) else m.bytes
    let listed' := match s.dirEntry m.dst m.line with | some e => listed e.sharers | none => []
    match listed'.find? (fun a => !s.agentOn a) with
    | some a => some (s.protocolError a 0 m.line)
    | none => some (s.homeTake m.dst { kind := m.kind, line := m.line, req := m.req, bytes := bytes })

/-- DataG, Grant, Data, WbAck, DoneNC and InvAck at an agent; Ack and Response always sink (R190). -/
def State.actAnswer (s : State) (m : Msg) : State :=
  let a := m.dst
  let line := m.line
  let bad : State := s.protocolError a m.cls line
  let grant : Option GrantHeld := some { install := m.install, acks := m.acks }
  let fill (l : CLine) : CLine := { l with data := if l.zero then l.data else m.data, got := true }
  let then' (l : CLine) : State := ((s.setLine a line l).install a line).pump
  let nc := (s.agent a).ncReads.any (fun r => r.line = line)
  let l := s.line a line
  match m.kind with
  | 13 =>
    if a = 31 then s.ncDone 31 line m.data
    else if m.install = 0 then (if nc then s.ncDone a line m.data else bad)
    else (match l with
      | some l => if l.st = .ISD || l.st = .IMAD then then' { fill l with grant := grant } else bad
      | none => bad)
  | 14 => (match l with
    | some l => if l.st = .ISD || l.st = .IMAD || l.st = .SMA || l.st = .OMA then then' { l with grant := grant } else bad
    | none => bad)
  | 15 =>
    if a = 31 then s.ncDone 31 line m.data
    else if nc then s.ncDone a line m.data
    else (match l with
      | some l => if (l.st = .ISD || l.st = .IMAD) && (!l.got || l.zero) then then' { fill l with dirtyBit := m.flag } else bad
      | none => bad)
  | 18 => (match l with
    | some l => if l.st = .MIA || l.st = .OIA || (l.st = .IIA && m.flag) then (s.dropLine a line).pump else bad
    | none => bad)
  | 19 =>
    if a = 31 then s
    else
      let g := s.agent a
      (match g.accepted.find? (fun x => x.line = line && x.sent) with
       | some x => (s.setAgent a { g with accepted := g.accepted.erase x }).pump
       | none => bad)
  | _ => (match l with
    | some l => if l.st = .IMAD || l.st = .SMA || l.st = .OMA then then' { l with acks := l.acks + 1 } else bad
    | none => bad)

/-- Count the cluster cycles a held request has waited, a number the model does not know (DESIGN CHOICE, log 16); a request
for a line of the module reserve is not counted (R198). -/
def State.countBlock (s : State) (h : Nat) : State :=
  if (s.dir h).waiting.all (fun r => reserveLine r.line) then s
  else ((s.countCch h Reg.cchHomeBlock (s.freeVal 64)).useFree 1)

/-- FwdMiss, RecallData, InvAck and CompAck at a home (R184, R187, R188, R193). -/
def State.actAtHome (s : State) (m : Msg) : State :=
  let h := m.dst
  let bad : State := s.protocolError m.src m.cls m.line
  match m.kind with
  | 20 => (s.countBlock h).recallAnswer h m.line m.src
  | k =>
    match s.dirEntry h m.line with
    | none => bad
    | some e =>
      match e.txn with
      | none => bad
      | some x =>
        if k = 16 then
          if e.st = 3 || x.isRecall then bad
          else s.send { Msg.plain 2 15 m.line h x.request.req false with data := s.memLine m.line }
        else if k = 17 then
          if x.owed = 0 then bad else ((s.setMemLine m.line m.data).countBlock h).recallAnswer h m.line m.src
        else if x.isRecall || x.owed ≠ 0 || x.request.req ≠ m.src then bad
        else
          let s := s.countBlock h
          let s := match nextDir e x.request m.flag with
            | some e' => s.setDirEntry h m.line e'
            | none => s.dropDirEntry h m.line
          s.homeNext h

/-- A message arrives; none while it must wait. -/
def State.act (s : State) (m : Msg) : Option State :=
  if m.kind ≤ 7 then s.actRequest m
  else if m.kind ≤ 12 then (s.takeForward m.dst m.kind m.line m.req).map State.pump
  else some (if m.toHome then s.actAtHome m else s.actAnswer m)

/-- The hold of R189 ends: parked forwards are acted on, and the cycles they waited, at most 64 each, counted. -/
def State.endHold (s : State) (a line : Nat) : State :=
  match s.line a line with
  | some l =>
    let t := s.setLine a line { l with hold := 0, parked := [] }
    (l.parked.foldl (fun t p =>
      ((t.countCch a Reg.cchHoldWait (t.freeVal 16 % 65)).useFree 1).forward a p.kind line p.req) t).pump
  | none => s

/-! ### Accesses of the bulk engines (R175, R180, R194) -/

/-- The next thing the protocol has under way for a line: the oldest message of the channel of one of its messages arrives,
or, where one must wait or is parked, a hold ends. -/
def State.progress (s : State) (line : Nat) : Option State :=
  let held (s : State) (f : Nat → CLine → Bool) : Option State :=
    (s.agents.findSome? (fun p => (p.2.lines.find? (fun l => l.2.hold = 1 && f p.1 l.2 && !l.2.parked.isEmpty)).map (fun l => (p.1, l.1)))).map
      (fun x => s.endHold x.1 x.2)
  match s.net.find? (fun m => m.line = line) with
  | some m =>
    (match s.net.find? (fun n => n.sameChannel m) with
     | some n =>
       (match State.act { s with net := s.net.erase n } n with
        | some t => some t
        | none => held s (fun a _ => a = n.dst))
     | none => none)
  | none =>
    (s.agents.find? (fun p => match p.2.lines.look line with | some l => l.hold = 1 && !l.parked.isEmpty | none => false)).map
      (fun p => s.endHold p.1 line)

/-- Let the transactions of a line come to their end: messages take a bulk access no longer than it lasts (DESIGN CHOICE,
log 23). -/
def State.conclude (s : State) (line : Nat) : Nat → State
  | 0 => s
  | n + 1 => match s.progress line with
    | some t => t.conclude line n
    | none => s

/-- Steps that a bulk access gives the transactions of its line. -/
def bulkSteps : Nat := 256

/-- Whether an agent's copy is the line's only current one. -/
def LineState.owns : LineState → Bool
  | .M | .O | .OMA | .MIA | .OIA => true
  | _ => false

/-- Whether a message carries a line's dirty data: PutM, PutO, Data, RecallData. -/
def Msg.carries (m : Msg) : Bool := m.kind = 6 || m.kind = 7 || m.kind = 15 || m.kind = 17

/-- A line's current bytes: the owner's copy, else data on its way from an owner, else memory; for a resident store
line the slice. -/
def State.lineNow (s : State) (line : Nat) : Nat :=
  if rsLine line then leNat (Mem.bytes s.rstore (128 * line) 128)
  else
    let held := s.agents.findSome? (fun p => match p.2.lines.look line with
      | some l => if l.st.owns || (l.got && l.dirtyBit) then some l.data else none
      | none => none)
    match held with
    | some d => d
    | none =>
      match s.net.find? (fun m => m.line = line && m.carries) with
      | some m => m.data
      | none => s.memLine line

/-- A bulk access to a line of agent `a` (31: the host port) that reads it, for core `core`'s engine or none: in place where
the agent may read it, else by RdS where `alloc`, by RdCur else. The line with its accepted stores laid over it. -/
def State.readLine (s : State) (a : Nat) (core : Option Nat) (alloc : Bool) (line : Nat) : State × Nat :=
  let seen (s : State) : State × Nat :=
    (s, if a = 31 then s.lineNow line else (s.agent a).view core line (s.lineNow line))
  if rsLine line || (s.homeOf line).isNone then seen s
  else
    let g := s.agent a
    match g.lines.look line with
    | some l => if l.st.readable then seen (s.countCch a Reg.cchHit 1) else seen (s.conclude line bulkSteps)
    | none =>
      if alloc then seen (((s.setLine a line (CLine.request .ISD false)).ask a 0 line []).conclude line bulkSteps)
      else if a ≠ 31 && g.ncReads.any (fun r => r.line = line) then seen (s.conclude line bulkSteps)
      else
        let s := if a = 31 then s else s.setAgent a { g with ncReads := g.ncReads ++ [{ line := line }] }
        seen ((s.ask a 4 line []).conclude line bulkSteps)

/-- Bytes performed while a transaction stays open on the line: in every copy, in memory and in the data under way, so
that the write counts as performed before or after the transaction (DESIGN CHOICE, log 23). -/
def State.patchLine (s : State) (line : Nat) (bytes : List (Nat × Byte)) : State :=
  let agents := s.agents.map (fun p => (p.1, { p.2 with lines := p.2.lines.map (fun l =>
    if l.1 = line then (l.1, { l.2 with data := setBytes l.2.data bytes }) else l) }))
  let net := s.net.map (fun m => if m.line = line then { m with data := setBytes m.data bytes } else m)
  { s with agents := agents, net := net, dram := putBytes s.dram line bytes }.breakResv none line none

/-- The WrNCs of an agent under way for a line write nothing any more. -/
def State.voidNc (s : State) (a line : Nat) : State :=
  let req (r : HReq) : HReq := if r.kind = 5 && r.req = a && r.line = line then { r with bytes := [] } else r
  let net := s.net.map (fun m => if m.kind = 5 && m.src = a && m.line = line then { m with bytes := [] } else m)
  let entry (e : DirEntry) : DirEntry := { e with txn := e.txn.map (fun t => { t with request := req t.request }) }
  let dirs := s.dirs.map (fun p =>
    (p.1, { p.2 with waiting := p.2.waiting.map req, entries := p.2.entries.map (fun e => (e.1, entry e.2)) }))
  { s with net := net, dirs := dirs }

/-- Perform at once what an agent has accepted for a line, in order. -/
def State.force (s : State) (a line : Nat) : State :=
  let mine := (s.agent a).accepted.filter (fun x => x.line = line)
  let s := mine.foldl (fun s x => if rsLine line then s.slicePut line x.writes else s.patchLine line x.writes) s
  let g := s.agent a
  let left := (g.accepted.filter (fun x => x.line ≠ line || x.sent)).map (fun x => if x.line = line then { x with bytes := [] } else x)
  (s.setAgent a { g with accepted := left }).voidNc a line

/-- A bulk write of bytes of a line through agent `a`'s cache, behind the stores it has accepted for the line: in place where
the agent holds the line, with ownership; else by RdX, or by WrNC where `nc`. By the host port always WrNC. It has been
performed when this is done. -/
def State.writeLine (s : State) (a : Nat) (nc : Bool) (line : Nat) (bytes : List (Nat × Byte)) : State :=
  if a = 31 then
    if rsLine line then s.slicePut line bytes
    else if (s.homeOf line).isNone then s.patchLine line bytes
    else
      let s := (s.ask 31 5 line bytes).conclude line bulkSteps
      let mine (r : HReq) : Bool := r.kind = 5 && r.req = 31 && r.line = line
      if s.net.any (fun m => m.kind = 5 && m.src = 31 && m.line = line) ||
          s.dirs.any (fun p => p.2.waiting.any mine || p.2.entries.any (fun e => match e.2.txn with | some t => mine t.request | none => false))
      then (s.patchLine line bytes).voidNc 31 line
      else s
  else
    let s := s.accept a line bytes nc false none
    if !(s.agent a).accepted.any (fun x => x.line = line) then s
    else
      let s := if rsLine line then s else s.pump.conclude line bulkSteps
      if (s.agent a).accepted.any (fun x => x.line = line) then s.force a line else s

/-- Lines that `n` bytes from a physical address touch. -/
def linesOf (pa n : Nat) : List Nat := (List.range ((pa % 128 + n + 127) / 128)).map (fun i => pa / 128 + i)

/-- Read bytes at a physical address of LPDDR5X or resident store, line by line. -/
def State.physRead (s : State) (a : Nat) (core : Option Nat) (alloc : Bool) (pa n : Nat) : State × List Byte :=
  let r := (linesOf pa n).foldl (fun (r : State × List Byte) line =>
    let x := r.1.readLine a core alloc line
    (x.1, r.2 ++ leBytes 128 x.2)) (s, [])
  (r.1, (r.2.drop (pa % 128)).take n)

/-- Lines that a cache holds or a message names. -/
def State.heldLines (s : State) : List Nat := s.agents.flatMap (fun a => a.2.lines.map Prod.fst) ++ s.net.map (fun m => m.line)

/-- The current bytes of the lines of a condition go to memory. -/
def State.saveLines (s : State) (inside : Nat → Bool) : State :=
  (s.heldLines.filter inside).foldl (fun s line => s.setMemLine line (s.lineNow line)) s

/-- Write bytes at a physical address, one line at a time. -/
def State.physWrite (s : State) (a : Nat) (nc : Bool) (pa : Nat) (bytes : List Byte) : State :=
  (linesOf pa bytes.length).foldl (fun s line =>
    let part := (bytesAt 0 bytes).filterMap (fun b =>
      let x := pa + b.1
      if x / 128 = line then some (x % 128, b.2) else none)
    s.writeLine a nc line part) s

/-- An entry of the page map is written with a single 16 B write of its bucket's line, which no cache keeps after it (R209,
R215). The model keeps the entries in `pmap.entries`, from which a walk takes them, and their bytes in the reserve beside
that (DESIGN CHOICE, log 82). -/
def State.mapStore (s : State) (p i e : Nat) : State :=
  (s.setMapEntry p i e).writeLine 31 true (s.mapFirst p * 4096 + i / 8) (bytesAt (16 * (i % 8)) (leBytes 16 e))

end Sys2Proof.Machine
end

