-- ==== Sys2Proof/Machine/LapCodes.lean ====
section
/-! DEFINITION. Lap commands: their fields, the tile-store regions they read and write, and the checks of lap load that
concern a command itself or the MMs of a lap together (04_laps.md: R77 to R85, R89, R90; 05: R101, R104, R111). A
command is its 256-bit word as a number. -/

namespace Sys2Proof.Machine

/-! ### Fields (R79 to R82) -/

/-- Opcode and tag. -/
def cOp (w : Nat) : Nat := fld w 0 8
def cTag (w : Nat) : Nat := fld w 8 16

/-- The fields of an MM (R80). -/
structure MMCmd where
  dir : Bool
  acc : Bool
  init : Bool
  conf : Bool
  tiles : Nat
  fmtS : Nat
  fmtM : Nat
  fmtO : Nat
  bmS : Nat
  bmM : Nat
  bmO : Nat
  rnd : Nat
  kindS : Nat
  kindM : Nat
  kindO : Nat
  it : Nat
  regS : Nat
  sclS : Nat
  regM : Nat
  sclM : Nat
  regO : Nat
  sclO : Nat
  regI : Nat
  slot : Nat
  csS : Nat
  csM : Nat
  csO : Nat

/-- The MM a word encodes. -/
def mmOf (w : Nat) : MMCmd :=
  { dir := bitOf w 24, acc := bitOf w 25, init := bitOf w 26, conf := bitOf w 27, tiles := fld w 28 4 + 1,
    fmtS := fld w 32 4, fmtM := fld w 36 4, fmtO := fld w 40 4, bmS := fld w 44 2, bmM := fld w 46 2, bmO := fld w 48 2,
    rnd := fld w 50 2, kindS := fld w 52 3, kindM := fld w 55 3, kindO := fld w 58 3, it := fld w 61 1,
    regS := fld w 64 13, sclS := fld w 80 13, regM := fld w 96 13, sclM := fld w 112 13, regO := fld w 128 13,
    sclO := fld w 144 13, regI := fld w 160 13, slot := fld w 176 8, csS := fld w 192 18, csM := fld w 210 18,
    csO := fld w 228 18 }

/-- The format of a code that lap load has let pass. -/
def fmtD (code : Nat) : Fmt := (fmtOfCode code).getD .fp32

/-- The block mode in force of an operand or output by kind, field and format (R35, R101). -/
def blkInForce (kind bm : Nat) (f : Fmt) : Blk :=
  if kind = 0 then (blkOfCode bm).getD .none
  else if 8 < fmtWidth f then .none
  else match kind with
    | 1 | 3 | 5 => .b16
    | 2 => .b32
    | _ => .none

def MMCmd.fS (x : MMCmd) : Fmt := fmtD x.fmtS
def MMCmd.fM (x : MMCmd) : Fmt := fmtD x.fmtM
def MMCmd.fO (x : MMCmd) : Fmt := fmtD x.fmtO
def MMCmd.bS (x : MMCmd) : Blk := blkInForce x.kindS x.bmS x.fS
def MMCmd.bM (x : MMCmd) : Blk := blkInForce x.kindM x.bmM x.fM
/-- Block mode of the output; an accumulator-form tile has none. -/
def MMCmd.bO (x : MMCmd) : Blk := if x.acc then .none else blkInForce x.kindO x.bmO x.fO

/-- Integer class: both formats integer and both block modes NONE (R52). -/
def MMCmd.isInt (x : MMCmd) : Bool := fmtIsInt x.fS && fmtIsInt x.fM && x.bS = .none && x.bM = .none

/-- The rounding mode in force: mode 0 is the kind's default (R42, R101). -/
def MMCmd.mode (x : MMCmd) : Nat := if x.rnd = 0 then (if x.kindO = 3 || x.kindO = 4 then 3 else 1) else x.rnd

/-- The first row of R53 that applies, from 0. -/
def MMCmd.rateRow (x : MMCmd) : Nat :=
  let s := fmtWidth x.fS
  let m := fmtWidth x.fM
  if s = 32 || m = 32 then 0
  else if x.fS = .t2 && (x.fM = .int8 || x.fM = .int4 || x.fM = .t2) then 1
  else if 8 ≤ s || 8 ≤ m then 2
  else if x.fS ≠ .t2 && x.fM ≠ .t2 then 3
  else 4

/-- The stream length S of R53, sixteen times as long in conformance mode (R115). -/
def MMCmd.stream (x : MMCmd) : Nat :=
  nth 32 [256, 16, 64] x.rateRow * x.tiles * (if x.conf then 16 else 1)

/-! ### Regions (R83 to R85): runs of granules as first and count -/

/-- Granules of a tile of a format and of its scale run (R83). -/
def tileGran (f : Fmt) : Nat := 4 * fmtWidth f
def runGran : Blk → Nat
  | .none => 0 | .b16 => 2 | .b32 => 1

/-- The granule of a coarse-scale word (R84). -/
def wordGran (cs : Nat) : Nat × Nat := (cs / 32, 1)

/-- The regions an MM reads that R56 and R57 speak of, but the initial accumulator. -/
def MMCmd.operands (x : MMCmd) : List (Nat × Nat) :=
  [(x.regS, tileGran x.fS), (x.sclS, runGran x.bS), (x.regM, x.tiles * tileGran x.fM), (x.sclM, x.tiles * runGran x.bM)]
def MMCmd.accRegion (x : MMCmd) : List (Nat × Nat) := if x.init then [(x.regI, x.tiles * 128)] else []

/-- The output region, and the output scale runs. -/
def MMCmd.outRegion (x : MMCmd) : Nat × Nat := (x.regO, x.tiles * (if x.acc then 128 else tileGran x.fO))
def MMCmd.outputs (x : MMCmd) : List (Nat × Nat) := [x.outRegion, (x.sclO, x.tiles * runGran x.bO)]

/-- Read and write sets for R85, with the granules of the coarse-scale words (R84, R104). -/
def MMCmd.reads (x : MMCmd) : List (Nat × Nat) :=
  x.operands ++ x.accRegion ++ [wordGran x.csS, wordGran x.csM] ++ (if x.acc then [] else [wordGran x.csO])
def MMCmd.writes (x : MMCmd) : List (Nat × Nat) := x.outputs ++ (if x.kindO = 0 then [] else [wordGran x.csO])

/-- Bytes of the tile store an MM reads and writes. -/
def MMCmd.tileBytes (x : MMCmd) : Nat := 128 * ((x.reads ++ x.writes).map Prod.snd).sum

/-- The tile-store regions of a LOAD or STORE. -/
def feedRegions (w : Nat) : List (Nat × Nat) :=
  if bitOf w 24 then [(fld w 64 13, fld w 96 8 + 1)]
  else
    let n := fld w 28 4 + 1
    [(fld w 64 13, n * tileGran (fmtD (fld w 32 4))), (fld w 80 13, n * runGran ((blkOfCode (fld w 36 2)).getD .none))]

/-- Read and write sets of a command. -/
def lapReads (w : Nat) : List (Nat × Nat) :=
  match cOp w with
  | 0x10 => (mmOf w).reads
  | 0x21 => feedRegions w
  | _ => []
def lapWrites (w : Nat) : List (Nat × Nat) :=
  match cOp w with
  | 0x10 => (mmOf w).writes
  | 0x20 => feedRegions w
  | 0x30 => [wordGran (fld w 64 18)]
  | _ => []

/-- Whether two sets of regions share a granule. -/
def shares (a b : List (Nat × Nat)) : Bool :=
  a.any (fun x => b.any (fun y => x.1 < y.1 + y.2 && y.1 < x.1 + x.2 && 0 < x.2 && 0 < y.2))

/-- Whether command `b` must wait for the earlier command `a` to complete (R85). -/
def conflicts (a b : Nat) : Bool :=
  shares (lapWrites a) (lapReads b ++ lapWrites b) || shares (lapReads a) (lapWrites b)

/-- Whether an MM's output overlaps a region it reads, other than an initial accumulator that is exactly its output
(R57). -/
def MMCmd.overlaps (x : MMCmd) : Bool :=
  let out := x.outputs
  shares out x.operands || (x.accRegion.any (fun r => r != x.outRegion && shares out [r])) ||
  (shares [(x.sclO, x.tiles * runGran x.bO)] x.accRegion)

/-! ### Checks of lap load (R77) -/

/-- The lowest offset of the failing fields listed. -/
def firstBad (l : List (Bool × Nat)) : Option Nat :=
  (l.filter (fun x => x.1)).foldl (fun m x => match m with
    | some o => some (min o x.2)
    | none => some x.2) none

/-- The fields of an opcode beyond opcode and tag, as low bit and width (R80, R82). -/
def cFields (op : Nat) : List (Nat × Nat) :=
  match op with
  | 0x10 => [(24, 38), (64, 13), (80, 13), (96, 13), (112, 13), (128, 13), (144, 13), (160, 13), (176, 8), (192, 54)]
  | 0x20 | 0x21 => [(24, 1), (28, 10), (64, 13), (80, 13), (96, 8)]
  | 0x30 => [(64, 18), (96, 32)]
  | 0x40 => [(64, 13)]
  | 0x41 => [(64, 13), (96, 16)]
  | 0x50 => [(24, 2), (64, 24)]
  | _ => []

/-- The lowest reserved bit that is set. -/
def reservedBit (w : Nat) : List (Bool × Nat) :=
  let rest := (cFields (cOp w)).foldl (fun v f => setFld v f.1 f.2 0) (w / 2 ^ 24 * 2 ^ 24)
  if rest = 0 then [] else ((List.range 256).find? (fun i => bitOf rest i)).toList.map (fun i => (true, i))

/-- Whether the opcode is one of R79. -/
def opcodeOk (w : Nat) : Bool := [0x01, 0x10, 0x20, 0x21, 0x30, 0x40, 0x41, 0x50].contains (cOp w)

/-- Whether a block mode field is illegal for a kind-X operand of a format code (R35). -/
def blkBad (bm code : Nat) : Bool := bm = 3 || (bm ≠ 0 && code ≤ 2)

/-- BAD_FORMAT (R29, R35, R40, R61, R82): the first failing field. -/
def badFormat (w : Nat) : Option Nat :=
  match cOp w with
  | 0x10 =>
    let x := mmOf w
    firstBad [(10 < x.fmtS, 32), (10 < x.fmtM, 36), (10 ≤ x.fmtO, 40),
      (blkBad x.bmS x.fmtS, 44), (blkBad x.bmM x.fmtM, 46), (x.bmO = 3 || (!x.acc && blkBad x.bmO x.fmtO), 48),
      (x.isInt && x.init && x.it = 0, 61)]
  | 0x20 | 0x21 =>
    if bitOf w 24 then none
    else firstBad [(10 < fld w 32 4, 32), (blkBad (fld w 36 2) (fld w 32 4), 36)]
  | _ => none

/-- BAD_FIELD (R80 to R82, R111): the first failing field. -/
def badField (w : Nat) : Option Nat :=
  let extra :=
    match cOp w with
    | 0x10 =>
      let x := mmOf w
      [(5 < x.kindS, 52), (5 < x.kindM, 55), (5 < x.kindO, 58),
       (x.kindS ≠ 0 && x.bmS ≠ 0, 44), (x.kindM ≠ 0 && x.bmM ≠ 0, 46), (x.kindO ≠ 0 && x.bmO ≠ 0, 48),
       (x.bS = .none && x.sclS ≠ 0, 80), (x.bM = .none && x.sclM ≠ 0, 112), (x.bO = .none && x.sclO ≠ 0, 144),
       (x.acc && x.fmtO ≠ 0, 40), (x.acc && x.bmO ≠ 0, 48), (x.acc && x.rnd ≠ 0, 50), (x.acc && x.csO ≠ 0, 228),
       (x.acc && x.kindO ≠ 0, 58), (!x.init && x.regI ≠ 0, 160), (!x.init && x.it ≠ 0, 61),
       (x.conf && 5 < x.fmtS, 32), (x.conf && 5 < x.fmtM, 36), (x.conf && 5 < x.fmtO, 40),
       (x.conf && x.bS ≠ .none, 44), (x.conf && x.bM ≠ .none, 46), (x.conf && x.bO ≠ .none, 48),
       (x.conf && x.kindS ≠ 0, 52), (x.conf && x.kindM ≠ 0, 55), (x.conf && x.kindO ≠ 0, 58), (x.conf && x.rnd = 3, 50)]
    | 0x20 | 0x21 =>
      if bitOf w 24 then
        [(fld w 28 4 ≠ 0, 28), (fld w 32 4 ≠ 0, 32), (fld w 36 2 ≠ 0, 36), (fld w 80 13 ≠ 0, 80)]
      else [(fld w 96 8 ≠ 0, 96), (fld w 36 2 = 0 && fld w 80 13 ≠ 0, 80)]
    | 0x41 => [(fld w 96 16 = 0, 96)]
    | 0x50 => [(fld w 24 2 = 3, 24), (255 < fld w 64 8 + fld w 72 8, 72), (fld w 24 2 ≠ 2 && fld w 80 8 ≠ 0, 80)]
    | _ => []
  firstBad (reservedBit w ++ extra)

/-- BAD_REGION (R83): the first region field whose run passes granule 8,191. -/
def badRegion (w : Nat) : Option Nat :=
  let past (r : Nat × Nat) : Bool := 8192 < r.1 + r.2
  match cOp w with
  | 0x10 =>
    let x := mmOf w
    firstBad [(past (x.regS, tileGran x.fS), 64), (past (x.sclS, runGran x.bS), 80),
      (past (x.regM, x.tiles * tileGran x.fM), 96), (past (x.sclM, x.tiles * runGran x.bM), 112),
      (past x.outRegion, 128), (past (x.sclO, x.tiles * runGran x.bO), 144), (x.accRegion.any past, 160)]
  | 0x20 | 0x21 =>
    let l := feedRegions w
    firstBad [(past (nth (0, 0) l 0), 64), (past (nth (0, 0) l 1), 80)]
  | _ => none

/-- Whether the command needs a unit the module lacks (R7, R77): T2 is bit 2, CU bit 1 of OPTIONAL_UNITS. -/
def absentUnit (units w : Nat) : Bool :=
  cOp w = 0x10 &&
  let x := mmOf w
  ((x.fmtS = 10 || x.fmtM = 10) && !bitOf units 2) || (x.conf && !bitOf units 1)

/-- A failed check: its place in the table of R77, the command, the offset of the failing field. -/
structure LapBad where
  rank : Nat
  index : Nat
  ofs : Nat
  deriving DecidableEq, Repr

/-- The first check a command fails by itself. -/
def cmdBad (units i w : Nat) : Option LapBad :=
  if !opcodeOk w then some ⟨2, i, 0⟩
  else match badFormat w with
    | some o => some ⟨3, i, o⟩
    | none => match badField w with
      | some o => some ⟨4, i, o⟩
      | none => match badRegion w with
        | some o => some ⟨5, i, o⟩
        | none => if absentUnit units w then some ⟨6, i, 0⟩ else none

/-- The MMs of a lap, with their indices. -/
def lapMMs (ws : List Nat) : List (Nat × MMCmd) :=
  (ws.zipIdx.filter (fun p => cOp p.1 = 0x10)).map (fun p => (p.2, mmOf p.1))

/-- The commands that break R104: on a slot that an MM of kind W, A or K names, an accumulator-form MM, or one whose
CS_O word lies in another granule than the first converted-form MM's. -/
def slotBad (l : List (Nat × MMCmd)) : List LapBad :=
  l.filterMap (fun p =>
    let mine := l.filter (fun q => q.2.slot = p.2.slot)
    if mine.any (fun q => q.2.kindO = 1 || q.2.kindO = 2 || q.2.kindO = 5) then
      if p.2.acc then some ⟨4, p.1, 25⟩
      else match mine.find? (fun q => !q.2.acc) with
        | some q => if q.2.csO / 32 ≠ p.2.csO / 32 then some ⟨4, p.1, 228⟩ else none
        | none => none
    else none)

/-- Whether one failure comes before another: table order, then the lowest index, then the first field (R77). -/
def LapBad.before (a b : LapBad) : Bool :=
  a.rank < b.rank || (a.rank = b.rank && (a.index < b.index || (a.index = b.index && a.ofs < b.ofs)))

/-- The failure that sets the status of a lap load, among the checks on its commands. -/
def lapBad (units : Nat) (ws : List Nat) : Option LapBad :=
  let all := ws.zipIdx.filterMap (fun p => cmdBad units p.2 p.1) ++ slotBad (lapMMs ws)
  all.foldl (fun m b => match m with
    | some a => if b.before a then some b else some a
    | none => some b) none

/-- Whether a command as fetched for execution fails a check again: its own, and R104 with the other MMs of the lap as
lap load read them (R78). -/
def changedBad (units : Nat) (ws : List Nat) (i w : Nat) : Bool :=
  (cmdBad units i w).isSome || (cOp w = 0x10 && !(slotBad (lapMMs (setNth ws i w))).isEmpty)

/-! ### Descriptors (R89, R90) -/

/-- Whether a descriptor is malformed (R89). -/
def descBad (d : Nat) : Bool :=
  fld d 52 12 ≠ 0 || fld d 96 16 ≠ 0 || fld d 48 4 = 0 || 3 < fld d 48 4 || fld d 0 48 % 16 ≠ 0 ||
  fld d 64 32 % 16 ≠ 0 || (fld d 48 4 ≠ 1 && fld d 64 32 ≠ 0)

/-- The USE codes of the descriptors a command consumes, in order (R90). -/
def descUses (w : Nat) : List Nat :=
  match cOp w with
  | 0x20 | 0x21 =>
    if bitOf w 24 then [3]
    else (List.range (fld w 28 4 + 1)).flatMap (fun _ => if fld w 36 2 = 0 then [1] else [1, 2])
  | 0x50 => if fld w 24 2 = 0 then [3] else []
  | _ => []

/-- A run of bytes that a feeder command moves: device-virtual address, tile-store (or health) byte address, length. -/
structure Piece where
  va : Nat
  ts : Nat
  len : Nat
  /-- DTAG of its descriptor. -/
  dtag : Nat
  deriving DecidableEq, Repr

/-- The pieces of tile `i`'s data descriptor and of its scale-run descriptor (R90). -/
def dataPieces (w i d : Nat) : List Piece :=
  let f := fmtD (fld w 32 4)
  let pitch := if fld d 64 32 = 0 then rowBytes f else fld d 64 32
  (List.range 64).map (fun r =>
    ⟨fld d 0 48 + r * pitch, 128 * (fld w 64 13 + i * tileGran f) + r * rowBytes f, rowBytes f, fld d 112 16⟩)
def scalePiece (w i d : Nat) : Piece :=
  let g := runGran ((blkOfCode (fld w 36 2)).getD .none)
  ⟨fld d 0 48, 128 * (fld w 80 13 + i * g), 128 * g, fld d 112 16⟩

/-- The pieces a command moves, in transfer order. -/
def feedPieces (w : Nat) (ds : List Nat) : List Piece :=
  if cOp w = 0x50 then ds.map (fun d => ⟨fld d 0 48, 128 * fld w 64 8, 128 * (fld w 72 8 + 1), fld d 112 16⟩)
  else if bitOf w 24 then ds.map (fun d => ⟨fld d 0 48, 128 * fld w 64 13, 128 * (fld w 96 8 + 1), fld d 112 16⟩)
  else if fld w 36 2 = 0 then ds.zipIdx.flatMap (fun d => dataPieces w d.2 d.1)
  else ds.zipIdx.flatMap (fun d => if d.2 % 2 = 0 then dataPieces w (d.2 / 2) d.1 else [scalePiece w (d.2 / 2) d.1])

end Sys2Proof.Machine
end

