-- ==== Sys2Proof/Machine/Stops.lean ====
section
/-! DEFINITION. How laps and kernels stop: store queue drains (R154, R162, R163), the stop of a lap (R71, R96) and of a
kernel (R151), with their fault records (R393). -/

namespace Sys2Proof.Machine

/-! ### Store queues (R162, R175) -/

/-- One lane's store leaves a SIMT store queue for the place its region gives it (R154, R175). -/
def State.laneLeave (s : State) (c : Nat) (zero : Bool) (x : SqLane) : State :=
  let line := x.pa / 128
  let bytes := bytesAt (x.pa % 128) x.bytes
  let k := s.core c
  let hit := (k.l1.look line).isSome
  if zero then (s.setCore c (k.l1Drop line)).accept (c / 8) line [] false true none
  else if x.attr = Attr.wb || (x.attr = Attr.wa && hit) then (s.l1Alloc c line false).l1Put c line bytes true
  else if x.attr = Attr.wt then (s.l1Put c line bytes false).accept (c / 8) line bytes false false none
  else s.accept (c / 8) line bytes true false none

/-- An entry leaves a pack's store queue, its lanes in ascending order (R129, R159). -/
def State.entryLeave (s : State) (c : Nat) (e : SqEntry) : State := e.lanes.foldl (fun s x => s.laneLeave c e.zero x) s

/-- Drain a pack's store queue in order (R163). -/
def State.drainPack (s : State) (c slot : Nat) : State :=
  match s.pack c slot with
  | none => s
  | some p =>
    if p.sq.isEmpty then s else
    let s := s.setPack c slot { p with sq := [] }
    (p.sq.foldl (fun s e => s.entryLeave c e) s).pump

/-- A coach store reaches the coach data cache, which needs the line with ownership; the core's L1 gives up what it covers, and
all of a line it zeroes (R155, R161, R177, R179). A store to a UC page goes to the cluster cache alone. -/
def State.coachLeave (s : State) (c : Nat) (e : SqEntry) : State :=
  e.lanes.foldl (fun s x =>
    let line := x.pa / 128
    if e.zero then (s.setCore c ((s.core c).l1Drop line)).accept (c / 8) line [] false true (some c)
    else
      let bytes := bytesAt (x.pa % 128) x.bytes
      (s.l1Inval c line (bytes.map Prod.fst)).accept (c / 8) line bytes (x.attr = Attr.uc) false (some c)) s

/-- Drain a coach core's store queue in order. -/
def State.drainCoach (s : State) (c : Nat) : State :=
  let k := (s.core c).coach
  if k.sq.isEmpty then s else
  let s := s.setCoach c { k with sq := [] }
  (k.sq.foldl (fun s e => s.coachLeave c e) s).pump

/-! ### Laps (R71, R96) -/

/-- The tile-store bytes of regions that are left not resident: their earlier contents are lost, they read as free
values (R66, R92, R96). -/
def State.lose (s : State) (c : Nat) (regions : List (Nat × Nat)) : State :=
  let n := (regions.map (fun r => 128 * r.2)).sum
  let bytes := (regions.flatMap (fun r => (List.range (128 * r.2)).map (fun i => 128 * r.1 + i))).zipIdx
  let k := s.core c
  let tile := bytes.foldl (fun m a => Mem.setByte m a.1 (BitVec.ofNat 8 (Config.free (s.freeCtr + a.2)).toNat)) k.tile
  (s.setCore c { k with tile := tile }).useFree n

/-- Whether a lap command's opcode is STORE's, or HEALTH, whose STORE moves bytes out too (R79). -/
def isStore (op : Nat) : Bool := op = 0x21 || op = 0x50

/-- What a lap reports with a fault: the fields of the lap body of R393. -/
structure LapFault where
  status : Nat
  injected : Bool
  ltag : Nat
  cmdidx : Nat
  replay : Nat
  glint : Nat
  flagged : Nat
  check : Nat
  row : Nat
  tile : Nat
  discarded : Nat
  fieldofs : Nat
  dtag : Nat
  cause : Nat
  reason : Nat
  addr : Nat
  baton : Nat
  deriving DecidableEq, Repr

/-- A fault with every further field 0. -/
def LapFault.of (status ltag cmdidx replay : Nat) : LapFault :=
  { status := status, injected := false, ltag := ltag, cmdidx := cmdidx, replay := replay, glint := 0, flagged := 0,
    check := 0, row := 0, tile := 0, discarded := 0, fieldofs := 0, dtag := 0, cause := 0, reason := 0, addr := 0,
    baton := 0 }

/-- The per-command record of a lap; core 0xFF for a fault at lap load (R393). -/
def lapRecord (l : Launch) (core : Nat) (f : LapFault) : FaultRec :=
  { kind := 1, status := f.status, source := 1, part := l.part, ptag := l.ptag, queue := l.q, ctx := l.ctx,
    body := [(24, 1, core), (25, 1, bit f.injected), (26, 2, f.ltag), (28, 2, f.cmdidx % 4096), (30, 2, f.replay),
             (32, 4, f.glint), (36, 2, f.flagged), (38, 1, f.check % 4), (39, 1, f.row % 64), (40, 2, f.tile),
             (42, 1, f.discarded), (43, 1, f.fieldofs), (44, 2, f.dtag), (46, 1, f.cause), (47, 1, f.reason % 16),
             (48, 8, f.addr % 2 ^ 48), (56, 2, f.baton % 8192)] }

/-- The launch a number names. -/
def State.launch (s : State) (i : Nat) : Option Launch := s.launches.look i
def State.setLaunch (s : State) (i : Nat) (l : Launch) : State := { s with launches := Tab.put s.launches i l }

/-! ### Who waits and who signals (R399, R400) -/

/-- The unit that waits or signals, as a trace record names it, and the buffer that takes the record. -/
structure Actor where
  buffer : Nat
  agent : Nat
  unit : Nat
  part : Nat
  ptag : Nat
  queue : Nat
  ltag : Nat
  cmdidx : Nat
  replay : Nat
  dtag : Nat
  deriving DecidableEq, Repr

/-- The trace record of an event of a unit. -/
def Actor.event (a : Actor) (event object value : Nat) : TraceRec :=
  { TraceRec.mk0 event a.agent a.unit a.part object value with
    ptag := a.ptag, queue := a.queue, ltag := a.ltag, cmdidx := a.cmdidx, replay := a.replay, dtag := a.dtag }

/-- A wait record: how long, how it ended, and the event that released it. -/
def Actor.waited (a : Actor) (event object value waited rflags : Nat) (rel : Option Actor) : TraceRec :=
  match rel with
  | some r => { a.event event object value with waited := waited, rflags := rflags, ragent := r.agent, runit := r.unit,
                                                rptag := r.ptag }
  | none => { a.event event object value with waited := waited, rflags := rflags }

/-- The command of a lap with an ordinal: as fetched for execution where it has been dispatched, else as lap load read
it (R78). -/
def LapRun.cmd (l : LapRun) (ord : Nat) : Nat :=
  match l.win.look ord with
  | some w => w.toNat
  | none => (nth 0 l.cmds (ord % max l.cmds.length 1)).toNat

/-- An engine of a core acting for a launch. -/
def State.coreActor (s : State) (c agent : Nat) (i : Nat) : Actor :=
  let a : Actor := { buffer := c / 8, agent := agent, unit := c, part := (s.partOfCore c).getD 0, ptag := 0, queue := 0,
                     ltag := 0, cmdidx := 0, replay := 0, dtag := 0 }
  match s.launch i with
  | some l => { a with part := l.part, ptag := l.ptag, queue := l.q }
  | none => a

/-- DTAG of the descriptor at the head of the address stream. -/
def Core.headDtag (k : Core) : Nat :=
  match k.stream with
  | .desc d :: _ => fld d.toNat 112 16
  | _ => 0

/-- The lap front end of a core at the command with an ordinal. -/
def State.lapActor (s : State) (c ord : Nat) : Actor :=
  match (s.core c).lap with
  | some l =>
    let n := max l.cmds.length 1
    { s.coreActor c 2 l.launch with ltag := cTag (l.cmd ord), cmdidx := ord % n, replay := ord / n % 2 ^ 16,
                                    dtag := (s.core c).headDtag }
  | none => s.coreActor c 2 0

/-- The coach core, in the run of its lap's address program. -/
def State.coachActor (s : State) (c : Nat) : Actor :=
  match (s.core c).lap with
  | some l => { s.coreActor c 1 l.launch with replay := l.returned % 2 ^ 16 }
  | none => s.coreActor c 1 0

/-- The SIMT engine of a core, for its kernel. -/
def State.simtActor (s : State) (c : Nat) : Actor := s.coreActor c 0 ((s.core c).kernel.getD 0)

/-- The unit of a waiter in place. -/
def State.waiterActor (s : State) (w : BWaiter) : Actor :=
  match w with
  | .lap c =>
    (match (s.core c).lap with
     | some l => s.lapActor c ((l.waiting.map Prod.fst).getD l.oldest)
     | none => s.lapActor c 0)
  | .pack c _ _ => s.simtActor c
  | .coach c => s.coachActor c

/-- Write the record of a baton wait that ended. -/
def State.endWait (s : State) (b : Nat) (w : BWaiter × Nat) (value rflags : Nat) (rel : Option Actor) : State :=
  let a := s.waiterActor w.1
  s.traceWait a.buffer (a.waited 0x01 b value (s.since w.2) rflags rel)

/-- Take waiters in place out of every baton's line, their waits ending without a release (R400). -/
def State.unwait (s : State) (rflags : Nat) (hit : BWaiter → Bool) : State :=
  s.batons.foldl (fun s p =>
    let gone := p.2.waiters.filter (fun w => hit w.1)
    if gone.isEmpty then s
    else
      let s := gone.foldl (fun s w => s.endWait p.1 w p.2.value rflags none) s
      s.setBaton p.1 { p.2 with waiters := p.2.waiters.filter (fun w => !hit w.1) }) s

/-- An access whose thread is gone completes without a result: its waiter becomes a slot no core has. -/
def State.orphan (s : State) (hit : Waiter → Bool) : State :=
  let far (w : Waiter) : Waiter := if hit w then .lane w.core 64 0 else w
  let agents := s.agents.map (fun p => (p.1,
    { p.2 with loads := p.2.loads.map (fun l => { l with who := far l.who }),
               atoms := p.2.atoms.map (fun a => { a with who := far a.who }) }))
  let reads := s.pcie.reads.map (fun p => (p.1,
    { p.2 with who := p.2.who.bind (fun w => if hit w then none else some w) }))
  { s with agents := agents, pcie := { s.pcie with reads := reads } }

/-- Feeder commands begun that move bytes in, and those that move bytes out. -/
def LapRun.loads (l : LapRun) : List FeedRun := l.feeding.filter (fun f => !isStore (cOp (l.cmd f.ord)))
def LapRun.stores (l : LapRun) : List FeedRun := l.feeding.filter (fun f => isStore (cOp (l.cmd f.ord)))

/-- Whether an injected error makes a check of a command mismatch (R72). -/
def MMRun.injected (m : MMRun) : Bool :=
  m.flip || m.inj.any (fun i => match m.checks[i.1]? with | some r => bitOf r.finds i.2 | none => false)

/-! ### Counters of cycles -/

/-- The counters of a core's lap that may be counting cycles: those of an MM, a feeder command, dispatch or a paced
command that waits (R58, R94, R100). -/
def Core.lapCounting (k : Core) (c : Nat) : List Nat :=
  match k.lap with
  | none => []
  | some l =>
    let open' (ord : Nat) : Bool := l.oldest ≤ ord && !l.completed.contains ord
    let has (f : Nat → Nat → Bool) : Bool := l.win.any (fun p => open' p.1 && f p.1 p.2.toNat)
    let mm := has (fun ord w => cOp w = 0x10 && !k.array.issued.any (fun m => m.ord = ord))
    let feed := has (fun ord w => (cOp w = 0x20 || cOp w = 0x21 || cOp w = 0x50) && !l.feeding.any (fun f => f.ord = ord))
    let list := l.next < l.replays * l.cmds.length && (l.cache.look (l.next % max l.cmds.length 1)).isNone
    (if mm then [Reg.mtxIssueWait c, Reg.mtxOutWait c] else []) ++ (if feed then [Reg.mtxDescWait c] else []) ++
      (if list then [Reg.mtxListWait c] else []) ++ (if l.ready.isSome && l.go.isNone then [Reg.mtxHskWait c] else [])

/-- The counters of a core's packs that count cycles now: of hurdles and of fences (R153, R170). -/
def Core.packCounting (k : Core) (c : Nat) : List Nat :=
  let waits (f : Wait → Bool) : Bool := k.packs.any (fun p => p.2.threads.any (fun t => !t.exited && f t.wait))
  (if waits (fun w => match w with | .hurdle _ _ => true | _ => false) then [Reg.dbgSimtHwait c] else []) ++
    (if waits (fun w => match w with | .fence _ _ => true | _ => false) then [Reg.dbgFenceWait c] else [])

/-- Counters of cycles of a core whose condition holds now (R58, R95, R153, R170). -/
def Core.counting (k : Core) (c : Nat) : List Nat := k.lapCounting c ++ k.packCounting c

/-- The feeder side of a stop on one core: the address program ends, the stream empties, a LOAD in progress is
abandoned, a STORE in progress completes later (R96). -/
def State.feedStop (s : State) (c : Nat) : State :=
  let s := (s.accrue ((s.core c).lapCounting c)).drainCoach c
  let s := s.unwait 3 (fun w => w = .lap c || w = .coach c)
  let s := s.orphan (fun w => w = .coach c)
  let k := s.core c
  let gone := match k.lap with
    | some l => l.loads.map (fun (f : FeedRun) => l.cmd f.ord)
    | none => []
  let lap := k.lap.map (fun l => { l with waiting := none, ready := none, go := none, feeding := l.stores })
  let s := s.setCore c { k with coach := { k.coach with running := false, loops := [], wait := .none, awaits := [] },
                                stream := [], lap := lap }
  gone.foldl (fun s w => s.lose c (lapWrites w)) s

/-- A lap stops on core `c` by the event of the command with ordinal `ord`: commands issued after it do not retire; no
further command issues on the launch's cores; the first stopping status in device time is the launch's (R71). A later
event of an earlier command takes the place of this core's stop; an event behind the stop changes nothing. The first
stop of the launch in device time gives its status and its record (R393). -/
def State.lapStop (s : State) (c ord : Nat) (f : LapFault) (report : Bool) : State :=
  match (s.core c).lap with
  | none => s
  | some lap =>
    match s.launch lap.launch with
    | none => s
    | some l =>
      if lap.stop ≠ 0 && lap.stopOrd ≤ ord then s
      else
        let stops := l.stops.filter (fun x => x.1 ≠ c) ++ [(c, f.status)]
        let first := (stops.headD (0, 0)).1 = c
        let s := if report && first then s.faultRec (lapRecord l c f) else s
        let k := s.core c
        let dropped := (k.array.issued.filter (fun m => ord < m.ord)).map MMRun.injected
        let array := { k.array with issued := k.array.issued.filter (fun m => m.ord ≤ ord), stopped := true,
                                    behind := k.array.behind ++ dropped }
        let s := s.setCore c { k with lap := some { lap with stop := f.status, stopOrd := ord }, array := array }
        let s := s.setLaunch lap.launch { l with stops := stops, status := (stops.headD (0, 0)).2 }
        l.place.foldl (fun s c => if ((s.core c).lap.map (fun x => x.launch)) = some lap.launch then s.feedStop c else s) s

/-- A coach core's reservation ends by an exception or its context's abort (R164). -/
def State.dropCoachResv (s : State) (c : Nat) : State :=
  if (s.core c).coach.resv.isSome then (s.setResv (.coach c) none).count (Reg.dbgRsvLost c) 1 else s

/-- An exception of the coach core in an address program stops the lap with ADDR_PROG; the record carries the coach
core's pc and the exception's status (R91, R144). -/
def State.coachFault (s : State) (c status reason : Nat) : State :=
  match (s.core c).lap with
  | none => s
  | some lap =>
    let k := (s.core c).coach
    let f := { LapFault.of Stat.addrProg 0 0 (lap.returned % 2 ^ 16) with cause := status, reason := reason, addr := k.pc }
    let s := s.dropCoachResv c
    s.lapStop c (lap.returned * lap.cmds.length) f true

/-! ### Kernels (R151) -/

/-- What a kernel reports with a fault: the kernel fields of R152. -/
structure KFault where
  status : Nat
  lane : Nat
  addr : Nat
  reason : Nat
  wait : Nat
  deriving DecidableEq, Repr

/-- The per-command record of a kernel (R152, R393). -/
def kernelRecord (l : Launch) (core pack team pc : Nat) (f : KFault) : FaultRec :=
  { kind := 1, status := f.status, source := 2, part := l.part, ptag := l.ptag, queue := l.q, ctx := l.ctx,
    body := [(24, 1, core), (25, 1, pack), (26, 1, f.lane), (27, 1, f.wait), (28, 4, team), (32, 8, pc),
             (40, 8, f.addr % 2 ^ 48), (48, 1, f.reason)] }

/-- Every team of a kernel on a core ends: its store queues drain, its waits and reservations go (R151, R163, R164). -/
def State.endTeams (s : State) (c : Nat) : State :=
  let s := s.accrue ((s.core c).packCounting c)
  let slots := (s.core c).packs.map Prod.fst
  let s := slots.foldl (fun s i => s.drainPack c i) s
  let s := s.unwait 3 (fun w => match w with | .pack k _ _ => k = c | _ => false)
  let s := s.orphan (fun w => match w with | .lane k _ _ => k = c | .coach _ => false)
  let held := ((s.core c).packs.map (fun p => (p.2.threads.filter (fun t => t.resv.isSome)).length)).sum
  let k := s.core c
  (s.setCore c { k with packs := [], teams := [], rsvLeft := [] }).count (Reg.dbgRsvLost c) (held + k.rsvLeft.length)

/-- The kernel of a launch ends with a status: every team on every core ends, no further team starts. -/
def State.endKernel (s : State) (i status : Nat) : State :=
  match s.launch i with
  | none => s
  | some l =>
    let cs := (s.cores.filter (fun p => p.2.kernel = some i)).map Prod.fst
    let s := cs.foldl (fun s c => s.endTeams c) s
    s.setLaunch i { l with status := if l.status = 0 then status else l.status, next := l.teams, ended := l.teams }

/-- A kernel faults: the pack's queue drains, the record is written, and the kernel ends with the fault's status; a
kernel that has already ended by fault reports no second one (R151, R163, R393). -/
def State.kernelFault (s : State) (c slot pc : Nat) (f : KFault) : State :=
  match (s.core c).kernel, s.pack c slot with
  | some i, some p =>
    (match s.launch i with
     | some l =>
       let s := s.drainPack c slot
       let s := if l.status = 0 then s.faultRec (kernelRecord l c p.pack p.team pc f) else s
       s.endKernel i f.status
     | none => s)
  | _, _ => s

end Sys2Proof.Machine
end

