-- ==== Sys2Proof/Machine/Operands.lean ====
section
/-! DEFINITION. Instruction words and their operands (R122 to R124, R128, R131, R136, R144, R146), the issue group of a
pack (R14), and how an instruction is issued on the SIMT engine and on a coach core. -/

namespace Sys2Proof.Machine

/-! ### Fields of a word -/

/-- Format R (R124). -/
structure RWord where
  d : Nat
  a : Nat
  b : Nat
  c : Nat
  imm : Nat
  isImm : Bool
  fmt : Nat
  rnd : Nat
  /-- Every reserved bit clear. -/
  clean : Bool
  deriving DecidableEq, Repr

/-- The fields of a word of format R. -/
def rword (w : BitVec 64) : RWord :=
  let n := w.toNat
  let i := bitOf n 31
  { d := fld n 8 8, a := fld n 16 8, b := fld n 32 8, c := fld n 40 8, imm := fld n 32 32, isImm := i,
    fmt := fld n 24 4, rnd := fld n 28 2, clean := !bitOf n 30 && (i || fld n 48 16 = 0) }

/-- IMM sign-extended to `n` bits (R124). -/
def RWord.immN (r : RWord) (n : Nat) : Nat := wrapInt n (sx 32 r.imm)

/-! ### Checks of vector register fields (R122) -/

/-- The rounded register count of a kernel (R17). -/
def roundedRegs (n : Nat) : Nat := min 256 ((n + 7) / 8 * 8)

/-- Whether a register field names an aligned group of `n` registers; 0xFF names none. -/
def alignedReg (r n : Nat) : Bool := r = 255 || r % n = 0

/-- Whether a group of registers lies below the rounded count and at or below v254, the highest a thread has (DEDUCED, log 20). -/
def regsBelow (count r n : Nat) : Bool := r = 255 || r + n ≤ min count 255

/-- The registers a field names. -/
def named (r n : Nat) : List Nat := if r = 255 then [] else (List.range n).map (r + ·)

/-- Whether a scalar field names a register of a pack or coach core, or zero (R144; DEDUCED, log 17 for kernels). -/
def scalarOk (r : Nat) : Bool := r < 64 || r = 255

/-! ### Issue groups (R14) -/

/-- Threads of a pack that may issue: neither exited nor waiting. -/
def Pack.live (p : Pack) : List (Nat × Thread) :=
  (p.threads.zipIdx.map (fun t => (t.2, t.1))).filter (fun t => !t.2.exited && t.2.wait = .none)

/-- The issue groups: program counter and lanes, by rising address. -/
def Pack.groups (p : Pack) : List (Nat × List Nat) :=
  let pcs := p.live.foldl (fun (m : Tab Unit) t => Tab.put m t.2.pc ()) []
  pcs.map (fun q => (q.1, (p.live.filter (fun t => t.2.pc = q.1)).map Prod.fst))

/-- Issue slots a group has waited: the longest of its threads' (DEDUCED, log 18). -/
def Pack.age (p : Pack) (lanes : List Nat) : Nat :=
  lanes.foldl (fun m l => max m (p.slots - (p.thread l).lastIssue)) 0

/-- The first group that a measure puts highest. -/
def best (f : List Nat → Nat) : List (Nat × List Nat) → Option (Nat × List Nat)
  | [] => none
  | g :: gs =>
    match best f gs with
    | none => some g
    | some h => if f g.2 < f h.2 then some h else some g

/-- The chosen group, and whether the age rule chose it. -/
def Pack.choose (p : Pack) : Option ((Nat × List Nat) × Bool) :=
  let gs := p.groups
  match best p.age (gs.filter (fun g => 256 ≤ p.age g.2)) with
  | some g => some (g, true)
  | none => (best List.length gs).map (fun g => (g, false))

/-! ### Issue on the SIMT engine -/

/-- The issuing group: core, slot, pack as it stands after the issue is counted, pc, lanes, launch. -/
structure Ctx where
  core : Nat
  slot : Nat
  pack : Pack
  pc : Nat
  lanes : List Nat
  lid : Nat
  l : Launch
  deriving DecidableEq, Repr

/-- What an instruction does: a new state, a fault of a lane, or nothing yet. -/
inductive Eff where
  | ok (s : State)
  | fault (f : KFault)
  | notReady
  /-- The group does not issue; the state before the issue goes on to this one. -/
  | wait (g : State → State)

/-- A fault without an address. -/
def kf (status lane : Nat) : Eff := .fault { status := status, lane := lane, addr := 0, reason := 0, wait := 0 }

/-- The lowest lane of the group, whose number a fault of the whole group carries (DESIGN CHOICE, log 19). -/
def Ctx.lane0 (x : Ctx) : Nat := x.lanes.headD 0

/-- The group's access request for a translation: the launch's context. -/
def Launch.xreq (l : Launch) (write devOk kOk : Bool) : XReq :=
  { ctx := some l.ctx, write := write, devOk := devOk, kOk := kOk }

/-- Check the fetch of an instruction at `pc` (R149): the status and reason of its fault. -/
def State.fetchFault (s : State) (l : Launch) (pc : Nat) : Option (Nat × Nat) :=
  match s.xlate l.part l.stamp (l.xreq false false true) pc with
  | .inl _ => none
  | .inr f => some f

/-- The pack counts an issue slot, in which the lanes issue (R14). -/
def Pack.issue (p : Pack) (lanes : List Nat) : Pack :=
  let p := { p with slots := p.slots + 1 }
  p.mapLanes lanes (fun _ th => { th with lastIssue := p.slots })

/-! ### The choice of a pack (R120) -/

/-- The meter index that work of a launch charges: its packet's (R288). -/
def State.workMeter (s : State) (l : Launch) : Nat :=
  match (s.queue l.q).packets.look l.n with
  | some p => p.meter
  | none => unrequested l.part

/-- Other packs of the slot's scheduler that are ready in this cycle. A pack without an issue group is not; whether the others
have their registers and their instruction is timing, a free bit each (DESIGN CHOICE, log 79). -/
def State.rivals (s : State) (core slot : Nat) : List (Nat × Pack) :=
  (s.core core).packs.filter (fun p => p.1 % 4 = slot % 4 && p.1 != slot && p.2.choose.isSome && bitOf (s.freeVal 64) p.1)

/-- Whether the scheduler issued in the previous cycle: the free bit of the slot itself (DESIGN CHOICE, log 79). -/
def State.backToBack (s : State) (slot : Nat) : Bool := bitOf (s.freeVal 64) slot

/-- Whether the slot's scheduler chooses it, a ready pack, among those ready. -/
def State.elects (s : State) (core slot : Nat) : Bool :=
  let o := (s.core core).issue
  let rest := s.rivals core slot
  let last := nth 64 o.last (slot % 4)
  let spent := 64 ≤ nth 0 o.run (slot % 4)
  let oldest := rest.all (fun r => Tab.get 0 o.at' slot < Tab.get 0 o.at' r.1 ||
    (Tab.get 0 o.at' slot = Tab.get 0 o.at' r.1 && slot < r.1))
  rest.isEmpty ||
    (if s.backToBack slot && !spent && (last = slot || rest.any (fun r => r.1 = last)) then last = slot else oldest)

/-- The order of issue once the slot's pack has issued, `rival`: with another pack of its scheduler ready. -/
def IssueOrder.next (o : IssueOrder) (slot : Nat) (rival again : Bool) : IssueOrder :=
  let h := slot % 4
  let run := if !rival then 0 else if again && nth 64 o.last h = slot then nth 0 o.run h + 1 else 1
  { o with count := o.count + 1, last := setNth o.last h slot, run := setNth o.run h run,
           at' := Tab.set 0 o.at' slot (o.count + 1) }

/-- Count the issue of a pack (R120, R153, R288). -/
def State.issue (s : State) (core slot : Nat) (p : Pack) (lanes : List Nat) (aged : Bool) (meter : Nat) : State :=
  let rival := !(s.rivals core slot).isEmpty
  let again := rival && s.backToBack slot
  let t := s.setPack core slot p
  let t := t.setCore core { t.core core with issue := (t.core core).issue.next slot rival again }
  let t := (t.count (Reg.dbgSimtIssued core) 1).count (Reg.dbgSimtLanes core) lanes.length
  let t := if aged then t.count (Reg.dbgSimtAged core) 1 else t
  ((t.tally meter Site.issues (core / 80) 1).tally meter Site.lanes (core / 80) lanes.length).useFree 1

/-- Issue one instruction of a pack (R14, R120, R121): nothing where its scheduler chooses another pack; else the chosen
group, its fetch, its awaited registers, the counters of R153, then its effect. The program counters are the effect's to
set. -/
def State.simt (s : State) (core slot : Nat) (regs : List Nat) (f : Ctx → State → Eff) : Res :=
  onUnit (core < s.nCores && slot < 64) <|
    match s.alive, (s.core core).kernel, s.pack core slot with
    | true, some i, some p =>
      (match s.launch i, p.choose with
       | some l, some (g, aged) =>
         let t := (s.tlbUse core l.part g.1)
         if !s.elects core slot then .next (s.useFree 1) else
         (match s.fetchFault l g.1 with
          | some (st, reason) =>
            .next ((t.countPf l.part).kernelFault core slot g.1
              { status := st, lane := g.2.headD 0, addr := g.1, reason := reason, wait := 0 })
          | none =>
            if g.2.any (fun lane => (p.thread lane).awaits.any (fun r => regs.contains r)) then .next s
            else
              let p := p.issue g.2
              let t := t.issue core slot p g.2 aged (s.workMeter l)
              (match f { core := core, slot := slot, pack := p, pc := g.1, lanes := g.2, lid := i, l := l } t with
               | .ok u => .next u
               | .fault k => .next (t.kernelFault core slot g.1 k)
               | .notReady => .next s
               | .wait g => .next (g s)))
       | _, _ => .next s)
    | _, _, _ => .next s

/-- Update the group's threads, each then going on at `pc + 8`. -/
def Ctx.finish (x : Ctx) (s : State) (f : Nat → Thread → Thread) : Eff :=
  match s.pack x.core x.slot with
  | some p => .ok (s.setPack x.core x.slot (p.mapLanes x.lanes (fun l t => { f l t with pc := x.pc + 8 })))
  | none => .notReady

/-- Update the pack's scalar registers and go on. -/
def Ctx.finishS (x : Ctx) (s : State) (f : Pack → Pack) : Eff :=
  match s.pack x.core x.slot with
  | some p => .ok (s.setPack x.core x.slot ((f p).mapLanes x.lanes (fun _ t => { t with pc := x.pc + 8 })))
  | none => .notReady

/-- The rounded register count of the issuing kernel. -/
def Ctx.count (x : Ctx) : Nat := roundedRegs x.l.regs

/-! ### The coach core (R144 to R148) -/

/-- What a coach instruction does. -/
inductive CEff where
  | ok (s : State)
  | fault (status reason : Nat)
  | notReady

/-- Completing the instruction at `stop` without a taken branch: the innermost levels that end there repeat or pop
(R147). -/
def loopEnd (stop : Nat) : List Loop → List Loop × Nat
  | [] => ([], stop + 8)
  | l :: ls =>
    if l.stop ≠ stop then (l :: ls, stop + 8)
    else if 0 < l.remaining then ({ l with remaining := l.remaining - 1 } :: ls, l.start)
    else loopEnd stop ls

/-- A taken branch pops every level whose body its target leaves, with the levels inside it (R148). -/
def loopBranch (target : Nat) (ls : List Loop) : List Loop :=
  (ls.reverse.takeWhile (fun l => l.start ≤ target && target ≤ l.stop)).reverse

/-- The fetch of a coach instruction: a copy of its line in the core's instruction cache, brought through the cluster cache where
that does not hold it; a UC page's instruction is not kept (R171, R175, R176, R179). -/
def State.coachFetch (s : State) (core : Nat) (l : Launch) (pc : Nat) : State :=
  match s.xlate l.part l.stamp (l.xreq false false true) pc with
  | .inr _ => s
  | .inl x =>
    let line := x.pa / 128
    if x.attr = Attr.uc then s
    else if (s.core core).icache.has line || rsLine line then s.coachPut core true line false
    else s.touch (core / 8) (.coach core) (.coach core true) line

/-- Execute one instruction of an address program: its fetch, awaited registers, then its effect. -/
def State.coachRun (s : State) (core : Nat) (regs : List Nat) (f : Launch → Coach → State → CEff) : Res :=
  onUnit (core < s.nCores) <|
    match s.alive, (s.core core).lap with
    | true, some lap =>
      let k := (s.core core).coach
      (match s.launch lap.launch with
       | some l =>
         if k.running && k.wait = .none then
           let t := ((s.tlbUse core l.part k.pc).coachFetch core l k.pc).tally (s.workMeter l) Site.coach (core / 80) 1
           (match s.fetchFault l k.pc with
            | some (st, reason) => .next ((t.countPf l.part).coachFault core st reason)
            | none =>
              if k.awaits.any (fun r => regs.contains r) then .next s
              else match f l k t with
                | .ok u => .next u
                | .fault st reason => .next (t.coachFault core st reason)
                | .notReady => .next s)
         else .next s
       | none => .next s)
    | _, _ => .next s

/-- The coach core goes on after the instruction at its pc. -/
def Coach.advance (k : Coach) : Coach :=
  let r := loopEnd k.pc k.loops
  { k with loops := r.1, pc := r.2 }

/-- A coach instruction that only updates registers. -/
def CEff.regs (s : State) (core : Nat) (k : Coach) : CEff := .ok (s.setCoach core k.advance)

/-- Every instruction the coach core does not execute faults with ILLEGAL (R144). -/
def State.coachIllegal (s : State) (core : Nat) : Res := s.coachRun core [] (fun _ _ _ => .fault Stat.illegal 0)

/-- Whether an access address is naturally aligned. -/
def alignedTo (a n : Nat) : Bool := a % n = 0

end Sys2Proof.Machine
end

