-- ==== Sys2Proof/Machine/Packets.lean ====
section
/-! DEFINITION. Fields of packets and queue descriptors, and when a packet's waits are met (10_starter.md: R225, R229,
R230, R237). -/

namespace Sys2Proof.Machine

/-! ### Header, sync block and payload (R229) -/

/-- Bytes `o` to `o + n - 1` of a packet, as a number. -/
def pAt (raw : BitVec 512) (o n : Nat) : Nat := fld raw.toNat (8 * o) (8 * n)

def pOpcode (raw : BitVec 512) : Nat := pAt raw 0 1
def pCr (raw : BitVec 512) : Bool := bitOf raw.toNat 8
def pIrq (raw : BitVec 512) : Bool := bitOf raw.toNat 9
def pConcur (raw : BitVec 512) : Bool := bitOf raw.toNat 10
def pFinally (raw : BitVec 512) : Bool := bitOf raw.toNat 11
def pTag (raw : BitVec 512) : Nat := pAt raw 4 4
def pDeadline (raw : BitVec 512) : Nat := pAt raw 8 8
def pFvalue (raw : BitVec 512) : Nat := pAt raw 16 8
def pFence (raw : BitVec 512) : Nat := fld raw.toNat 192 18
def pFv (raw : BitVec 512) : Bool := bitOf raw.toNat 223
def pBaton (raw : BitVec 512) : Nat := fld raw.toNat 224 13
def pBv (raw : BitVec 512) : Bool := bitOf raw.toNat 255

/-- An entry of WAIT_FENCE or SIGNAL_FENCE (R237, R238). -/
structure FenceEntry where
  value : Nat
  fence : Nat
  mode : Nat
  valid : Bool
  deriving DecidableEq, Repr

/-- The two fence entries of a payload. -/
def fenceEntries (raw : BitVec 512) : List FenceEntry :=
  [32, 48].map (fun o => { value := pAt raw o 8, fence := fld (pAt raw (o + 8) 4) 0 18,
                           mode := fld (pAt raw (o + 8) 4) 29 2, valid := bitOf (pAt raw (o + 8) 4) 31 })

/-- The batons of a WAIT_BATON payload. -/
def waitBatons (raw : BitVec 512) : List Nat :=
  (((List.range 8).map (fun i => pAt raw (32 + 4 * i) 4)).filter (fun e => bitOf e 31)).map (fun e => fld e 0 13)

/-- The valid batons of a SIGNAL_BATON payload, with their counts. -/
def signalBatons (raw : BitVec 512) : List (Nat × Nat) :=
  (((List.range 4).map (fun i => pAt raw (32 + 4 * i) 4)).filter (fun e => bitOf e 31)).map
    (fun e => (fld e 0 13, fld e 13 16))

/-- The fence waits of a packet: fence and value. -/
def fenceWaits (raw : BitVec 512) : List (Nat × Nat) :=
  (if pFv raw then [(pFence raw, pFvalue raw)] else []) ++
  (if pOpcode raw = 0x30 then ((fenceEntries raw).filter (fun e => e.valid)).map (fun e => (e.fence, e.value)) else [])

/-- The baton waits of a packet. -/
def batonWaits (raw : BitVec 512) : List Nat :=
  (if pBv raw then [pBaton raw] else []) ++ (if pOpcode raw = 0x32 then waitBatons raw else [])

/-! ### Queue descriptors (R225) -/

def Queue.ringBase (q : Queue) : Nat := pAt q.desc 0 8
def Queue.cqBase (q : Queue) : Nat := pAt q.desc 8 8
def Queue.ringLog (q : Queue) : Nat := pAt q.desc 16 1
def Queue.cqLog (q : Queue) : Nat := pAt q.desc 17 1
def Queue.prio (q : Queue) : Nat := fld (pAt q.desc 18 1) 0 2
def Queue.weight (q : Queue) : Nat := pAt q.desc 19 1
def Queue.context (q : Queue) : Nat := fld (pAt q.desc 20 2) 0 12
def Queue.vector (q : Queue) : Nat := fld (pAt q.desc 22 2) 0 11
def Queue.periodic (q : Queue) : Bool := bitOf (pAt q.desc 24 4) 0
def Queue.prec (q : Queue) : Bool := bitOf (pAt q.desc 24 4) 1
def Queue.waitLimit (q : Queue) : Nat := pAt q.desc 28 4
def Queue.periodNs (q : Queue) : Nat := pAt q.desc 32 4
def Queue.deadlineNs (q : Queue) : Nat := pAt q.desc 36 4
def Queue.start (q : Queue) : Nat := pAt q.desc 40 8

/-! ### When waits are met (R230, R272) -/

/-- Whether a fence wait is met: no error and the value reached. -/
def State.fenceMet (s : State) (w : Nat × Nat) : Bool :=
  let f := s.fence w.1
  f.st != 0 && f.value < 2 ^ 63 && w.2 ≤ f.value

/-- Whether every baton of the list can give one unit, each time it is named. -/
def State.batonsMet (s : State) (l : List Nat) : Bool :=
  l.all (fun b => (s.baton b).live && l.count b ≤ (s.baton b).value)

/-- Whether every wait of a packet is met. -/
def State.waitsMet (s : State) (raw : BitVec 512) : Bool :=
  (fenceWaits raw).all s.fenceMet && s.batonsMet (batonWaits raw)

/-- Note, for each waiting packet, the signal or update that met its waits (R400). -/
def State.noteMet (before s : State) (a : Actor) : State :=
  let upd (p : Packet) : Packet :=
    if p.waitSince.isSome && !before.waitsMet p.raw && s.waitsMet p.raw then
      { p with metBy := some (a.agent, a.unit, a.ptag), metAt := some s.time }
    else p
  { s with queues := s.queues.map (fun q => (q.1, { q.2 with packets := q.2.packets.map (fun p => (p.1, upd p.2)) })) }

end Sys2Proof.Machine
end

