-- ==== Sys2Proof/Machine/Batons.lean ====
section
/-! DEFINITION. Batons: waits in place, signals, destruction (R18, R87, R143, R271 to R275), and how a lap's commands
complete (R85, R86). -/

namespace Sys2Proof.Machine

/-! ### Completed lap commands -/

/-- The oldest incomplete ordinal, past every completed one. -/
def oldestFrom (completed : List Nat) : Nat → Nat → Nat
  | 0, o => o
  | n + 1, o => if completed.contains o then oldestFrom completed n (o + 1) else o

/-- A command of the lap completes. -/
def LapRun.done (l : LapRun) (ord now : Nat) : LapRun :=
  let c := ord :: l.completed
  let o := oldestFrom c c.length l.oldest
  { l with completed := c.filter (fun x => o ≤ x), oldest := o, lastDone := now }

/-- A command of the lap on a core completes; the watchdog starts over (R98). -/
def State.lapDone (s : State) (c ord : Nat) : State :=
  let k := s.core c
  s.setCore c { k with lap := k.lap.map (fun l => l.done ord s.time) }

/-! ### Releasing waiters in place (R272) -/

/-- The wait that follows a released or finished access: earlier loads that an acquire waits for (R143, R160). -/
def waitLoads (awaits : List Nat) : Wait := if awaits.isEmpty then .none else .fence [] true

/-- A waiter in place goes on. -/
def State.goOn (s : State) (w : BWaiter) : State :=
  match w with
  | .lap c =>
    let k := s.core c
    (match k.lap with
     | some l =>
       (match l.waiting with
        | some (ord, _) => (s.setCore c { k with lap := some { l with waiting := none } }).lapDone c ord
        | none => s)
     | none => s)
  | .pack c slot lanes =>
    (match s.pack c slot with
     | some p => s.setPack c slot (p.mapLanes lanes (fun _ t => { t with wait := waitLoads t.awaits, pc := t.waitPc + 8 }))
     | none => s)
  | .coach c =>
    let k := (s.core c).coach
    s.setCoach c { k.advance with wait := waitLoads k.awaits }

/-- Waiters in place take units in the order they began waiting; the rest stay. Fuel: the number of waiters. -/
def State.serve (s : State) (b : Nat) (rel : Actor) : Nat → State
  | 0 => s
  | n + 1 =>
    let x := s.baton b
    match x.waiters with
    | [] => s
    | w :: ws =>
      if x.value = 0 then s
      else
        let s := s.setBaton b { x with value := x.value - 1, waiters := ws }
        let s := s.endWait b w (x.value - 1) 0 (some rel)
        (s.goOn w.1).serve b rel n

/-! ### Signals (R273) -/

/-- Whether an engine of core `core` (none: a packet or a function) of partition `p` may use baton `b`: a status. -/
def State.batonCheck (s : State) (p b : Nat) (core : Option Nat) : Nat :=
  let x := s.baton b
  if s.partOf .baton b ≠ some p then Stat.foreign
  else if !x.live then Stat.depError
  else if x.coreScope && core ≠ some x.core then Stat.scope
  else Stat.ok

/-- Count an access refused as FOREIGN. -/
def State.countForeign (s : State) (p : Nat) : State := (s.count (Reg.strForeign p) 1).count Reg.strForeignAll 1

/-- Add to a LIVE baton, releasing waiters in place; OVERFLOW leaves it unchanged. -/
def State.batonAdd (s : State) (b n : Nat) (a : Actor) : State × Nat :=
  let x := s.baton b
  if 2 ^ 32 ≤ x.value + n then (s.traceSignal a.buffer (a.event 0x03 b x.value) true, Stat.overflow)
  else
    let t := (s.setBaton b { x with value := x.value + n }).serve b a x.waiters.length
    let released := (t.baton b).waiters.length < x.waiters.length
    ((s.noteMet t a).traceSignal a.buffer (a.event 0x03 b (t.baton b).value) released, Stat.ok)

/-- Signal a baton for a unit: the state and the status of the signal. -/
def State.batonSignal (s : State) (b n : Nat) (a : Actor) (core : Option Nat) : State × Nat :=
  let st := s.batonCheck a.part b core
  if st = Stat.ok then s.batonAdd b n a
  else if st = Stat.depError then (s, st)
  else
    let s := s.traceSignal a.buffer (a.event 0x03 b (s.baton b).value) true
    (if st = Stat.foreign then s.countForeign a.part else s, st)

/-! ### Waits in place -/

/-- Take a unit at once, or wait in place: the state, the status, and whether the waiter has its unit. -/
def State.batonWait (s : State) (b : Nat) (w : BWaiter) (a : Actor) (core : Option Nat) : State × Nat × Bool :=
  let st := s.batonCheck a.part b core
  let x := s.baton b
  if st ≠ Stat.ok then (if st = Stat.foreign then s.countForeign a.part else s, st, false)
  else if 0 < x.value then
    let s := s.setBaton b { x with value := x.value - 1 }
    (s.traceWait a.buffer (a.waited 0x01 b (x.value - 1) 0 0 none), Stat.ok, true)
  else (s.setBaton b { x with waiters := x.waiters ++ [(w, s.time)] }, Stat.ok, false)

/-! ### A baton that becomes FREE (R272, R275) -/

/-- A waiter in place faults with DEP_ERROR: its lap stops or its kernel ends. -/
def State.depFault (s : State) (b : Nat) (w : BWaiter) : State :=
  match w with
  | .lap c =>
    (match (s.core c).lap with
     | some l =>
       let ord := (l.waiting.map Prod.fst).getD l.oldest
       let n := max l.cmds.length 1
       s.lapStop c ord (LapFault.of Stat.depError (cTag (l.cmd ord)) (ord % n) (ord / n % 2 ^ 16)) true
     | none => s)
  | .pack c slot lanes =>
    (match s.pack c slot with
     | some p =>
       let lane := lanes.headD 0
       s.kernelFault c slot (p.thread lane).waitPc { status := Stat.depError, lane := lane, addr := b, reason := 0, wait := 0 }
     | none => s)
  | .coach c => s.coachFault c Stat.depError 0

/-- A baton becomes FREE with value 0 and its waiters in place fault; packets that wait on it are the Starter's. -/
def State.batonFree (s : State) (b : Nat) : State :=
  let ws := (s.baton b).waiters
  let s := ws.foldl (fun s w => s.endWait b w 0 1 none) s
  let s := s.setBaton b Baton.init
  ws.foldl (fun s w => s.depFault b w.1) s

end Sys2Proof.Machine
end

