-- ==== Sys2Proof/Machine/CartalOps.lean ====
section
/-! DEFINITION. Cartal: ports, routes, reachability and messages as the other families use them (13_cartal_links.md:
R313, R314, R316, R319 to R321, R325, R327, R333, R339). -/

namespace Sys2Proof.Machine

/-! ### Ports (R313, R314, R319) -/

/-- A port that is DOWN: no cable, empty buffers, full credits. -/
def Port.init : Port :=
  { st := 0, mated := false, attempts := 0, since := 0, fec := 0, step := 1, peer := none, finished := false, nonce := [],
    priv := 0, sentBeacon := [], seenBeacon := [], txSeq := 0, rxSeq := 0xFFFF, replay := [], nakDue := false, lastAck := 0,
    credits := State.creditsAtReset, freed := List.replicate 8 0, transit := [], held := [], queue := [], served := [],
    txKey := [], rxKey := [], keys := 0, keyFlits := 0, keyTime := 0,
    retrains := [], tagFails := [], malformed := [], downs := [], badAuth := 0, quars := 0, quarSerial := 0,
    quarLen := 0, lastBeacon := 0, msgs := 0, window := 0, floodSince := none }

def State.port (s : State) (k : Nat) : Port := Tab.get Port.init s.links.ports k
def State.setPort (s : State) (k : Nat) (x : Port) : State :=
  { s with links := { s.links with ports := Tab.set Port.init s.links.ports k x } }

/-- States of LNK_STATE (R347). -/
def PortSt.down := 0
def PortSt.training := 1
def PortSt.auth := 2
def PortSt.up := 3
def PortSt.quarantined := 4
def PortSt.miswired := 5
def PortSt.disabled := 6

/-- Whether a port is UP. -/
def State.portUp (s : State) (k : Nat) : Bool := !s.boot.off && (s.port k).st = PortSt.up

/-- The ports that are UP, as a mask: LINKS of the beacon and HIF_CAP_LINKS. -/
def State.linksUp (s : State) : Nat := bitsOf ((List.range 16).map s.portUp)

/-- The offset of a port (R313); a spare port has none (R314). -/
def State.offset (s : State) (k : Nat) : Option Nat :=
  if s.oneDie && k = 7 then none else if k < 7 then some (k + 1) else if k < 14 then some ((k - 6) * 8) else none

/-- A peer's module number, where its beacon is VALID. -/
def State.peerNo (s : State) (k : Nat) : Option Nat :=
  match (s.port k).peer with
  | some b => if b.valid then some (b.coord % 64) else none
  | none => none

/-! ### Routes (R320) -/

/-- The port of the direct link to a module: the one R313 gives, else the lowest spare. -/
def State.portTo (s : State) (m : Nat) : Option Nat :=
  let ports := (List.range 16).filter s.portUp
  match ports.find? (fun k => match s.offset k with | some o => s.links.coord ^^^ o = m | none => false) with
  | some k => some k
  | none => ports.find? (fun k => (s.offset k).isNone && s.peerNo k = some m)

/-- The port to a module two hops away through module `v`, which has a working link to both ends. -/
def State.portVia (s : State) (v m : Nat) : Option Nat :=
  match s.portTo v with
  | some k =>
    let links := match (s.port k).peer with | some b => b.links | none => 0
    let joins := (List.range 14).any (fun j => bitOf links j &&
      (match s.offset j with | some o => v ^^^ o = m | none => false))
    if joins then some k else none
  | none => none

/-- The output port of a message to a module: the first route of R320 whose links are UP; none where it is unreachable
or this module has no coordinates. -/
def State.route (s : State) (m : Nat) : Option Nat :=
  let own := s.links.coord
  if !s.links.valid || m = own || 64 ≤ m then none
  else match s.portTo m with
    | some k => some k
    | none =>
      let vias := [own / 8 * 8 + m % 8, m / 8 * 8 + own % 8] ++ List.range 64
      vias.findSome? (fun v => if v = own || v = m then none else s.portVia v m)

/-- When a module was last reachable; key 64 holds the time of the last release or module reset. -/
def State.reachedAt (s : State) (m : Nat) : Nat := Tab.get (Tab.get 0 s.links.reachedAt 64) s.links.reachedAt m

/-- Whether a module has been unreachable for 1 ms. -/
def State.unreachable (s : State) (m : Nat) : Bool := (s.route m).isNone && 1000000 ≤ s.since (s.reachedAt m)

/-- The modules a route leads to, as a mask (HIF_CAP_PEERS). -/
def State.reachMask (s : State) : Nat := bitsOf ((List.range 64).map (fun m => (s.route m).isSome))

/-- Bits of HIF_CAP_TOPO but ANCHOR (R278, R325): a settled module's number, seat, octet, VALID and group size; a module
with no group reads VALID, number 0 and size 1. -/
def State.topoWord (s : State) : Nat :=
  if s.links.settled then
    let n := s.links.coord % 64
    n + 2 ^ 6 * (n % 8) + 2 ^ 9 * (n / 8) + 2 ^ 13 + 2 ^ 14 * s.links.groupSize
  else if s.linksUp = 0 then 2 ^ 13 + 2 ^ 14
  else 0

/-- Follow a change of links: since when a module is unreachable, which modules are reachable, the group's size; where a
topology entry changed, the entries, ANCHOR with them, and CAP_GENERATION (R6, R278, R320). -/
def State.relink (s before : State) : State :=
  let mask := s.reachMask
  let old := s.links.reachable
  let reached := (List.range 64).foldl (fun t m =>
    if bitOf old m && !bitOf mask m then Tab.put t m s.time else t) s.links.reachedAt
  let lost := bitsOf ((List.range 64).map (fun m => bitOf s.links.lost m && !bitOf mask m))
  let size := if s.links.valid then 1 + (setBits mask 64).length else s.links.groupSize
  let l := { s.links with reachable := mask, reachedAt := reached, lost := lost, groupSize := size }
  let changed := mask != old || s.linksUp != before.linksUp || { s with links := l }.topoWord != before.topoWord
  if changed then
    { s with links := { l with anchor := s.pcie.link }, units := { s.units with capGen := (s.units.capGen + 1) % 2 ^ 32 } }
  else { s with links := l }

/-- One topology update: however many of its parts changed the entries, CAP_GENERATION has advanced once since `before` (R6). -/
def State.oneUpdate (s before : State) : State :=
  if s.units.capGen = before.units.capGen then s
  else { s with units := { s.units with capGen := (before.units.capGen + 1) % 2 ^ 32 } }

/-! ### Messages (R316, R321, R327) -/

/-- The 40 B header of a message (R327). -/
def SentMsg.header (m : SentMsg) (own : Nat) : List Byte :=
  layout 40 [(0, 1, m.kind), (1, 1, own), (2, 1, m.dst), (3, 1, bit m.req + 2 * (m.part % 8)), (4, 2, m.handle),
    (8, 4, m.data.length), (12, 4, m.seq), (16, 8, m.param), (24, 8, m.reqid), (32, 4, m.tenant)]

/-- Fields of a flit header but its numbers (R316). -/
def flitHead (vc : Nat) (hop som eom abort : Bool) : Nat :=
  2 ^ 33 * (vc % 4) + 2 ^ 35 * bit hop + 2 ^ 48 * bit som + 2 ^ 49 * bit eom + 2 ^ 50 * bit abort

/-- The flits of a message, the last padded with zeros. -/
def flitsOf (vc : Nat) (bytes : List Byte) : List (BitVec 64 × List Byte) :=
  let n := (bytes.length + 231) / 232
  (List.range n).map (fun i =>
    let part := (bytes.drop (232 * i)).take 232
    (BitVec.ofNat 64 (flitHead vc false (i = 0) (i + 1 = n) false), part ++ List.replicate (232 - part.length) 0#8))

/-- Who shares a port's MSG class for a message: its partition; messages of the module itself share with transit
(R334, DESIGN CHOICE, log 24). -/
def SentMsg.share (m : SentMsg) : Nat := if m.kind < 4 then m.part else 8

/-- How a port's queue names a message: its end-to-end number, or 2^32 + handle for a REDUCE, which carries none. -/
def SentMsg.tag (m : SentMsg) : Nat := if m.kind = 3 then 2 ^ 32 + m.handle else m.seq

/-- Queue the flits of some bytes on a port, which counts them for a meter index (R288; that it counts a flit once, as it is
queued, is a DESIGN CHOICE, log 84). -/
def State.queueFlits (s : State) (idx k vc share dst tag : Nat) (bytes : List Byte) : State :=
  let s := s.tally idx Site.flitsOut 0 (flitsOf vc bytes).length
  let x := s.port k
  s.setPort k { x with queue := x.queue ++ (flitsOf vc bytes).map (fun f =>
    { vc := vc, share := share, dst := dst, seq := tag, head := f.1, payload := f.2 : QFlit }) }

/-- The meter index a message is charged to: its packet's; of the partition without one; of the module itself (R287, R288). -/
def State.msgIndex (s : State) (m : SentMsg) : Nat :=
  match m.q.bind (fun p => (s.queue p.1).packets.look p.2) with
  | some p => p.meter
  | none => if m.kind < 4 then unrequested m.part else moduleIndex

/-- Queue a message's flits on the port its route takes; without a route it waits for one. -/
def State.transmit (s : State) (m : SentMsg) : State :=
  match s.route m.dst with
  | some k => s.queueFlits (s.msgIndex m) k (if m.kind = 3 then 2 else 1) m.share m.dst m.tag (m.header s.links.coord ++ m.data)
  | none => s

/-- Send a CTL message to a module by the route of R320, if one leads there (R339, R412). -/
def State.sendCtl (s : State) (dst : Nat) (bytes : List Byte) : State :=
  match s.route dst with
  | some k => s.queueFlits moduleIndex k 0 8 64 0 (exactly 232 (Config.ctlFlit dst bytes))
  | none => s

/-- The payload of an acknowledgement: its result and the bytes written below a remote fault (R321, R348). -/
def State.ackBytes (s : State) (dst seq result bytes : Nat) : List Byte :=
  exactly 232 (Config.ackFlit s.links.coord dst seq result bytes)

/-- Send an end-to-end acknowledgement; `r` holds its result and, × 8, its bytes written. -/
def State.sendAck (s : State) (dst seq r : Nat) : State :=
  match s.route dst with
  | some k => s.queueFlits moduleIndex k 3 8 64 0 (s.ackBytes dst seq (r % 8) (r / 8))
  | none => s

/-- A message that has not been sent. -/
def SentMsg.mk0 (dst kind part : Nat) : SentMsg :=
  { dst := dst, seq := 0, kind := kind, part := part, q := none, handle := 0, param := 0, reqid := 0, tenant := 0,
    req := false, data := [], sentAt := 0, startAt := 0, resends := 0, notReady := false,
    unsent := true }

/-- Start a message: the next end-to-end number of its destination (REDUCE carries 0), kept until it has a result; a
partition's message counts in its LNK_SENT (R348). -/
def State.sendMsg (s : State) (m : SentMsg) : State :=
  let s := if m.kind < 4 then s.count (Reg.lnkSent m.part) 1 else s
  if m.kind = 3 then s.transmit m
  else
    let n := Tab.get 0 s.links.sendSeq m.dst
    let m := { m with seq := n, sentAt := s.time, startAt := s.time, unsent := (s.route m.dst).isNone }
    let l := { s.links with sendSeq := Tab.set 0 s.links.sendSeq m.dst ((n + 1) % 2 ^ 32), sent := s.links.sent ++ [m] }
    { s with links := l }.transmit m

/-- No further flit of a message is sent; it ends with ABORT (R331, R343), in a flit that carries its header where none
has left, so that its number reaches the destination; a REDUCE none of whose flits has left is not sent at all. -/
def Port.cut (x : Port) (dst tag : Nat) : Port :=
  let mine (f : QFlit) : Bool := f.dst = dst && f.seq = tag && f.share != 8
  match x.queue.find? mine with
  | none => x
  | some f =>
    let rest := x.queue.filter (fun f => !mine f)
    let first := bitOf f.head.toNat 48
    if first && f.vc = 2 then { x with queue := rest }
    else
      let pay := if first then f.payload.take 40 ++ List.replicate 192 0#8 else List.replicate 232 0#8
      let a : QFlit := { f with head := BitVec.ofNat 64 (flitHead f.vc false first true true), payload := pay }
      { x with queue := rest ++ [a] }

/-- Stop a message: its flits go from every port's queue, and it awaits no result. -/
def State.cutMsg (s : State) (dst tag : Nat) : State :=
  { s with links := { s.links with ports := s.links.ports.map (fun p => (p.1, p.2.cut dst tag)),
                                   sent := s.links.sent.filter (fun m => !(m.dst = dst && m.tag = tag)) } }

/-! ### The group window (R340) -/

/-- What a GATEWAY does at its module: a register write or read at a BAR0 offset, a doorbell, a write of LPDDR5X, or the value
read for the anchor. PARAM bits 63:62 tell them apart; the layout is the model's (PRESUMED, log 65). -/
inductive GwOp where
  | reg (off : Nat)
  | doorbell
  | memory (pa : Nat)
  | regRead (off : Nat)
  | reply
  deriving DecidableEq, Repr

/-- PARAM of a GATEWAY, and back. -/
def GwOp.param : GwOp → Nat
  | .reg o => o
  | .doorbell => 2 ^ 62
  | .memory pa => 2 ^ 63 + pa % 2 ^ 48
  | .regRead o => 2 ^ 63 + 2 ^ 62 + o
  | .reply => 2 ^ 63 + 2 ^ 62 + 2 ^ 61
def gwOf (param : Nat) : GwOp :=
  match bitOf param 63, bitOf param 62 with
  | true, true => if bitOf param 61 then .reply else .regRead (param % 2 ^ 26)
  | true, false => .memory (param % 2 ^ 48)
  | false, true => .doorbell
  | false, false => .reg (param % 2 ^ 26)

/-- Whether a GATEWAY serves a command of LNK_GW_REGCMD, and whether it is a write to the slot. -/
def GwOp.command : GwOp → Bool
  | .reg _ | .regRead _ => true
  | _ => false
def GwOp.writes : GwOp → Bool
  | .regRead _ | .reply => false
  | _ => true

/-- Results of LNK_GW_REGSTAT. -/
def GwRes.lost := 1
def GwRes.busyIgnored := 2

/-! ### Host writes of a leg (R339) -/

/-- The anchors of the group this module knows: peers whose last beacon has ANCHOR set, and modules without a link here that it
has heard sending their device time within 2 ms (DESIGN CHOICE, log 25). -/
def State.anchors (s : State) : List Nat :=
  let peers := (List.range 16).filterMap (fun k => if s.portUp k then (s.port k).peer else none)
  (List.range 64).filter (fun m =>
    match peers.find? (fun b => b.valid && b.coord % 64 = m) with
    | some b => b.anchor
    | none => (s.route m).isSome && match s.links.heard.look m with | some t => s.since t ≤ 2000000 | none => false)

/-- The host anchor: the module HOST_ANCHOR names, else the lowest-numbered anchor known (R339, DESIGN CHOICE, log 25). -/
def State.hostAnchor (s : State) : Option Nat :=
  let named := s.entry 0x5000 4
  if named ≠ 0xFF then some (named % 64) else s.anchors.head?

/-- Send the waiting host writes to the host anchor as HOSTWRITE messages, in order: PARAM is the address, or, for an
interrupt, no data and the vector (DESIGN CHOICE, log 26). -/
def State.flushHost (s : State) : State :=
  match s.hostAnchor with
  | some a =>
    if (s.route a).isSome then
      let l := s.links.hostWrites
      let s := { s with links := { s.links with hostWrites := [] } }
      l.foldl (fun s w => s.sendMsg { SentMsg.mk0 a 6 0 with param := w.1 % 2 ^ 64, data := w.2 }) s
    else s
  | none => s

end Sys2Proof.Machine
end

