-- ==== Sys2Proof/Machine/Objects.lean ====
section
/-! DEFINITION. Shared objects as every family uses them: fence updates with their exports, and request slots
(11_shared_objects.md: R238, R267 to R269, R276; 12_energy_metering.md: R287, R294). -/

namespace Sys2Proof.Machine

/-! ### Who acts (R399) -/

/-- The Starter acting for a packet; which control core served it is not stated, its number is a free value. -/
def State.starterActor (s : State) (p ptag q : Nat) : Actor :=
  { buffer := 20, agent := 3, unit := s.freeVal 3, part := p, ptag := ptag, queue := q, ltag := 0, cmdidx := 0,
    replay := 0, dtag := 0 }

/-- The host, through a partition's function. -/
def hostActor (p : Nat) : Actor :=
  { buffer := 20, agent := 6, unit := 0xFF, part := p, ptag := 0, queue := 0, ltag := 0, cmdidx := 0, replay := 0,
    dtag := 0 }

/-- A peer module whose message arrived at a port. -/
def peerActor (port p src : Nat) : Actor :=
  { buffer := if port < 8 then 20 else 21, agent := 5, unit := src, part := p, ptag := 0, queue := 0, ltag := 0,
    cmdidx := 0, replay := 0, dtag := 0 }

/-- The module itself. -/
def moduleActor (p : Nat) : Actor := { hostActor p with agent := 7 }

/-! ### Fences (R238, R267, R268) -/

/-- Whether a fence value marks error. -/
def inError (v : Nat) : Bool := 2 ^ 63 ≤ v

/-- An export that fails: its kind becomes NONE, it is recorded and counted. -/
def State.exportFail (s : State) (p n i addr cause : Nat) : State :=
  let f := s.fence n
  let s := s.setFence n { f with exports := setNth f.exports i 0 }
  (s.count (Reg.strExportFail p) 1).partRec p 0x13 [n, i, addr, cause]

/-- One export carries the fence's new value (R268): a relay, or one posted write; a relay's value is the message's
data (DESIGN CHOICE, log 27). -/
def State.exportOne (s : State) (n i : Nat) : State :=
  let f := s.fence n
  let w := nth 0 f.exports i
  match s.partOf .fence n with
  | none => s
  | some p =>
    if fld w 62 2 = 1 then
      if s.unreachable (w % 64) then s
      else s.sendMsg { SentMsg.mk0 (w % 64) 2 p with param := n + 2 ^ 32 * fld w 8 18, data := leBytes 8 f.value }
    else if fld w 62 2 = 2 then
      let a := fld w 0 48
      match s.translate p { ctx := some f.owner, write := true, devOk := true, kOk := true } a with
      | .inl x => if x.tgt = 3 then s.hostPut x.pa (leBytes 8 f.value) else s.exportFail p n i a 0
      | .inr _ => s.exportFail p n i a 0
    else s

/-- Set a fence's value: its exports carry it, waiters see it in the same instant (R238, R268). -/
def State.fencePut (s : State) (n v : Nat) (a : Actor) : State :=
  let t := s.setFence n { s.fence n with value := v }
  let t := (t.exportOne n 0).exportOne n 1
  let t := s.noteMet t a
  let freed (p : Packet) : Bool := p.waitSince.isSome &&
    (fenceWaits p.raw).any (fun w => w.1 = n && !s.fenceMet w && t.fenceMet w)
  let released := s.queues.any (fun q => q.2.packets.any (fun p => freed p.2))
  t.traceSignal a.buffer (a.event 0x04 n v) released

/-- One update of a fence that its rules allow: SET 0, ADD 1, ERROR 2, and its status. -/
def State.fenceApply (s : State) (n mode value : Nat) (a : Actor) : State × Nat :=
  let v := (s.fence n).value
  if inError v then (s, Stat.ok)
  else if mode = 0 then (if value ≤ v then (s, Stat.fenceOrder) else (s.fencePut n value a, Stat.ok))
  else if mode = 1 then (if inError (v + value) then (s, Stat.fenceOrder) else (s.fencePut n (v + value) a, Stat.ok))
  else (s.fencePut n (v + 2 ^ 63) a, Stat.ok)

/-- A signal of a fence for a context of partition `p` (none: the owner's right): refused with FOREIGN, or applied
(R267). -/
def State.fenceSignal (s : State) (p : Nat) (ctx : Option Nat) (n mode value : Nat) (a : Actor) : State × Nat :=
  let f := s.fence n
  let mine := match ctx with | some c => f.any || f.owner = c | none => true
  if s.partOf .fence n ≠ some p || f.st = 0 || f.imported || !mine then
    (s.traceSignal a.buffer (a.event 0x04 n f.value) true, Stat.foreign)
  else s.fenceApply n mode value a

/-! ### Requests (R240, R276, R287, R294) -/

/-- Close status of a request (R240); destruction of its context counts before a late drop (R253). -/
def Request.closeStatus (r : Request) : Nat :=
  if r.aborted then Stat.aborted else if r.dropped then Stat.droppedLate else Stat.ok

/-- A request with no attached queue is CLOSING, and in the instant its last packet completes its slot is FREE and its
receipt awaits signature. -/
def State.requestTry (s : State) (slot : Nat) : State :=
  let r := s.request slot
  if r.st = 0 || r.attached ≠ 0 then s
  else if r.packets ≠ 0 then s.setRequest slot { r with st := 2 }
  else
    let s := s.setRequest slot Request.init
    match s.meter.idx.look r.meter with
    | some x =>
      let x := { x with closed := some (r.closeStatus, s.time), spread := s.entry (0x6100 + r.part) 5 = 1 }
      { s with meter := { s.meter with idx := Tab.put s.meter.idx r.meter x } }
    | none => s

/-- A queue detaches from its current request. -/
def State.detach (s : State) (q : Nat) (dropped aborted : Bool) : State :=
  let x := s.queue q
  match x.cur with
  | none => s
  | some slot =>
    let r := s.request slot
    let s := s.setQueue q { x with cur := none }
    let s := s.setRequest slot { r with attached := r.attached - 1, dropped := r.dropped || dropped,
                                        aborted := r.aborted || aborted }
    s.requestTry slot

/-- A late drop reaches the queue's current request. -/
def State.dropCurrent (s : State) (q : Nat) : State :=
  match (s.queue q).cur with
  | none => s
  | some slot => s.setRequest slot { s.request slot with dropped := true }

/-- The lowest free meter index (R287). -/
def Meter.freeIndex (m : Meter) : Nat :=
  let used := Tab.keys m.idx
  ((List.range (used.length + 1)).find? (fun i => !used.contains i)).getD 0

/-- Receipts that await signature (R287). -/
def Meter.awaiting (m : Meter) : Nat := (m.idx.filter (fun x => x.2.closed.isSome)).length

/-- An OPEN_REQUEST with MODE NEW opens a request in its slot, attached to one queue. -/
def State.openRequest (s : State) (p slot reqid tenant : Nat) : State :=
  let i := s.meter.freeIndex
  let x : MeterIdx :=
    { reqid := reqid, tenant := tenant, part := p, slot := slot, frameOpen := s.meter.frame, tOpen := s.time, cls := 1,
      tstep := false, packets := 0, energy := 0, cats := [0, 0, 0, 0], stat := 0, closed := none, frameClose := none,
      spread := false }
  let s := { s with meter := { s.meter with idx := Tab.put s.meter.idx i x } }
  s.setRequest slot { st := 1, reqid := reqid, tenant := tenant, attached := 1, packets := 0, meter := i, part := p,
                      dropped := false, aborted := false }

/-- One more packet is attributed to a request (R240, R288). -/
def State.attribute (s : State) (slot : Nat) : State :=
  let r := s.request slot
  let s := s.setRequest slot { r with packets := r.packets + 1 }
  match s.meter.idx.look r.meter with
  | some x =>
    { s with meter := { s.meter with idx := Tab.put s.meter.idx r.meter { x with packets := min (x.packets + 1) (2 ^ 32 - 1) } } }
  | none => s

/-- A packet attributed to a request completes. -/
def State.unattribute (s : State) (slot : Nat) : State :=
  let r := s.request slot
  (s.setRequest slot { r with packets := r.packets - 1 }).requestTry slot

end Sys2Proof.Machine
end

