-- ==== Sys2Proof/Machine/PacketCheck.lean ====
section
/-! DEFINITION. The checks packet decode makes (10_starter.md: R229 to R241; 13_cartal_links.md: R328). -/

namespace Sys2Proof.Machine

/-- OPTIONAL_UNITS of the variant (R1, R4): RR, CU, T2. -/
def State.optionalUnits (s : State) : Nat := if s.units.variant = 1 then 7 else if s.units.variant = 2 then 5 else 0

/-- The opcodes of R233. -/
def packetOpcodes : List Nat :=
  [0x01, 0x02, 0x10, 0x11, 0x20, 0x21, 0x30, 0x31, 0x32, 0x33, 0x40, 0x41, 0x50]

/-- Opcodes that may carry FINALLY, and that may not carry CONCUR. -/
def mayFinally (op : Nat) : Bool := op = 0x01 || op = 0x02 || op = 0x31 || op = 0x33
def mayConcur (op : Nat) : Bool := !(op = 0x40 || op = 0x41)

/-- Header and sync block: flags the opcode allows, reserved bits clear, fields in range (R229, R230). -/
def headerOk (raw : BitVec 512) (periodic : Bool) : Bool :=
  let w := raw.toNat
  fld w 12 20 = 0 && fld w 210 13 = 0 && fld w 237 18 = 0 &&
  (!pFinally raw || mayFinally (pOpcode raw)) && (!pConcur raw || mayConcur (pOpcode raw)) &&
  (!periodic || pDeadline raw = 0) &&
  (if pFv raw then pFvalue raw < 2 ^ 63 else pFvalue raw = 0 && pFence raw = 0) &&
  (pBv raw || pBaton raw = 0)

/-- An address of 48 bits, aligned. -/
def addrOk (a al : Nat) : Bool := a < 2 ^ 48 && a % al = 0

/-- Whether two ranges share a byte. -/
def rangesMeet (a n b m : Nat) : Bool := a < b + m && b < a + n && 0 < n && 0 < m

/-- The fence entries of WAIT_FENCE (no MODE) and SIGNAL_FENCE (R237, R238). -/
def fenceEntryOk (raw : BitVec 512) (signal : Bool) (o : Nat) : Bool :=
  let v := pAt raw o 8
  let w := pAt raw (o + 8) 4
  pAt raw (o + 12) 4 = 0 &&
  (if bitOf w 31 then
     v < 2 ^ 63 && fld w 18 11 = 0 &&
     (if signal then
        fld w 29 2 = 0 || (fld w 29 2 = 1 && 1 ≤ v) || (fld w 29 2 = 2 && v = 0)
      else fld w 29 2 = 0)
   else v = 0 && w = 0)

/-- The baton entries of WAIT_BATON and SIGNAL_BATON. -/
def batonEntryOk (raw : BitVec 512) (signal : Bool) (o : Nat) : Bool :=
  let w := pAt raw o 4
  if bitOf w 31 then (if signal then fld w 29 2 = 0 && 1 ≤ fld w 13 16 else fld w 13 18 = 0) else w = 0

/-- The DMA field: an engine of the variant, or 0xFF. -/
def State.dmaOk (s : State) (d : Nat) : Bool := d = 0xFF || d < s.nClusters

/-- Length in bytes of a registered collective (R329). -/
def Handle.collLen (h : Handle) : Nat := fld (nth 0 h.data 1) 0 17

/-- A FREE handle. -/
def Handle.init : Handle :=
  { kind := 0, data := [0, 0, 0, 0], part := 0, received := 0, consumed := 0, epoch := 0, since := none, contrib := [],
    packet := none }
def State.handle (s : State) (n : Nat) : Handle := Tab.get Handle.init s.links.handles n
def State.setHandle (s : State) (n : Nat) (h : Handle) : State :=
  { s with links := { s.links with handles := Tab.set Handle.init s.links.handles n h } }

/-- Fields of a SEND_MESSAGE payload (R241). -/
def mLaddr (raw : BitVec 512) : Nat := pAt raw 32 8
def mLen (raw : BitVec 512) : Nat := pAt raw 40 4
def mHandle (raw : BitVec 512) : Nat := pAt raw 44 2
def mDest (raw : BitVec 512) : Nat := pAt raw 46 1
def mKind (raw : BitVec 512) : Nat := pAt raw 47 1
def mParam (raw : BitVec 512) : Nat := pAt raw 48 8

/-- Ranges of the fields of SEND_MESSAGE by KIND (R328). -/
def State.messageOk (s : State) (p : Nat) (raw : BitVec 512) : Bool :=
  pAt raw 56 8 = 0 && mLaddr raw < 2 ^ 48 && mDest raw < 64 && mKind raw ≤ 3 &&
  (if mKind raw = 3 then mDest raw = 0 else mDest raw != s.links.coord) &&
  (match mKind raw with
   | 0 => mLen raw ≤ 65504 && mHandle raw < 8192
   | 1 => 1 ≤ mLen raw && mLen raw ≤ 2 ^ 24 && mHandle raw < 8192
   | 2 => mLaddr raw = 0 && mLen raw = 0 && mHandle raw = 0 && fld (mParam raw) 18 14 = 0 && fld (mParam raw) 50 14 = 0
   | _ =>
     let h := s.handle (mHandle raw)
     bitOf s.optionalUnits 0 = false ||
     (mHandle raw < 8192 && h.kind = 3 && h.part = p && mLen raw = h.collLen))

/-- The payload of every opcode: reserved bits clear, fields in range (R234 to R241). -/
def State.payloadOk (s : State) (p : Nat) (raw : BitVec 512) : Bool :=
  match pOpcode raw with
  | 0x01 => pAt raw 32 32 = 0
  | 0x02 => addrOk (pAt raw 32 8) 8 && pAt raw 40 24 = 0
  | 0x10 => pAt raw 48 4 = 0 || (addrOk (pAt raw 32 8) 64 && pAt raw 52 12 = 0)
  | 0x11 => pAt raw 56 4 = 0 || (addrOk (pAt raw 32 8) 64 && pAt raw 60 4 = 0)
  | 0x20 =>
    let src := pAt raw 32 8
    let dst := pAt raw 40 8
    let len := pAt raw 48 8
    src < 2 ^ 48 && dst < 2 ^ 48 && 1 ≤ len && len < 2 ^ 40 && s.dmaOk (pAt raw 56 1) && pAt raw 57 7 = 0 &&
    !rangesMeet src len dst len
  | 0x21 =>
    let size := pAt raw 56 1
    let len := pAt raw 48 8
    size ≤ 3 && addrOk (pAt raw 32 8) (2 ^ size) && 1 ≤ len && len < 2 ^ 40 && len % 2 ^ size = 0 &&
    s.dmaOk (pAt raw 57 1) && pAt raw 58 6 = 0
  | 0x30 => fenceEntryOk raw false 32 && fenceEntryOk raw false 48
  | 0x31 => fenceEntryOk raw true 32 && fenceEntryOk raw true 48
  | 0x32 => (List.range 8).all (fun i => batonEntryOk raw false (32 + 4 * i))
  | 0x33 => (List.range 4).all (fun i => batonEntryOk raw true (32 + 4 * i)) && pAt raw 48 16 = 0
  | 0x40 => s.inRange p .req (pAt raw 44 2) && pAt raw 46 1 ≤ 1 && pAt raw 47 17 = 0
  | 0x41 => s.inRange p .req (pAt raw 44 2) && pAt raw 40 4 = 0 && pAt raw 46 18 = 0
  | 0x50 => s.messageOk p raw
  | _ => true

/-- Whether a launch packet reads its descriptor: a count that is not 0 (R235). -/
def runsLaunch (raw : BitVec 512) : Bool :=
  (pOpcode raw = 0x10 && pAt raw 48 4 != 0) || (pOpcode raw = 0x11 && pAt raw 56 4 != 0)

/-! ### Launch descriptors (R234, R235) -/

def dEntry (raw desc : BitVec 512) : Nat := if pOpcode raw = 0x10 then pAt desc 0 8 else pAt desc 8 8
def dPlace (raw desc : BitVec 512) : Nat := if pOpcode raw = 0x10 then pAt desc 8 8 else pAt desc 16 8
def dCount (raw desc : BitVec 512) : Nat := if pOpcode raw = 0x10 then pAt desc 16 1 else pAt desc 24 1

/-- Whether a launch descriptor is well-formed; decode does not judge LAP's alignment and NCMD. -/
def descOk (raw desc : BitVec 512) : Bool :=
  addrOk (dEntry raw desc) 8 && addrOk (dPlace raw desc) 8 && 1 ≤ dCount raw desc && dCount raw desc ≤ 160 &&
  (if pOpcode raw = 0x10 then
     1 ≤ pAt desc 17 1 && pAt desc 17 1 ≤ 32 && 1 ≤ pAt desc 18 1 && pAt desc 19 1 ≤ 64 && pAt desc 20 44 = 0
   else pAt desc 25 1 = 0 && pAt desc 28 1 < 4 && pAt desc 29 35 = 0)

/-- Whether a list repeats an element. -/
def repeats : List Nat → Bool
  | [] => false
  | x :: xs => xs.contains x || repeats xs

/-- Status of a placement list: a core outside the partition or listed twice, then an absent core (R24, R232). -/
def State.placeStatus (s : State) (p : Nat) (place : List Nat) : Nat :=
  if place.any (fun c => s.nCores ≤ c || !bitOf (s.pClusters p) (c / 8)) || repeats place then Stat.placement
  else if place.any (fun c => !s.coreOn c) then Stat.absentUnit
  else Stat.ok

/-- The DMA cluster a packet names; 0xFF for any. -/
def dmaField (raw : BitVec 512) : Nat := if pOpcode raw = 0x20 then pAt raw 56 1 else pAt raw 57 1

/-- Address ranges a packet names, with those of its descriptor (R232, R266); decode does not judge the LAP field (R235),
and an entry point counts as the word at it (DEDUCED, log 78). -/
def namedRanges (raw desc : BitVec 512) : List (Nat × Nat) :=
  match pOpcode raw with
  | 0x02 => [(pAt raw 32 8, 8)]
  | 0x10 =>
    if runsLaunch raw then [(pAt raw 32 8, 64), (dEntry raw desc, 8), (dPlace raw desc, dCount raw desc)] else []
  | 0x11 =>
    if runsLaunch raw then [(pAt raw 32 8, 64), (dEntry raw desc, 8), (dPlace raw desc, dCount raw desc)] else []
  | 0x20 => [(pAt raw 32 8, pAt raw 48 8), (pAt raw 40 8, pAt raw 48 8)]
  | 0x21 => [(pAt raw 32 8, pAt raw 48 8)]
  | 0x50 => [(mLaddr raw, mLen raw)]
  | _ => []

/-- Whether a range holds an address inside a FREEING object freed before the packet was enqueued (R266). -/
def State.staleRange (s : State) (p stamp : Nat) (r : Nat × Nat) : Bool :=
  s.mobjs.any (fun m => m.2.st = 2 && s.inRange p .mobj m.1 && m.2.stamp < stamp &&
    rangesMeet m.2.base (m.2.pages * 0x8000) r.1 r.2)

/-- The checks after a packet, its descriptor and its list have been read (R232, from PLACEMENT on). -/
def State.lateChecks (s : State) (p stamp : Nat) (raw desc : BitVec 512) (place : List Nat) : Nat :=
  let op := pOpcode raw
  let st :=
    if runsLaunch raw then s.placeStatus p place
    else if (op = 0x20 || op = 0x21) && dmaField raw != 0xFF && !bitOf (s.pClusters p) (dmaField raw) then Stat.placement
    else if op = 0x50 && mKind raw = 3 && !bitOf s.optionalUnits 0 then Stat.absentUnit
    else Stat.ok
  if st ≠ Stat.ok then st
  else if op = 0x10 && runsLaunch raw && 4096 < pAt desc 17 1 * roundedRegs (pAt desc 18 1) then Stat.occupancy
  else if (namedRanges raw desc).any (s.staleRange p stamp) then Stat.staleObject
  else Stat.ok

end Sys2Proof.Machine
end

