-- ==== Sys2Proof/Machine/StarterOps.lean ====
section
/-! DEFINITION. The Starter's engine: reading host and device memory, completion records, completing and stopping
packets, stopping queues, aborting contexts, periods and drops (10_starter.md: R224 to R253; 11_shared_objects.md:
R261, R265; 15: R392 to R394). -/

namespace Sys2Proof.Machine

/-! ### Memory as the Starter and DMA engines reach it (R180, R236, R339) -/

/-- Translation holder of the Starter, and of the DMA engine of cluster `k` (R214). -/
def starterTlb := 180
def dmaTlb (k : Nat) : Nat := 160 + k

/-- Translate for the Starter or a DMA engine: registers (target 2) are reached by DMA engines only, and a leg reads no
host memory. -/
def State.engineXlate (s : State) (dma : Bool) (p : Nat) (ctx : Nat) (write : Bool) (va : Nat) : Xlat ⊕ Nat :=
  match s.translate p { ctx := some ctx, write := write, devOk := true, kOk := true } va with
  | .inl x => if (x.tgt = 2 && !dma) || (x.tgt = 3 && !write && !s.pcie.link) then .inr Reason.attr else .inl x
  | .inr r => .inr r

/-- A range cut at the multiples of `unit`: addresses and lengths. Fuel: the number of parts. -/
def pageParts (unit va len : Nat) : Nat → List (Nat × Nat)
  | 0 => []
  | n + 1 =>
    if len = 0 then []
    else
      let m := min len (unit - va % unit)
      (va, m) :: pageParts unit (va + m) (len - m) n

/-- The pages of a range. -/
def pagesOf (va len : Nat) : List (Nat × Nat) := pageParts 0x8000 va len (len / 0x8000 + 2)

/-- The parts of a range that one PCIe read request may each ask for: 4 KiB (R418). -/
def requestsOf (va len : Nat) : List (Nat × Nat) := pageParts 0x1000 va len (len / 0x1000 + 2)

/-- Whether `n` more reads keep the module within its 768 outstanding ones (R418). -/
def State.readRoom (s : State) (n : Nat) : Bool := s.pcie.reads.length + n ≤ 768

/-- The tag of the next read: the first free one of the 1,024 from the last one used on (R418). DESIGN CHOICE (log 75). -/
def State.freeTag (s : State) : Nat :=
  ((List.range 769).find? (fun i => (Tab.look s.pcie.reads ((s.pcie.nextTag + i) % 1024)).isNone)).elim s.pcie.nextTag
    (fun i => (s.pcie.nextTag + i) % 1024)

/-- What reading a range gives: its bytes, a wait for host memory, or the reason and address of a page fault. -/
inductive Fetch where
  | data (s : State) (bytes : List Byte)
  | wait (s : State)
  | fault (reason addr : Nat)

/-- Ask host memory for a packet's bytes, once there is room for another read. -/
def State.askHost (s : State) (q n va addr len : Nat) : State :=
  if !s.readRoom 1 then s else
  let tag := s.freeTag
  let r : PRead := { addr := addr, len := len, va := va, work := some (q, n), who := none, reg := 0, sext := false, pc := 0 }
  let f : Fetched := { q := q, n := n, addr := addr, len := len, data := none }
  ({ s with pcie := { s.pcie with reads := Tab.put s.pcie.reads tag r, fetched := s.pcie.fetched ++ [f],
                                  nextTag := (tag + 1) % 1024 } }).emit (.pread tag addr len)

/-- Ask the register image for a packet's bytes, once; register addresses lie beyond every PCIe address. -/
def State.askRegs (s : State) (q n p addr len : Nat) : State :=
  let f : Fetched := { q := q, n := n, addr := addr, len := len, data := none }
  let op : RegOp := { part := p, off := addr - 2 ^ 64, bytes := [], read := some (q, n, len) }
  { s with pcie := { s.pcie with dmaRegs := s.pcie.dmaRegs ++ [op], fetched := s.pcie.fetched ++ [f] } }

/-- Read one page's part for packet `n` of queue `q`, by the DMA engine of a cluster or the Starter (20), which alone takes a copy
of a line it reads (R180, R194). -/
def State.readPart (s : State) (agent q n p ctx va len : Nat) : Fetch :=
  match s.engineXlate (agent < 20) p ctx false va with
  | .inr r => .fault r va
  | .inl x =>
    if 2 ≤ x.tgt then
      let a := if x.tgt = 3 then x.pa else 2 ^ 64 + (x.pa - regBase)
      match s.pcie.fetched.find? (fun f => f.q = q && f.n = n && f.addr = a && f.len = len) with
      | some f =>
        (match f.data with
         | some b => .data s b
         | none => .wait s)
      | none => .wait (if x.tgt = 3 then s.askHost q n va a len else s.askRegs q n p a len)
    else
      let r := s.physRead agent none (agent = 20 && x.attr ≠ Attr.uc) x.pa len
      .data r.1 r.2

/-- Read parts in order: the bytes once every part has come; a fault of an earlier part comes first. -/
def State.readParts (s : State) (q n p ctx : Nat) : List (Nat × Nat) → Fetch
  | [] => .data s []
  | (va, len) :: rest =>
    match s.readPart 20 q n p ctx va len with
    | .fault r a => .fault r a
    | .wait s =>
      (match s.readParts q n p ctx rest with
       | .wait s => .wait s
       | _ => .wait s)
    | .data s b =>
      match s.readParts q n p ctx rest with
      | .data s bs => .data s (b ++ bs)
      | r => r

/-- Read a range of device-virtual memory for a packet. -/
def State.readFor (s : State) (q n p ctx va len : Nat) : Fetch := s.readParts q n p ctx (requestsOf va len)

/-- Forget what was read from host memory for a packet. -/
def State.forget (s : State) (q n : Nat) : State :=
  { s with pcie := { s.pcie with fetched := s.pcie.fetched.filter (fun f => !(f.q = q && f.n = n)) } }

/-- Write bytes within one page for an agent, a DMA engine's cluster or the Starter (20), or the reason of the fault. -/
def State.writePart (s : State) (agent p ctx va : Nat) (bytes : List Byte) : State ⊕ Nat :=
  match s.engineXlate (agent < 20) p ctx true va with
  | .inr r => .inr r
  | .inl x =>
    let op : RegOp := { part := p, off := x.pa - regBase, bytes := bytes, read := none }
    .inl (if x.tgt = 3 then s.hostPut x.pa bytes
          else if x.tgt = 2 then { s with pcie := { s.pcie with dmaRegs := s.pcie.dmaRegs ++ [op] } }
          else s.physWrite agent (agent < 20 || x.attr = Attr.uc) x.pa bytes)

/-! ### Order of a queue's packets (R227, R231, R244) -/

/-- Whether a packet has completed or been skipped. -/
def PState.over : PState → Bool
  | .ok | .failed | .skipped => true
  | _ => false

/-- Packets in ring or list order: the keys are counts modulo 2^32 from HEAD, or list positions. -/
def Queue.inOrder (q : Queue) : List (Nat × Packet) :=
  q.packets.filter (fun p => q.head ≤ p.1) ++ q.packets.filter (fun p => p.1 < q.head)

/-- Place of a count in ring order. -/
def Queue.place (q : Queue) (n : Nat) : Nat := if q.periodic then n else (n + 2 ^ 32 - q.head) % 2 ^ 32

/-- Packets of the queue before one of them. -/
def Queue.before (q : Queue) (n : Nat) : List (Nat × Packet) := q.inOrder.takeWhile (fun p => p.1 != n)

/-- Started packets not completed. -/
def Queue.inFlight (q : Queue) : Nat := (q.packets.filter (fun p => p.2.st = .started)).length
def State.inFlight (s : State) : Nat := (s.queues.map (fun q => q.2.inFlight)).sum

/-- The next packet to decode. -/
def Queue.nextDecode (q : Queue) : Option Nat :=
  let k := q.packets.length
  if q.periodic then (if q.active && k < q.list.2 then some k else none)
  else if k < (q.tail + 2 ^ 32 - q.head) % 2 ^ 32 then some ((q.head + k) % 2 ^ 32) else none

/-- The next unstarted packet, once decoded. -/
def Queue.nextStart (q : Queue) : Option (Nat × Packet) := q.inOrder.find? (fun p => p.2.st = .decoded)

/-- Ring slot of a packet. -/
def Queue.slotOf (q : Queue) (n : Nat) : Nat := ((if q.periodic then q.list.1 + n else n) % 2 ^ q.ringLog)

/-- INDEX of a packet in records: its count; on a periodic queue its ring entry (DEDUCED, log 28). -/
def Queue.index (q : Queue) (n : Nat) : Nat := if q.periodic then q.list.1 + n else n

/-- Enqueue stamp of a packet (R265). -/
def Queue.stampOf (q : Queue) (n : Nat) : Nat :=
  if q.periodic then (q.stamps.headD (0, 0)).2
  else
    match q.stamps.find? (fun t => q.place n < q.place t.1) with
    | some t => t.2
    | none => 0

/-- Whether the completion queue has room for one more record (R249). -/
def Queue.room (q : Queue) : Bool := (q.ccount + q.reserved + 2 ^ 32 - q.cqHead) % 2 ^ 32 < 2 ^ q.cqLog

/-- Conditions 1 to 3 of R231; in a dropped period FINALLY packets wait until every stopped packet has completed
(R245). -/
def Queue.cond123 (q : Queue) (n : Nat) (p : Packet) : Bool :=
  q.st = .running && !q.halt && (q.before n).all (fun e => e.2.st != .decoded) &&
  (pConcur p.raw || (q.before n).all (fun e => e.2.st.over)) &&
  (!(q.periodic && q.dropped) || q.inFlight = 0)

/-- A FINALLY packet of a dropped period starts whatever its waits are (R245). -/
def Queue.free5 (q : Queue) (p : Packet) : Bool := q.periodic && q.dropped && pFinally p.raw

/-- Condition 7 (R231, R287). -/
def State.cond7 (s : State) (p : Packet) : Bool :=
  !(pOpcode p.raw = 0x40 && pAt p.raw 46 1 = 0) || s.meter.awaiting ≤ 65536

/-- Status that ends a packet's waits: FOREIGN, DEP_ERROR or SCOPE; OK while they may be met (R230, R267, R272, R18). -/
def State.waitStatus (s : State) (p : Nat) (raw : BitVec 512) : Nat :=
  let ofFence (f : Nat × Nat) : Nat :=
    if s.partOf .fence f.1 ≠ some p then Stat.foreign
    else if (s.fence f.1).st = 0 || inError (s.fence f.1).value then Stat.depError else Stat.ok
  let l := (fenceWaits raw).map ofFence ++ (batonWaits raw).map (fun b => s.batonCheck p b none)
  (l.find? (fun st => st != Stat.ok)).getD Stat.ok

/-! ### Records (R248 to R250, R393) -/

/-- The queue's partition. -/
def State.qPart (s : State) (q : Nat) : Nat := (s.partOf .queue q).getD 0

/-- End the wait of a packet (R230, R400): nanoseconds waited until its waits were met or it was given up, and a trace
record for each fence and baton it waited for. -/
def State.endPacketWait (s : State) (q : Nat) (p : Packet) (rflags : Nat) : State :=
  match p.waitSince with
  | none => s
  | some t =>
    let part := s.qPart q
    let a := s.starterActor part (pTag p.raw) q
    let waited := (p.metAt.getD s.time + 2 ^ 64 - t % 2 ^ 64) % 2 ^ 64
    let rel : Option Actor :=
      if rflags = 0 then p.metBy.map (fun m => { a with agent := m.1, unit := m.2.1, ptag := m.2.2 }) else none
    let s := s.count (Reg.strWaitNs part) waited
    let s := (fenceWaits p.raw).foldl
      (fun s f => s.traceWait a.buffer (a.waited 0x02 f.1 (s.fence f.1).value waited rflags rel)) s
    let s := (batonWaits p.raw).foldl
      (fun s b => s.traceWait a.buffer (a.waited 0x01 b (s.baton b).value waited rflags rel)) s
    s.useFree 1

/-- The waits of a queue's unstarted packets end, as the packets leave the queue. -/
def State.endWaits (s : State) (q : Nat) : State :=
  ((s.queue q).packets.filter (fun p => p.2.st = .decoded)).foldl (fun s p => s.endPacketWait q p.2 3) s

/-- A queue that stops with no failed packet: fetching stops, unstarted packets are read again after RESUME; the running
period of a periodic queue is given up without a record, since its list ends neither complete nor dropped (R227, R249,
DESIGN CHOICE, log 83). One that a failed packet is stopping stays to that (R252). -/
def State.bareStop (s : State) (q : Nat) : State :=
  let x := s.queue q
  if x.st = .running && !x.halt then
    (s.endWaits q).setQueue q
      { x with st := .stopped, packets := x.packets.filter (fun p => p.2.st != .decoded), active := false, dropped := false,
               reserved := if x.periodic && x.active && x.prec then x.reserved - 1 else x.reserved }
  else s

/-- Raise the queue's vector. -/
def State.raiseQueue (s : State) (q : Nat) : State := s.raise (s.fnOf (s.qPart q)) (s.queue q).vector

/-- Write a completion record at the completion count: bytes 16 to 31, then bytes 0 to 15, then the queue's vector where
the record raises it (R250). A record whose write fails translation is lost and stops the queue (R249). -/
def State.cqWrite (s : State) (q : Nat) (r : CRec) (irq : Bool) : State :=
  let x := s.queue q
  let p := s.qPart q
  let phase := 1 - x.ccount / 2 ^ x.cqLog % 2
  let bytes := layout 32 [(0, 4, r.index), (4, 4, r.tag), (8, 1, r.status), (9, 1, r.opcode), (10, 1, r.flags + phase),
    (12, 4, r.count), (16, 8, r.start), (24, 8, s.time)]
  let va := x.cqBase + 32 * (x.ccount % 2 ^ x.cqLog)
  let t := s.tlbUse starterTlb p va
  let low (t : State) : State ⊕ Nat :=
    match t.writePart 20 p x.context (va + 16) (bytes.drop 16) with
    | .inl t => t.writePart 20 p x.context va (bytes.take 16)
    | .inr r => .inr r
  match low t with
  | .inl t =>
    let t := t.setQueue q { t.queue q with ccount := (x.ccount + 1) % 2 ^ 32 }
    if irq then t.raiseQueue q else t
  | .inr reason =>
    let t := t.countPf p
    let t := if x.cqLost then t else t.partRec p 0x12 [q, va, reason, r.index]
    (t.setQueue q { t.queue q with cqLost := true }).bareStop q

/-- A record in completion order: written at once where the queue has room and owes no earlier one, else owed until the
consumed count moves. Only a packet that never started has no entry reserved; that its record then waits for room is the
model's (DESIGN CHOICE, log 83). -/
def State.cqPut (s : State) (q : Nat) (r : CRec) (irq : Bool) : State :=
  let x := s.queue q
  if x.owed.isEmpty && x.room then s.cqWrite q r irq else s.setQueue q { x with owed := x.owed ++ [(r, irq)] }

/-- Write the records owed, as far as there is room. Fuel: their number. -/
def State.cqFlush (s : State) (q : Nat) : Nat → State
  | 0 => s
  | n + 1 =>
    let x := s.queue q
    match x.owed with
    | [] => s
    | (r, irq) :: rest => if x.room then ((s.setQueue q { x with owed := rest }).cqWrite q r irq).cqFlush q n else s

/-- The per-command record of a packet that the Starter, a DMA engine or the Cartal side reports; launches that ran
have written theirs. -/
def State.packetRec (s : State) (q n st : Nat) (x : Queue) (p : Packet) : State :=
  let base : FaultRec := { kind := 1, status := st, source := 4, part := s.qPart q, ptag := pTag p.raw, queue := q,
                           ctx := x.context, body := [] }
  let op := pOpcode p.raw
  let ran := p.st = .started
  if ran && (op = 0x10 || op = 0x11) then s
  else if ran && (op = 0x20 || op = 0x21) then
    s.faultRec { base with source := 3, body := [(24, 1, p.dma), (25, 1, p.reason), (32, 8, p.faultAddr), (40, 8, p.moved)] }
  else if ran && op = 0x50 && st = Stat.linkError then
    s.faultRec { base with source := 5, body := [(24, 1, p.reason), (25, 1, mDest p.raw), (26, 2, mHandle p.raw),
                                                 (28, 4, (p.msg.map Prod.snd).getD 0), (32, 8, p.moved % 2 ^ 40)] }
  else
    s.faultRec { base with body := [(24, 4, x.index n), (28, 1, op), (29, 1, p.reason), (32, 8, p.faultAddr)] }

/-! ### Completing a packet -/

/-- Take completed packets off the head of a ring. Fuel: the number of packets. -/
def Queue.advance (q : Queue) : Nat → Queue
  | 0 => q
  | n + 1 =>
    if q.periodic || q.halt then q
    else match q.packets.look q.head with
      | some p =>
        if p.st.over then
          let h := (q.head + 1) % 2 ^ 32
          let x := { q with head := h, packets := Tab.del q.packets q.head }
          let live (t : Nat × Nat) : Bool := 0 < (t.1 + 2 ^ 32 - h) % 2 ^ 32 && (t.1 + 2 ^ 32 - h) % 2 ^ 32 ≤ 2 ^ q.ringLog
          ({ x with stamps := q.stamps.filter live } : Queue).advance n
        else q
      | none => q

/-- Start and deadline of period `k`. -/
def Queue.startOf (q : Queue) (k : Nat) : Nat := q.start + k * q.periodNs
def Queue.deadlineOf (q : Queue) (k : Nat) : Nat := q.startOf k + q.deadlineNs

/-- A queue whose started packets have all completed after a stopping status: HEAD at the earliest that completed with
a status other than OK or DROPPED_LATE, then STOPPED (R252); a DRAINING queue becomes DISABLED, its request detached
(R226). -/
def State.quiesce (s : State) (q : Nat) : State :=
  let x := s.queue q
  if x.inFlight ≠ 0 then s
  else if x.st = .draining then
    if (s.ctx x.context).st = .aborting then s
    else (s.detach q false true).setQueue q
      { (s.detach q false true).queue q with st := .disabled, packets := [], halt := false, active := false }
  else if x.halt then
    let bad (p : Nat × Packet) : Bool := p.2.st = .failed && p.2.status != Stat.droppedLate
    let head := ((x.inOrder.find? bad).map Prod.fst).getD x.head
    if x.periodic then
      let period : CRec := { index := x.period % 2 ^ 32, tag := 0, status := Stat.discarded, opcode := 0, flags := 2,
                             count := x.okCount, start := x.startOf x.period }
      let s := s.setQueue q { x with st := .stopped, halt := false, packets := [], active := false, dropped := false,
                                     reserved := if x.prec then x.reserved - 1 else x.reserved }
      if x.prec then s.cqPut q period true else s
    else s.setQueue q { x with st := .stopped, halt := false, packets := [], head := head }
  else s

/-- A period ends when every packet of its list has completed or been skipped (R244). Its record's START is S_k
(DEDUCED, log 67: R248 gives START of a packet, and the period starts at S_k). -/
def State.periodCheck (s : State) (q : Nat) : State :=
  let x := s.queue q
  if x.periodic && x.active && x.st = .running && !x.halt && x.packets.length = x.list.2 &&
      x.packets.all (fun p => p.2.st.over) then
    let st := if x.dropped then Stat.droppedLate else x.pstatus
    let r : CRec := { index := x.period % 2 ^ 32, tag := 0, status := st, opcode := 0, flags := 2, count := x.okCount,
                      start := x.startOf x.period }
    let s := s.setQueue q { x with active := false, packets := [], dropped := false, opened := [], skipOwner := none,
                                   skipped := 0, reserved := if x.prec then x.reserved - 1 else x.reserved }
    if x.prec then s.cqPut q r (st ≠ Stat.ok) else s
  else s

/-- Whether a CLOSE_REQUEST ends the queue's skip mode: it follows the dropped packet (R246). -/
def Queue.endsSkip (x : Queue) (n : Nat) : Bool :=
  x.skip && (match x.skipOwner with | some m => x.place m < x.place n | none => true)

/-- A packet completes with a status: fault record, completion record, interrupt, counters, HEAD, its request, the
period (R226, R240, R248 to R252). One that stops the queue ends its fetching before the record is written, and leaves HEAD
and the period to the queue's stop. -/
def State.completeCore (s : State) (q n st : Nat) (stops : Bool) : State :=
  let x := s.queue q
  match x.packets.look n with
  | none => s
  | some p =>
    let part := s.qPart q
    let ran := p.st = .started
    let s := if stopping st then (s.packetRec q n st x p).count (Reg.strFailed part) 1
             else if st = Stat.droppedLate then s.count (Reg.strDropped part) 1 else s
    let ends := pOpcode p.raw = 0x41 && st = Stat.ok && x.endsSkip n
    let owner := x.skipOwner = some n
    let flags := 4 * bit p.glint + 8 * bit (owner || ends)
    let r : CRec := { index := x.index n, tag := pTag p.raw, status := st, opcode := pOpcode p.raw, flags := flags,
                      count := if owner || ends then x.skipped else 0, start := if ran then p.start else 0 }
    let write := st ≠ Stat.ok || pCr p.raw || ends
    let p' := { p with st := if st = Stat.ok then .ok else .failed, status := st, waitSince := none }
    let s := s.setQueue q
      { x with packets := Tab.put x.packets n p', reserved := if ran then x.reserved - 1 else x.reserved,
               halt := x.halt || stops, skip := x.skip && !ends, skipOwner := if owner then none else x.skipOwner,
               skipped := if (owner && !x.periodic) || ends then 0 else x.skipped,
               okCount := if st = Stat.ok then x.okCount + 1 else x.okCount }
    let s := if write then s.cqPut q r (pIrq p.raw || st ≠ Stat.ok) else s
    let s := match p.launch with | some i => { s with launches := Tab.del s.launches i } | none => s
    let s := s.forget q n
    let s := match p.slot with | some r => s.unattribute r | none => s
    let x := s.queue q
    if stops then s
    else ((s.setQueue q (x.advance x.packets.length)).periodCheck q).quiesce q

/-! ### Stopping engines (R245, R252, R261) -/

/-- A lap stops on all its cores at once; commands issued retire (R71, R96). The abort of its context drops the coach cores'
reservations (R164). -/
def State.stopLap (s : State) (i status : Nat) : State :=
  match s.launch i with
  | none => s
  | some l =>
    let s := s.setLaunch i { l with status := if l.status = 0 then status else l.status, stops := l.stops ++ [(1000, status)] }
    l.place.foldl (fun s c =>
      match (s.core c).lap with
      | some lap =>
        if lap.launch = i then
          let s := s.lapStop c (2 ^ 64) (LapFault.of status 0 0 0) false
          if status = Stat.aborted then s.dropCoachResv c else s
        else s
      | none => s) s

/-- Bytes a COPY or FILL moves before it ends: for one stopped, a free number of 4 KiB pieces (R236). -/
def Packet.length (p : Packet) : Nat := pAt p.raw 48 8

/-- The use ends: its parts are forgotten. -/
def Handle.close (h : Handle) (next : Nat) : Handle :=
  { h with epoch := next, since := none, packet := none, contrib := h.contrib.filter (fun c => c.2.1 != h.epoch) }

/-- A collective's use on this module is given up: none of its flits is sent any more, the epoch stays. -/
def State.cutColl (s : State) (hd : Nat) : State :=
  let s := (List.range 64).foldl (fun s m => s.cutMsg m (2 ^ 32 + hd)) s
  let h := s.handle hd
  s.setHandle hd (h.close h.epoch)

/-- Stop a started, incomplete packet as R245 stops engines; it completes with the status once its engine is done. -/
def State.stopPacket (s : State) (q n status : Nat) : State :=
  let x := s.queue q
  match x.packets.look n with
  | none => s
  | some p =>
    if p.st ≠ .started || p.status ≠ 0 then s
    else
      let s := s.setQueue q { x with packets := Tab.put x.packets n { p with status := status } }
      match pOpcode p.raw with
      | 0x10 => (match p.launch with | some i => s.endKernel i status | none => s)
      | 0x11 => (match p.launch with | some i => s.stopLap i status | none => s)
      | 0x50 =>
        if mKind p.raw = 3 then s.cutColl (mHandle p.raw)
        else (match p.msg with | some m => s.cutMsg m.1 m.2 | none => s)
      | _ => s

/-- Stop every started packet of a queue but one. -/
def State.stopOthers (s : State) (q : Nat) (but : Option Nat) (status : Nat) : State :=
  ((s.queue q).packets.filter (fun p => p.2.st = .started && some p.1 ≠ but)).foldl
    (fun s p => s.stopPacket q p.1 status) s

/-- A stopping status on a RUNNING queue: fetching stops, the other started packets are stopped as DISCARDED, and the
queue moves to STOPPED once they have completed (R252). -/
def State.stopQueue (s : State) (q n : Nat) : State :=
  let s := (s.stopOthers q (some n) Stat.discarded).endWaits q
  let x := s.queue q
  (s.setQueue q { x with packets := x.packets.filter (fun p => p.2.st != .decoded) }).quiesce q

/-! ### Abort of a context (R261) -/

/-- The queues of a context that are not DISABLED. -/
def State.queuesOf (s : State) (c : Nat) : List Nat :=
  (s.queues.filter (fun q => q.2.st != .disabled && q.2.context = c && s.partOf .queue q.1 = s.partOf .ctx c)).map Prod.fst

/-- Condition 4. -/
def State.cond4 (s : State) (q : Queue) : Bool := q.inFlight < 32 && s.inFlight < 16384

/-- The packet of a queue that waits on a fence or baton: the next unstarted one, for which conditions 1 to 4 of R231 hold
and condition 5 does not. -/
def State.waiter (s : State) (q : Nat) : Option (Nat × Packet) :=
  let x := s.queue q
  match x.nextStart with
  | some (n, p) => if x.cond123 n p && s.cond4 x && p.dstat = 0 && !x.free5 p && !s.waitsMet p.raw then some (n, p) else none
  | none => none

/-- One queue of an aborted context: started packets stop with ABORTED, the waiting packet completes ABORTED, its record
written only where there is room, the rest is dropped without records; the queue drains (R253, R261 steps 1 and 2). -/
def State.abortQueue (s : State) (q : Nat) : State :=
  let waiting := s.waiter q
  let s := (s.stopOthers q none Stat.aborted).endWaits q
  let x := s.queue q
  let s := s.setQueue q { x with st := .draining, packets := x.packets.filter (fun p => p.2.st = .started), halt := false,
                                 active := false, skip := false, skipOwner := none }
  match waiting with
  | some (n, p) =>
    if x.room && x.owed.isEmpty then
      s.cqWrite q { index := x.index n, tag := pTag p.raw, status := Stat.aborted, opcode := pOpcode p.raw, flags := 0,
                    count := 0, start := 0 } true
    else s
  | none => s

/-- Begin the forced abort of a context: steps 1 and 2 of R261. -/
def State.abortContext (s : State) (c : Nat) (escalated : Bool) : State :=
  let k := s.ctx c
  if k.st ≠ .live then s
  else
    let qs := s.queuesOf c
    let started := (qs.map (fun q => (s.queue q).inFlight)).sum
    let waiting := (qs.filter (fun q => (s.waiter q).isSome)).length
    let s := s.setCtx c { k with st := .aborting, since := s.time, escalated := escalated, aborted := started + waiting,
                                 orphaned := 0, freeing := 0, byCmd := false, scanned := false }
    qs.foldl (fun s q => s.abortQueue q) s

/-- The rest of the forced abort once nothing of the context's queues is in flight (R261 steps 4 to 8): its fences take
ERROR, its batons become FREE, the requests its queues are attached to are detached, its memory objects are FREEING, its
queues DISABLED. -/
def State.abortFinish (s : State) (c : Nat) : State :=
  let part := (s.partOf .ctx c).getD 0
  let qs := s.queuesOf c
  let slots := qs.filterMap (fun q => (s.queue q).cur)
  let fences := (s.fences.filter (fun f => f.2.st = 1 && f.2.owner = c && s.partOf .fence f.1 = some part)).map Prod.fst
  let s := fences.foldl (fun s f =>
    let s := (s.fenceApply f 2 0 (moduleActor part)).1
    s.setFence f { s.fence f with st := 2 }) s
  let batons := (s.batons.filter (fun b => b.2.live && b.2.owner = c && s.partOf .baton b.1 = some part)).map Prod.fst
  let s := batons.foldl (fun s b => s.batonFree b) s
  let s := (s.queues.filter (fun q => match q.2.cur with | some r => slots.contains r | none => false)).foldl
    (fun s q => s.detach q.1 false true) s
  let objs := (s.mobjs.filter (fun m => m.2.st = 1 && m.2.owner = c && s.partOf .mobj m.1 = some part)).map Prod.fst
  let s := objs.foldl (fun s m => s.setMobj m { s.mobj m with st := 2, stamp := Tab.get 0 s.enq part, zero := false,
                                                              fv := false }) s
  let s := qs.foldl (fun s q => s.setQueue q { s.queue q with st := .disabled, packets := [], halt := false, active := false }) s
  s.setCtx c { s.ctx c with orphaned := fences.length, freeing := objs.length }

/-- Count a stopping packet against its context, and abort the context that reaches CTX_FAULT_LIMIT within 1 s (R392). -/
def State.escalate (s : State) (c : Nat) : State :=
  let limit := s.entry 0x2210 3
  if limit = 0 then s
  else
    let k := s.ctx c
    let l := k.faults.filter (fun t => s.since t < 1000000000) ++ [s.time]
    let s := s.setCtx c { k with faults := l }
    if limit ≤ l.length then s.abortContext c true else s

/-- A packet completes; a stopping status stops its queue and counts against its context. -/
def State.completePacket (s : State) (q n st : Nat) : State :=
  let x := s.queue q
  let stops := stopping st && x.st = .running && !x.halt && (x.packets.look n).isSome
  let s := s.completeCore q n st stops
  let s := if stops then s.stopQueue q n else s
  if stopping st then s.escalate x.context else s

/-! ### Waiting packets -/

/-- A packet whose turn it is: it begins to wait where its waits are not met, notes when they are, and waits again where
another has taken what it waited for; the time between does not count as waiting. -/
def Packet.look (p : Packet) (now : Nat) (met : Bool) : Packet :=
  match p.waitSince, p.metAt with
  | none, _ => if met then p else { p with waitSince := some now, metAt := none, metBy := none }
  | some _, none => if met then { p with metAt := some now } else p
  | some t, some m =>
    if met then p else { p with waitSince := some (wrap64 (t + (now + 2 ^ 64 - m % 2 ^ 64) % 2 ^ 64)), metAt := none, metBy := none }

/-- What is due on a queue's next unstarted packet: completing it with decode's status or with the status that ends its
waits, or noting that it waits. -/
def State.settleQueue (s : State) (q : Nat) : State :=
  let x := s.queue q
  match x.nextStart with
  | none => s
  | some (n, p) =>
    if !x.cond123 n p then s
    else if p.dstat ≠ 0 then
      (if x.room then (s.endPacketWait q p 3).completePacket q n p.dstat else s)
    else if x.free5 p then s
    else
      let st := s.waitStatus (s.qPart q) p.raw
      if st ≠ Stat.ok && (st = Stat.foreign || s.cond4 x) then
        let foreign := (batonWaits p.raw).any (fun b => s.batonCheck (s.qPart q) b none = Stat.foreign)
        let s := if st = Stat.foreign && foreign then s.countForeign (s.qPart q) else s
        (s.endPacketWait q p 1).completePacket q n st
      else if !s.cond4 x then s
      else
        let p' := p.look s.time (s.waitsMet p.raw)
        if p' = p then s else s.setQueue q { x with packets := Tab.put x.packets n p' }

/-- Everything that is due on waiting packets. Fuel: the number of packets, each of which completes at most once. -/
def State.settleN (s : State) : Nat → State
  | 0 => s
  | n + 1 => ((Tab.keys s.queues).foldl (fun s q => s.settleQueue q) s).settleN n

def State.settle (s : State) : State := s.settleN ((s.queues.map (fun q => q.2.packets.length)).sum + 1)

/-! ### Drops (R245, R246) -/

/-- A packet that is not yet started is dropped late: it completes with DROPPED_LATE as its place in the queue comes. -/
def Packet.drop (p : Packet) : Packet := { p with dstat := Stat.droppedLate }

/-- A packet is skipped. -/
def Packet.skip (p : Packet) : Packet := { p with st := .skipped, waitSince := none }

/-- Skip mode reaches the packets after the dropped one, up to the next CLOSE_REQUEST (R246). -/
def State.skipAfter (s : State) (q n : Nat) : State :=
  let later := (s.queue q).inOrder.filter (fun p => (s.queue q).place n < (s.queue q).place p.1)
  let reach := later.takeWhile (fun p => !(pOpcode p.2.raw = 0x41 && !p.2.st.over))
  reach.foldl (fun s p =>
    let x := s.queue q
    if pFinally p.2.raw then s
    else if p.2.st = .decoded then
      ((s.endPacketWait q p.2 3).setQueue q { x with packets := Tab.put x.packets p.1 p.2.skip, skipped := x.skipped + 1 }).count
        (Reg.strDropped (s.qPart q)) 1
    else s.stopPacket q p.1 Stat.droppedLate) s

/-- A packet of a non-periodic queue is dropped late (R246). A queue that is in skip mode already stays in it for the
packet dropped first, whose record and whose CLOSE_REQUEST's carry the counts (DEDUCED, log 83). -/
def State.lateDrop (s : State) (q n : Nat) : State :=
  let x := s.queue q
  match x.packets.look n with
  | none => s
  | some p =>
    let s := if p.st = .started then s.stopPacket q n Stat.droppedLate
             else (s.endPacketWait q p 3).setQueue q
               { (s.endPacketWait q p 3).queue q with packets := Tab.put x.packets n { p.drop with waitSince := none } }
    if x.skip || (x.cur.isNone && pOpcode p.raw != 0x40) then s
    else
      let s := s.dropCurrent q
      let s := s.setQueue q { s.queue q with skip := true, skipOwner := some n, skipped := 0 }
      s.skipAfter q n

/-- Whether skip mode skips a packet that is decoded now: it is not FINALLY, not a CLOSE_REQUEST, and no CLOSE_REQUEST
that ends the skip stands before it. -/
def Queue.skips (x : Queue) (raw : BitVec 512) : Bool :=
  let closing := x.packets.any (fun p => pOpcode p.2.raw = 0x41 && !p.2.st.over && x.endsSkip p.1)
  x.skip && !pFinally raw && pOpcode raw != 0x41 && !closing

/-- A new stamp of the partition (R265). -/
def State.newStamp (s : State) (p : Nat) : State × Nat :=
  let n := wrap64 (Tab.get 0 s.enq p + 1)
  ({ s with enq := Tab.set 0 s.enq p n }, n)

/-! ### Periods (R244) -/

/-- The first period whose start is later than a time. -/
def Queue.firstAfter (q : Queue) (t : Nat) : Nat := if t < q.start then 0 else (t - q.start) / max q.periodNs 1 + 1

/-- Starts that have passed unrun are missed, and the next period is the first to come. -/
def State.missTo (s : State) (q : Nat) : State :=
  let x := s.queue q
  let k := x.firstAfter s.time
  (s.setQueue q { x with next := k }).count (Reg.strPeriodMiss (s.qPart q)) (k - x.next)

/-- Device time was set from `old` to its present value: skipped starts are missed, and the next start of every
periodic queue is the next S_k (R244, R253). -/
def State.timeSet (s : State) (old : Nat) : State :=
  (s.queues.filter (fun q => q.2.periodic && q.2.st != .disabled)).foldl (fun s q =>
    if old < s.time then s.missTo q.1
    else s.setQueue q.1 { s.queue q.1 with next := q.2.firstAfter s.time }) s

end Sys2Proof.Machine
end

