-- ==== Sys2Proof/Machine/Collective.lean ====
section
/-! DEFINITION. Relay reduction: members, pieces, sums and the course of one use of a collective
(13_cartal_links.md: R335, R336, R338). -/

namespace Sys2Proof.Machine

/-- Fields of a collective's registration (R329). -/
def Handle.collType (h : Handle) : Nat := fld (nth 0 h.data 1) 32 2
def Handle.shape (h : Handle) : Nat := fld (nth 0 h.data 1) 36 2
def Handle.members (h : Handle) : Nat := nth 0 h.data 3

/-- Index of a module in the first traversal: its seat, or its octet for COLUMN. -/
def memberIdx (shape m : Nat) : Nat := if shape = 1 then m / 8 else m % 8

/-- The modules of the first traversal of module `own`: its octet, or its seat for COLUMN. -/
def firstRound (shape own : Nat) : List Nat :=
  (List.range 8).map (fun i => if shape = 1 then 8 * i + own % 8 else own / 8 * 8 + i)

/-- The modules of the second traversal of a GROUP: the same seat of every octet. -/
def secondRound (own : Nat) : List Nat := (List.range 8).map (fun o => 8 * o + own % 8)

/-- Members among the listed modules. -/
def Handle.present (h : Handle) (l : List Nat) : List Nat := l.filter (bitOf h.members)

/-- The rounds that sum a piece first: the own one, or for a GROUP that of every octet that holds members. -/
def Handle.rounds (h : Handle) (own : Nat) : List (List Nat) :=
  if h.shape = 2 then ((List.range 8).map (fun o => firstRound 0 (8 * o))).filter (fun l => !(h.present l).isEmpty)
  else [firstRound h.shape own]

/-- The pieces without an owner: by index, those whose owner some round lacks. No module sums such a piece for the others: every
member sends its part of it to every other, and each computes the sum R336 defines itself (DESIGN CHOICE, log 30). -/
def Handle.orphans (h : Handle) (own : Nat) : List Nat :=
  (List.range 8).filter (fun i => (h.rounds own).any (fun l => !bitOf h.members (nth 0 l i)))

/-- How many of the messages `m` sends `own` in a use stand before those of sums: its part of the own piece, where it is of the own
round and the piece has its owners, then its parts of the pieces without an owner. -/
def Handle.lead (h : Handle) (own m : Nat) : Nat :=
  bit ((firstRound h.shape own).contains m && !(h.orphans own).contains (memberIdx h.shape own)) + (h.orphans own).length

/-- Bytes of an element, and of a piece. -/
def elemBytes (ty : Nat) : Nat := if ty = 1 then 2 else 4
def Handle.piece (h : Handle) : Nat := h.collLen / 8

/-- The elements of `w` bytes of a list of bytes. -/
def elemsOf (w : Nat) (b : List Byte) : List Nat := unpackNat (8 * w) (b.length / w) (leNat b)

/-- Bytes of elements of `w` bytes. -/
def elemsTo (w : Nat) (l : List Nat) : List Byte := leBytes (w * l.length) (packNat (8 * w) l)

/-- A contribution's elements as the adders hold them: FP32, BF16 widened exactly to FP32, or a wide integer of 64
bits (R336). -/
def widen (ty : Nat) (b : List Byte) : List Nat :=
  (elemsOf (elemBytes ty) b).map (fun e =>
    if ty = 0 then e else if ty = 1 then e * 2 ^ 16 else wrapInt 64 (sx 32 e))

/-- One level of the tree of sum8 on the leaves of an element. -/
def sum8Level (ty : Nat) : List (Option Nat) → List (Option Nat)
  | a :: b :: rest =>
    (match a, b with
     | none, y => y
     | x, none => x
     | some x, some y => some (if ty = 2 then (x + y) % 2 ^ 64 else addRne x y)) :: sum8Level ty rest
  | l => l

/-- sum8 of eight leaves. -/
def sum8 (ty : Nat) (leaves : List (Option Nat)) : Nat :=
  ((sum8Level ty (sum8Level ty (sum8Level ty leaves))).headD none).getD 0

/-- sum8 element by element of eight vectors of which some are absent. -/
def sumVectors (ty n : Nat) (l : List (Option (List Nat))) : List Nat :=
  (List.range n).map (fun e => sum8 ty (l.map (fun v => v.map (fun x => nth 0 x e))))

/-- A sum as the result holds it: BF16 rounded to nearest even, INT32 clamped. -/
def narrow (ty x : Nat) : Nat :=
  if ty = 0 then x
  else if ty = 1 then (convertTo .bf16 .rne (ofF32 x)).1
  else wrapInt 32 (max (-(2 ^ 31 : Int)) (min (2 ^ 31 - 1) (sx 64 x)))

/-- Partial sums of a GROUP travel as FP32 or 64-bit integers (DESIGN CHOICE, log 30). -/
def wideBytes (ty : Nat) : Nat := if ty = 2 then 8 else 4

/-- The messages received from a module for an epoch, in arrival order. -/
def Handle.got (h : Handle) (m epoch : Nat) : List (List Byte) :=
  (h.contrib.filter (fun c => c.1 = m && c.2.1 = epoch)).map (fun c => c.2.2)

/-- Keep a message, or this module's own part, of an epoch. -/
def Handle.keep (h : Handle) (m epoch : Nat) (b : List Byte) : Handle := { h with contrib := h.contrib ++ [(m, epoch, b)] }

/-- Send a piece or sum to every listed member but this one. -/
def State.sendPieces (s : State) (hd epoch : Nat) (to' : List Nat) (piece : Nat → List Byte) : State :=
  let h := s.handle hd
  to'.foldl (fun s m =>
    if m = s.links.coord then s
    else s.sendMsg { SentMsg.mk0 m 3 h.part with handle := hd, param := epoch, data := piece m }) s

/-- The sum of this module's piece after the first traversal, once every contribution has come; a piece without an owner has
none. -/
def Handle.firstSum (h : Handle) (own : Nat) : Option (List Nat) :=
  let round := firstRound h.shape own
  if (h.orphans own).contains (memberIdx h.shape own) then none
  else if (h.present round).all (fun m => 1 ≤ (h.got m h.epoch).length) then
    some (sumVectors h.collType (h.piece / elemBytes h.collType)
      (round.map (fun m => (h.got m h.epoch).head?.map (widen h.collType))))
  else none

/-- The total of a GROUP's piece after the second traversal, once every octet's sum has come. -/
def Handle.secondSum (h : Handle) (own : Nat) : Option (List Nat) :=
  let round := secondRound own
  let sumOf (m : Nat) : Option (List Byte) := (h.got m h.epoch)[h.lead own m]?
  if (h.present round).all (fun m => (sumOf m).isSome) then
    some (sumVectors h.collType (h.piece / elemBytes h.collType)
      (round.map (fun m => (sumOf m).map (elemsOf (wideBytes h.collType)))))
  else none

/-- The part of the `j`-th piece without an owner that a member has sent. -/
def Handle.orphanPart (h : Handle) (own j m : Nat) : Option (List Byte) :=
  (h.got m h.epoch)[h.lead own m - (h.orphans own).length + j]?

/-- The sum of the `j`-th piece without an owner, once every member's part has come: over the octets of the sums over their seats
for a GROUP, else over the round. -/
def Handle.orphanSum (h : Handle) (own j : Nat) : Option (List Byte) :=
  let n := h.piece / elemBytes h.collType
  let rounds := h.rounds own
  let part (m : Nat) : Option (List Nat) := if bitOf h.members m then (h.orphanPart own j m).map (widen h.collType) else none
  if (rounds.flatMap h.present).all (fun m => (h.orphanPart own j m).isSome) then
    let sums := rounds.map (fun l => sumVectors h.collType n (l.map part))
    let total :=
      if h.shape = 2 then
        sumVectors h.collType n ((List.range 8).map (fun o =>
          ((rounds.zip sums).find? (fun r => nth 0 r.1 0 / 8 = o)).map Prod.snd))
      else nth [] sums 0
    some (elemsTo (elemBytes h.collType) (total.map (narrow h.collType)))
  else none

/-- Go on with the collective's current use as far as what has come allows (R335, R336). -/
def State.collGo (s : State) (hd : Nat) : State :=
  let own := s.links.coord
  let fin (s : State) (l : List Nat) : State :=
    let h := s.handle hd
    let b := elemsTo (elemBytes h.collType) (l.map (narrow h.collType))
    (s.setHandle hd (h.keep own h.epoch b)).sendPieces hd h.epoch (h.present (firstRound h.shape own)) (fun _ => b)
  let h := s.handle hd
  if h.packet.isNone then s
  else
    let s :=
      if (h.got own h.epoch).length = h.lead own own then
        match h.firstSum own with
        | some l =>
          if h.shape = 2 then
            let b := elemsTo (wideBytes h.collType) l
            (s.setHandle hd (h.keep own h.epoch b)).sendPieces hd h.epoch (h.present (secondRound own)) (fun _ => b)
          else fin s l
        | none => s
      else s
    let h := s.handle hd
    if h.shape = 2 && (h.got own h.epoch).length = h.lead own own + 1 then
      match h.secondSum own with
      | some l => fin s l
      | none => s
    else s

/-- The final pieces, by index, once all have come. -/
def Handle.result (h : Handle) (own : Nat) : Option (List (List Byte)) :=
  let orphans := h.orphans own
  let pieceOf (i : Nat) : Option (List Byte) :=
    match orphans.findIdx? (fun o => o = i) with
    | some j => h.orphanSum own j
    | none =>
      let m := nth 0 (firstRound h.shape own) i
      (h.got m h.epoch)[h.lead own m + bit (m = own && h.shape = 2)]?
  let pieces := (List.range 8).map pieceOf
  if h.packet.isSome && pieces.all Option.isSome then some (pieces.filterMap id) else none

/-- `n` bytes that nothing constrains. -/
def State.freeBytes (s : State) (n : Nat) : List Byte :=
  (List.range n).map (fun i => BitVec.ofNat 8 ((Config.free (s.freeCtr + i / 8)).toNat / 2 ^ (8 * (i % 8))))

/-- Write bytes in a context's space for an agent, page by page; stops at the first page that does not translate, with
the bytes written below it. -/
def State.writeAll (s : State) (agent p ctx va : Nat) (bytes : List Byte) : State × Nat × Option (Nat × Nat) :=
  (pagesOf va bytes.length).foldl (fun (r : State × Nat × Option (Nat × Nat)) part =>
    match r with
    | (s, n, some f) => (s, n, some f)
    | (s, n, none) =>
      match s.writePart agent p ctx part.1 ((bytes.drop n).take part.2) with
      | .inl t => (t, n + part.2, none)
      | .inr reason => (s, n, some (reason, part.1))) (s, 0, none)

/-- Context and result address of a collective. -/
def Handle.ctx (h : Handle) : Nat := if h.kind = 1 then fld (nth 0 h.data 1) 16 12 else fld (nth 0 h.data 1) 48 12
def Handle.base (h : Handle) : Nat := fld (nth 0 h.data 0) 0 48

/-- Record a reason on a started packet and complete it with LINK_ERROR. -/
def State.linkError (s : State) (q n reason : Nat) : State :=
  let x := s.queue q
  match x.packets.look n with
  | some p =>
    if p.st = .started then
      let st := if p.status = 0 then Stat.linkError else p.status
      (s.setQueue q { x with packets := Tab.put x.packets n { p with reason := reason } }).completePacket q n st
    else s
  | none => s

/-- The collective fails on this member: its REDUCE packet completes with LINK_ERROR, the result area holds free
values, the epoch stays (R338). -/
def State.collFail (s : State) (hd reason : Nat) : State :=
  let h := s.handle hd
  match h.packet with
  | none => s
  | some (q, n) =>
    let b := s.freeBytes h.collLen
    let s := s.useFree (h.collLen / 8)
    let s := (s.writeAll 20 h.part h.ctx h.base b).1
    (s.cutColl hd).linkError q n reason

/-- A member's REDUCE packet starts: its pieces go to their owners, its own piece waits for the others' (R336). -/
def State.collStart (s : State) (hd q n epoch : Nat) (data : List Byte) : State :=
  let h := s.handle hd
  let own := s.links.coord
  if h.packet.isSome || epoch ≠ h.epoch then s.linkError q n 6
  else
    let cut (i : Nat) : List Byte := (data.drop (i * h.piece)).take h.piece
    let orphans := h.orphans own
    let h := { h with since := some s.time, packet := some (q, n) }
    let h := if orphans.contains (memberIdx h.shape own) then h else h.keep own epoch (cut (memberIdx h.shape own))
    let h := orphans.foldl (fun h i => h.keep own epoch (cut i)) h
    let s := s.setHandle hd h
    if (h.present (List.range 64)).any (fun m => m ≠ own && s.unreachable m) then s.collFail hd 1
    else
      let owners := (h.present (firstRound h.shape own)).filter (fun m => !orphans.contains (memberIdx h.shape m))
      let s := s.sendPieces hd epoch owners (fun m => cut (memberIdx h.shape m))
      (orphans.foldl (fun s i => s.sendPieces hd epoch (h.present (List.range 64)) (fun _ => cut i)) s).collGo hd

end Sys2Proof.Machine
end

