-- ==== Sys2Proof/Machine/Starter.lean ====
section
/-! DEFINITION. The Starter's commands: queue commands and doorbells, packet decode, scheduling and the start of every
opcode, completion, deadlines and periods (10_starter.md). -/

namespace Sys2Proof.Machine

/-! ### Registers of a partition (R12, R254) -/

/-- Whether BAR0 answers: from the release of PCIe enumeration until the module is off (R377, R386, R389). -/
def State.barOn (s : State) : Bool := 7 ≤ s.boot.start && s.boot.start ≤ 10 && !s.boot.off

/-- Whether the Starter fetches and starts packets: a power-down has stopped it and lets only started ones run (R389). -/
def State.fetching (s : State) : Bool := !s.boot.off && s.boot.start = 7

/-- Whether a request to a BAR of a function (0 to 2: BAR0, BAR2, BAR4) lies in a programmed IDE stream, where the function
requires one (R431). -/
def State.ideOk (s : State) (fn bar : Nat) : Bool :=
  !bitOf (s.reg Reg.hifIdeReq) fn || s.pcie.ide.any (fun t => bitOf t.2 (3 * fn + bar))

/-- A posted request of the host to a BAR: dropped where the function is not there or in D3hot, dropped and counted where it
arrives outside the stream the function requires (R420, R431). -/
def State.posted (s : State) (fn bar : Nat) (f : State → State) : State :=
  if !s.fnOn fn || !s.barOn then s
  else if !s.ideOk fn bar then s.count Reg.hifIdeRefused 1
  else if (s.pfn fn).d3 then s
  else f s

/-- A register command by function `fn`: ignored and counted when the function may not make it. -/
def State.byFn (s : State) (fn : Nat) (may : Bool) (f : State → State) : Res :=
  onUnit (fn ≤ 8) <| .next (s.posted fn 0 (fun s => if may then f s else s.count Reg.dbgBadWrite 1))

/-- A register command of partition `p`. -/
def State.byOwner (s : State) (fn p : Nat) (f : State → State) : Res := onUnit (p < 8) <| s.byFn fn (actsFor fn p) f

/-- Whether a function may act for a core: its partition's, or the physical function (R12). -/
def State.actsForCore (s : State) (fn c : Nat) : Bool :=
  match s.partOfCore c with
  | some p => actsFor fn p
  | none => fn = 0

/-- Results of STR_Q_STATUS. -/
def QRes.ok := 0
def QRes.range := 1
def QRes.badQdesc := 2
def QRes.state := 3

def QRes.busyIgnored := 4

/-- Set the result of a queue command; BUSY shows until the command is seen done. -/
def State.qResult (s : State) (p r : Nat) : State := (s.setReg (Reg.strQStatus p) (2 * r)).markBusy (Reg.strQStatus p)

/-- What a queue command does to its queue: the state and the result. -/
abbrev QOp := State → Nat → Nat → State × Nat

/-- A queue command on the queue STR_Q_SEL names, which must lie in the partition's range; a stopped Starter does
nothing (R197, R386). -/
def State.queueDo (s : State) (p : Nat) (f : QOp) : State :=
  let q := s.reg (Reg.strQSel p)
  if !s.alive then s
  else
    let b := s.stillBusy (Reg.strQStatus p)
    let s := b.1
    if b.2 then s.setReg (Reg.strQStatus p) (2 * QRes.busyIgnored)
    else if s.inRange p .queue q then
      let r := f s p q
      (r.1.settle).qResult p r.2
    else s.qResult p QRes.range

/-- A queue command by a function. -/
def State.queueCmd (s : State) (fn p : Nat) (f : QOp) : Res := s.byOwner fn p (fun s => s.queueDo p f)

/-- QUEUE_READ: the descriptor into STR_Q_DATA0–7. -/
def queueRead : QOp := fun s p q =>
  ((List.range 8).foldl (fun s i => s.setReg (Reg.strQData p i) (pAt (s.queue q).desc (8 * i) 8)) s, QRes.ok)

/-- QUEUE_READ. -/
def execQueueRead (fn p : Nat) (s : State) : Res := s.queueCmd fn p queueRead

/-- QUEUE_WRITE: the descriptor of a DISABLED queue is replaced. -/
def queueWrite : QOp := fun s p q =>
  let x := s.queue q
  if x.st ≠ .disabled then (s, QRes.state)
  else
    let d := (List.range 8).foldl (fun d i => d + s.reg (Reg.strQData p i) * 2 ^ (64 * i)) 0
    let x := { x with desc := BitVec.ofNat 512 d }
    (s.setQueue q { x with next := x.firstAfter s.time }, QRes.ok)

/-- QUEUE_WRITE. -/
def execQueueWrite (fn p : Nat) (s : State) : Res := s.queueCmd fn p queueWrite

/-- Whether ENABLE accepts a descriptor (R225, R226). -/
def State.qdescOk (s : State) (p : Nat) (x : Queue) : Bool :=
  let d := x.desc
  addrOk x.ringBase 4096 && addrOk x.cqBase 4096 && 4 ≤ x.ringLog && x.ringLog ≤ 16 && 4 ≤ x.cqLog && x.cqLog ≤ 16 &&
  pAt d 18 1 < 4 && 1 ≤ x.weight && pAt d 20 2 < 4096 && pAt d 22 2 < 2048 && pAt d 24 4 < 4 && pAt d 48 16 = 0 &&
  (if x.periodic then
     10000 ≤ x.periodNs && x.periodNs ≤ 1000000000 && 1000 ≤ x.deadlineNs && x.deadlineNs ≤ x.periodNs
   else x.periodNs = 0 && x.deadlineNs = 0 && x.start = 0 && !x.prec) &&
  s.inRange p .ctx x.context && (s.ctx x.context).st = .live && x.vector < msixEntries (s.fnOf p)

/-- QUEUE_ENABLE: HEAD, TAIL and the completion count start at 0. -/
def queueEnable : QOp := fun s p q =>
  let x := s.queue q
  if x.st ≠ .disabled then (s, QRes.state)
  else if !s.qdescOk p x then (s, QRes.badQdesc)
  else
    let s := if x.periodic then s.missTo q else s
    (s.setQueue q { Queue.init with st := .running, desc := x.desc, next := (s.queue q).next }, QRes.ok)

/-- QUEUE_ENABLE. -/
def execQueueEnable (fn p : Nat) (s : State) : Res := s.queueCmd fn p queueEnable

/-- QUEUE_DISABLE: a RUNNING queue drains, a STOPPED one is DISABLED; the request is detached. -/
def queueDisable : QOp := fun s _ q =>
  let x := s.queue q
  match x.st with
  | .running =>
    let keep := x.packets.filter (fun k => k.2.st != .decoded)
    (((s.endWaits q).setQueue q { x with st := .draining, packets := keep, halt := false, active := false }).quiesce q, QRes.ok)
  | .stopped =>
    let s := s.detach q false true
    (s.setQueue q { s.queue q with st := .disabled }, QRes.ok)
  | _ => (s, QRes.state)

/-- QUEUE_DISABLE. -/
def execQueueDisable (fn p : Nat) (s : State) : Res := s.queueCmd fn p queueDisable

/-- QUEUE_RESUME: fetching restarts at HEAD; unstarted packets take a new stamp, a periodic queue its next period
start (R244, R252, R265). -/
def queueResume : QOp := fun s p q =>
  if (s.queue q).st ≠ .stopped then (s, QRes.state)
  else
    let s := if (s.queue q).periodic then s.missTo q else s
    let r := s.newStamp p
    let x := r.1.queue q
    (r.1.setQueue q { x with st := .running, cqLost := false, stamps := [(x.tail, r.2)] }, QRes.ok)

/-- QUEUE_RESUME. -/
def execQueueResume (fn p : Nat) (s : State) : Res := s.queueCmd fn p queueResume

/-- The value written to STR_Q_CMD. -/
def State.queueWriteCmd (s : State) (p v : Nat) : State :=
  match v % 8 with
  | 1 => s.queueDo p queueRead
  | 2 => s.queueDo p queueWrite
  | 3 => s.queueDo p queueEnable
  | 4 => s.queueDo p queueDisable
  | 5 => s.queueDo p queueResume
  | _ => s

/-- Whether nothing of a core's lap remains: every command complete with the address program's last run and marker, or
stopped with nothing in flight (R96, R97). -/
def State.lapOver (s : State) (c : Nat) : Bool :=
  let k := s.core c
  match k.lap with
  | none => true
  | some l =>
    match s.launch l.launch with
    | none => true
    | some x =>
      if x.complete then true
      else if x.status ≠ 0 then k.array.issued.isEmpty && l.feeding.isEmpty
      else x.loaded && l.replays * l.cmds.length ≤ l.oldest && l.replays ≤ l.returned && l.replays ≤ l.popped

/-! ### Scheduling (R242, R243) -/

/-- A candidate of a pass: queue, packet count, packet. -/
structure Cand where
  q : Nat
  n : Nat
  p : Packet
  deriving DecidableEq, Repr

/-- Started packets of an opcode on the module. -/
def State.running (s : State) (f : Nat → Packet → Bool) : Nat :=
  (s.queues.map (fun q => (q.2.packets.filter (fun p => p.2.st = .started && f q.1 p.2)).length)).sum

/-- DMA engine `k` has a free slot (R236). -/
def State.dmaFree (s : State) (k : Nat) : Bool :=
  s.running (fun _ p => (pOpcode p.raw = 0x20 || pOpcode p.raw = 0x21) && p.dma = k) < 4

/-- The queues of partition `p`. -/
def State.partQueues (s : State) (p : Nat) : List (Nat × Queue) := s.queues.filter (fun q => s.partOf .queue q.1 = some p)


/-- Whether a packet is a launch, a copy or a fill, which the Starter holds while its partition is being cleared (R221). -/
def Packet.cleared (p : Packet) : Bool := [0x10, 0x11, 0x20, 0x21].contains (pOpcode p.raw)

/-- Conditions 1 to 5 of R231, with the hold of R221. -/
def State.ready (s : State) (q n : Nat) (p : Packet) : Bool :=
  let x := s.queue q
  x.cond123 n p && s.cond4 x && p.dstat = 0 && (!p.cleared || s.clearing (s.qPart q) = 0) &&
  (x.free5 p || (s.waitStatus (s.qPart q) p.raw = Stat.ok && s.waitsMet p.raw))

/-- Conditions 1 to 7 of R231. -/
def State.mayStart (s : State) (q n : Nat) (p : Packet) : Bool :=
  s.ready q n p && (s.queue q).room && ((s.queue q).free5 p || s.cond7 p)

/-- The candidates of a pass. -/
def State.candidates (s : State) (p : Nat) : List Cand :=
  (s.partQueues p).filterMap (fun q => match q.2.nextStart with
    | some (n, k) => if s.mayStart q.1 n k then some { q := q.1, n := n, p := k } else none
    | none => none)

/-- Whether a candidate comes before another. -/
def State.candBefore (s : State) (a b : Cand) : Bool :=
  let x := s.queue a.q
  let y := s.queue b.q
  if x.periodic != y.periodic then x.periodic
  else if x.periodic then
    let d := x.deadlineOf x.period
    let e := y.deadlineOf y.period
    d < e || (d = e && a.q < b.q)
  else x.prio < y.prio || (x.prio = y.prio && (x.vt < y.vt || (x.vt = y.vt && a.q < b.q)))

/-- Put a candidate in its place. -/
def State.candInsert (s : State) (c : Cand) : List Cand → List Cand
  | [] => [c]
  | d :: ds => if s.candBefore c d then c :: d :: ds else d :: s.candInsert c ds

/-- Resources: core c is c, DMA engine k is 1000 + k, the send slots of the partition are 2000. -/
def State.needOf (s : State) (p : Nat) (c : Cand) : List Nat :=
  match pOpcode c.p.raw with
  | 0x10 | 0x11 => if runsLaunch c.p.raw then c.p.place else []
  | 0x20 | 0x21 =>
    if dmaField c.p.raw = 0xFF then (setBits (s.pClusters p) 20).map (1000 + ·) else [1000 + dmaField c.p.raw]
  | 0x50 => [2000]
  | _ => []

/-- The DMA engine a copy or fill takes, and whether every resource a candidate needs is free and promised to none. An
any-engine packet takes the free slot of the lowest-numbered cluster not promised (R243). -/
def State.fits (s : State) (p : Nat) (held : List Nat) (c : Cand) : Option Nat :=
  let need := s.needOf p c
  let clear := need.all (fun r => !held.contains r)
  match pOpcode c.p.raw with
  | 0x10 => if clear && need.all (fun k => (s.core k).kernel.isNone) then some 0 else none
  | 0x11 => if clear && need.all (fun k => s.lapOver k) then some 0 else none
  | 0x20 | 0x21 => (need.find? (fun r => !held.contains r && s.dmaFree (r - 1000))).map (· - 1000)
  | 0x50 =>
    if clear && s.running (fun q k => pOpcode k.raw = 0x50 && s.partOf .queue q = some p) < 16 then some 0 else none
  | _ => some 0

/-- Whether the next packet of a queue waits only for room in its completion queue; for OPEN_REQUEST NEW, only for the
receipts awaiting signature (R254, R255). -/
def State.roomHeld (s : State) (q : Nat) : Bool :=
  match (s.queue q).nextStart with
  | some (n, k) =>
    s.ready q n k && !(s.queue q).room && ((s.queue q).free5 k || s.cond7 k) &&
      (s.fits (s.qPart q) [] { q := q, n := n, p := k }).isSome
  | none => false
def State.openHeld (s : State) (q : Nat) : Bool :=
  match (s.queue q).nextStart with
  | some (n, k) => s.ready q n k && (s.queue q).room && !(s.queue q).free5 k && !s.cond7 k
  | none => false

/-- Registers of the Starter whose cycles count now, for a partition's queues. -/
def State.heldRegs (s : State) (p : Nat) : List Nat :=
  let qs := (s.partQueues p).map Prod.fst
  (if qs.any s.roomHeld then [Reg.strCqFull p] else []) ++ (if qs.any s.openHeld then [Reg.strOpenHeld] else [])

/-- The cycles held so far are counted: a free number (DESIGN CHOICE, log 16). -/
def State.heldCycles (s : State) (p : Nat) : State := s.accrue (s.heldRegs p)

/-! ### Doorbells (R227, R228, R244, R265) -/

/-- A RING_OVERRUN: a record with index HEAD, and the queue stops (DEDUCED, log 29). -/
def State.ringOverrun (s : State) (q : Nat) : State :=
  let x := s.queue q
  let s := s.faultRec { kind := 1, status := Stat.ringOverrun, source := 4, part := s.qPart q, ptag := 0, queue := q,
                        ctx := x.context, body := [(24, 4, x.head)] }
  let r : CRec := { index := x.head, tag := 0, status := Stat.ringOverrun, opcode := 0, flags := 0, count := 0, start := 0 }
  (s.cqPut q r true).bareStop q

/-- A value written to a queue's STR_DB_TAIL. -/
def State.tailWrite (s : State) (q v : Nat) : State :=
  let x := s.queue q
  let p := s.qPart q
  let ignored := s.count (Reg.strDbIgnored p) 1
  if x.st = .disabled then ignored
  else if x.periodic then
    let len := v % 2 ^ 16
    let ofs := v / 2 ^ 16 % 2 ^ 16
    if 2 ^ x.ringLog < ofs + len then ignored
    else
      let r := s.newStamp p
      r.1.setQueue q { x with nextList := (ofs, len) }
  else
    let t := v % 2 ^ 32
    let far := (t + 2 ^ 32 - x.head) % 2 ^ 32
    let now := (x.tail + 2 ^ 32 - x.head) % 2 ^ 32
    if far ≤ 2 ^ x.ringLog && now ≤ far then
      if t = x.tail then s
      else
        let r := s.newStamp p
        r.1.setQueue q { x with tail := t, stamps := x.stamps ++ [(t, r.2)] }
    else s.ringOverrun q

/-- A doorbell register of a queue's BAR2 page: only the queue's partition or the physical function rings it. -/
def State.doorbell (s : State) (fn q : Nat) (f : State → State) : Res :=
  onUnit (q < 65536 && fn ≤ 8) <| .next (s.posted fn 1 fun s =>
    if !s.alive then s
    else match s.partOf .queue q with
      | some p => if actsFor fn p then (f s).settle else s.count Reg.dbgBadDoorbell 1
      | none => s.count Reg.dbgBadDoorbell 1)

/-- STR_DB_TAIL. -/
def execStrDbTail (fn q value : Nat) (s : State) : Res := s.doorbell fn q (fun s => s.tailWrite q value)

/-- STR_DB_CQHEAD. -/
def execStrDbCqhead (fn q value : Nat) (s : State) : Res :=
  s.doorbell fn q fun s =>
    let x := s.queue q
    let c := value % 2 ^ 32
    if (x.ccount + 2 ^ 32 - c) % 2 ^ 32 ≤ 2 ^ x.cqLog then
      ((s.heldCycles (s.qPart q)).setQueue q { x with cqHead := c }).cqFlush q x.owed.length
    else s.count (Reg.strDbIgnored (s.qPart q)) 1

/-- The value written to a partition's STR_RING: queue in bits 15:0, tail in bits 63:32. -/
def State.strRing (s : State) (p v : Nat) : State :=
  let q := v % 2 ^ 16
  if !s.alive then s
  else if s.inRange p .queue q then (s.tailWrite q (v / 2 ^ 32 % 2 ^ 32)).settle else s.count Reg.dbgBadDoorbell 1

/-- STR_RING. -/
def execStrRing (fn p value : Nat) (s : State) : Res := s.byOwner fn p (fun s => s.strRing p value)

/-! ### Packet decode (R232) -/

/-- A packet just decoded. -/
def Packet.mk0 (raw : BitVec 512) (stamp dstat reason addr : Nat) : Packet :=
  { raw := raw, stamp := stamp, dstat := dstat, desc := 0, place := [], st := .decoded, start := 0, status := 0,
    done := false, launch := none, slot := none, meter := 0, waitSince := none, metBy := none, metAt := none, dma := 0, moved := 0,
    faultAddr := addr, reason := reason, msg := none, glint := false }

/-- Take a decoded packet into the queue: skip mode and a dropped period skip it, a deadline that has passed drops it. -/
def State.decoded (s : State) (q n : Nat) (p : Packet) : State :=
  let x := s.queue q
  let part := s.qPart q
  let s := (s.forget q n).count Reg.strDecoded 1
  let s := if p.dstat = Stat.pageFault then s.countPf part else s
  let skip := x.skips p.raw || (x.periodic && x.dropped && !pFinally p.raw)
  if skip then
    ((s.setQueue q { x with packets := Tab.put x.packets n p.skip, skipped := x.skipped + 1 }).count
      (Reg.strDropped part) 1).periodCheck q
  else
    let s := s.setQueue q { x with packets := Tab.put x.packets n p }
    if p.dstat = 0 && pDeadline p.raw ≠ 0 && pDeadline p.raw ≤ s.time then s.lateDrop q n else s

/-- Decode the queue's next packet, as far as host memory has answered. -/
def State.decodeNext (s : State) (q : Nat) : State :=
  let x := s.queue q
  match x.nextDecode with
  | none => s
  | some n =>
    if x.st ≠ .running || x.halt || !s.fetching then s
    else
      let p := s.qPart q
      let va := x.ringBase + 64 * x.slotOf n
      let stamp := x.stampOf n
      let s := s.tlbUse starterTlb p va
      match s.readFor q n p x.context va 64 with
      | .wait s => s
      | .fault r a => s.decoded q n (Packet.mk0 0 stamp Stat.pageFault r a)
      | .data s b =>
        let raw := BitVec.ofNat 512 (leNat b)
        let fail (st r a : Nat) : State := s.decoded q n (Packet.mk0 raw stamp st r a)
        if !packetOpcodes.contains (pOpcode raw) then fail Stat.badOpcode 0 0
        else if !headerOk raw x.periodic || !s.payloadOk p raw then fail Stat.badField 0 0
        else if !runsLaunch raw then fail (s.lateChecks p stamp raw 0 []) 0 0
        else
          let s := s.tlbUse starterTlb p (pAt raw 32 8)
          match s.readFor q n p x.context (pAt raw 32 8) 64 with
          | .wait s => s
          | .fault r a => s.decoded q n (Packet.mk0 raw stamp Stat.pageFault r a)
          | .data s d =>
            let desc := BitVec.ofNat 512 (leNat d)
            if !descOk raw desc then s.decoded q n (Packet.mk0 raw stamp Stat.badField 0 0)
            else
              let s := s.tlbUse starterTlb p (dPlace raw desc)
              match s.readFor q n p x.context (dPlace raw desc) (dCount raw desc) with
              | .wait s => s
              | .fault r a => s.decoded q n (Packet.mk0 raw stamp Stat.pageFault r a)
              | .data s l =>
                let place := l.map (fun b => b.toNat)
                s.decoded q n { Packet.mk0 raw stamp (s.lateChecks p stamp raw desc place) 0 0 with desc := desc, place := place }

/-- A command of the Starter on a queue. -/
def State.onQueue (s : State) (q : Nat) (f : State → State) : Res :=
  onUnit (q < 65536) <| if s.alive then .next (f s).settle else .next s

/-- PACKET_DECODE; the cycles in which all control cores decode are a free value (DESIGN CHOICE, log 16). -/
def execPacketDecode (q : Nat) (s : State) : Res :=
  s.onQueue q fun s => ((s.decodeNext q).count Reg.strDecodeBusy (s.freeVal 8)).useFree 1

/-! ### Engines of packets -/

/-- A started packet, updated. -/
def State.setPacket (s : State) (q n : Nat) (f : Packet → Packet) : State :=
  let x := s.queue q
  match x.packets.look n with
  | some p => s.setQueue q { x with packets := Tab.put x.packets n (f p) }
  | none => s

/-- A packet's page fault or stale object: the address, the reason, and the completion. -/
def State.packetFault (s : State) (q n st reason addr : Nat) : State :=
  let s := if st = Stat.pageFault then s.countPf (s.qPart q) else s
  (s.setPacket q n (fun p => { p with faultAddr := addr, reason := reason })).completePacket q n st

/-- Read for a started packet, whose stamp meets freed objects (R266). -/
def State.readStamped (s : State) (q n p ctx stamp va len : Nat) : Fetch ⊕ Nat :=
  match (pagesOf va len).find? (fun part => s.staleRange p stamp part) with
  | some part => .inr part.1
  | none => .inl (s.readFor q n p ctx va len)

/-- Send a SEND_MESSAGE once its data is at hand (R328, R333). -/
def State.sendNow (s : State) (q n : Nat) : State :=
  let x := s.queue q
  let part := s.qPart q
  match x.packets.look n with
  | none => s
  | some p =>
    let raw := p.raw
    let kind := mKind raw
    let send (s : State) (data : List Byte) : State :=
      if kind = 3 then
        (s.setPacket q n (fun p => { p with msg := some (0, mParam raw) })).collStart (mHandle raw) q n (mParam raw) data
      else
        let r := (p.slot.map s.request).getD Request.init
        let seq := Tab.get 0 s.links.sendSeq (mDest raw)
        let s := s.setPacket q n (fun p => { p with msg := some (mDest raw, seq) })
        s.sendMsg { SentMsg.mk0 (mDest raw) kind part with q := some (q, n), handle := mHandle raw, param := mParam raw,
                                                           reqid := r.reqid, tenant := r.tenant, req := p.slot.isSome, data := data }
    if p.st ≠ .started || p.msg.isSome then s
    else if kind ≠ 3 && s.unreachable (mDest raw) then s.linkError q n 1
    else if kind = 2 then
      let f := fld (mParam raw) 0 18
      if s.partOf .fence f = some part then send s (leBytes 8 (s.fence f).value) else s.packetFault q n Stat.foreign 0 0
    else
      match s.readStamped q n part x.context p.stamp (mLaddr raw) (mLen raw) with
      | .inr a => s.packetFault q n Stat.staleObject 0 a
      | .inl (.data s b) => send s b
      | .inl (.wait s) => s
      | .inl (.fault r a) => s.packetFault q n Stat.pageFault r a

/-- Whether every core of a launch is present still: one fenced since decode refuses the launch at its start with
ABSENT_UNIT, as decode would have (DEDUCED from R7 and R24, which name decode and running work alone; log 38). -/
def State.placed (s : State) (p : Packet) : Bool := p.place.all s.coreOn

/-- The start of a kernel launch (R116). -/
def State.startKernel (s : State) (q n : Nat) (p : Packet) : State :=
  let i := s.nextId
  let d := p.desc
  let l : Launch :=
    { lap := false, q := q, n := n, part := s.qPart q, ctx := (s.queue q).context, ptag := pTag p.raw, stamp := p.stamp,
      entry := pAt d 0 8, arg := pAt p.raw 40 8, place := p.place, teams := pAt p.raw 48 4, packs := pAt d 17 1,
      regs := pAt d 18 1, scratch := pAt d 19 1, next := 0, ended := 0, addr := 0, ncmd := 0, replays := 0,
      seed := 0, paced := false, stopGlint := false, loaded := false, seqLap := [], seqNext := 0, status := 0, stops := [],
      glint := false, complete := false }
  (s.useId.setLaunch i l).setPacket q n (fun p => { p with launch := some i })

/-- A lap that has been placed on a core and not loaded. -/
def LapRun.init (launch rank replays now : Nat) : LapRun :=
  { launch := launch, rank := rank, replays := replays, cmds := [], next := 0, oldest := 0, completed := [], feeding := [],
    waiting := none, cache := [], win := [], ready := none, go := none, returned := 0, popped := 0,
    lastDone := now, stop := 0, stopOrd := 0, tiles := [] }

/-- A core as a lap starts on it: array, loader, address stream and coach core empty; the cell registers keep what they
hold. -/
def Core.startLap (k : Core) (lap : LapRun) : Core :=
  { k with lap := some lap, stream := [], coach := { Coach.init with sq := k.coach.sq },
           array := { k.array with shadow := none, last := none, issued := [], behind := [], stopped := false } }

/-- The start of a lap invocation on every core of its list (R74, R97). -/
def State.startLap (s : State) (q n : Nat) (p : Packet) : State :=
  let i := s.nextId
  let d := p.desc
  let l : Launch :=
    { lap := true, q := q, n := n, part := s.qPart q, ctx := (s.queue q).context, ptag := pTag p.raw, stamp := p.stamp,
      entry := pAt d 8 8, arg := pAt p.raw 40 8, place := p.place, teams := 0, packs := 0, regs := 0, scratch := 0,
      next := 0, ended := 0, addr := pAt d 0 8, ncmd := pAt d 26 2, replays := pAt p.raw 56 4,
      seed := pAt p.raw 48 8, paced := bitOf (pAt d 28 1) 0, stopGlint := bitOf (pAt d 28 1) 1, loaded := false,
      seqLap := [], seqNext := 0, status := 0, stops := [], glint := false, complete := false }
  let s := (s.useId.setLaunch i l).setPacket q n (fun p => { p with launch := some i })
  p.place.zipIdx.foldl (fun s c =>
    (s.setCore c.1 ((s.core c.1).startLap (LapRun.init i c.2 l.replays s.time))).setReg (Reg.mtxLapPtag c.1) l.ptag) s

/-- OPEN_REQUEST (R240): the state and the status. -/
def State.runOpen (s : State) (q : Nat) (raw : BitVec 512) : State × Nat :=
  let x := s.queue q
  let slot := pAt raw 44 2
  let r := s.request slot
  let reqid := pAt raw 32 8
  let take (s : State) : State :=
    let x := s.queue q
    s.setQueue q { x with cur := some slot, opened := slot :: x.opened }
  if x.cur.isSome then (s, Stat.reqBusy)
  else if pAt raw 46 1 = 0 then
    if r.st ≠ 0 then (s, Stat.reqBusy) else (take (s.openRequest (s.qPart q) slot reqid (pAt raw 40 4)), Stat.ok)
  else if r.st ≠ 1 || r.reqid ≠ reqid then (s, Stat.reqMismatch)
  else if 255 ≤ r.attached then (s, Stat.reqBusy)
  else (take (s.setRequest slot { r with attached := r.attached + 1 }), Stat.ok)

/-- CLOSE_REQUEST (R240); one that ends skip mode completes without REQ_MISMATCH (R253). -/
def State.runClose (s : State) (q n : Nat) (raw : BitVec 512) : State × Nat :=
  let x := s.queue q
  let slot := pAt raw 44 2
  let matches' := x.cur = some slot && (s.request slot).reqid = pAt raw 32 8
  if matches' || x.endsSkip n then (s.detach q false false, Stat.ok) else (s, Stat.reqMismatch)

/-- SIGNAL_FENCE: entries in order until one fails (R238). -/
def State.runSignalFence (s : State) (q : Nat) (raw : BitVec 512) (a : Actor) : State × Nat :=
  ((fenceEntries raw).filter (fun e => e.valid)).foldl (fun (r : State × Nat) e =>
    if r.2 ≠ Stat.ok then r
    else r.1.fenceSignal (r.1.qPart q) (some (r.1.queue q).context) e.fence e.mode e.value a) (s, Stat.ok)

/-- SIGNAL_BATON: entries in order until one fails. -/
def State.runSignalBaton (s : State) (raw : BitVec 512) (a : Actor) : State × Nat :=
  (signalBatons raw).foldl (fun (r : State × Nat) e =>
    if r.2 ≠ Stat.ok then r else r.1.batonSignal e.1 e.2 a none) (s, Stat.ok)

/-- TIMESTAMP: the device time of the start as one store (R241). -/
def State.runTimestamp (s : State) (q n : Nat) (p : Packet) : State :=
  let part := s.qPart q
  let va := pAt p.raw 32 8
  let s := s.tlbUse starterTlb part va
  if s.stale part p.stamp va then s.packetFault q n Stat.staleObject 0 va
  else match s.writePart 20 part (s.queue q).context va (leBytes 8 s.time) with
    | .inl s => s.completePacket q n Stat.ok
    | .inr r => s.packetFault q n Stat.pageFault r va

/-- Packet `n` starts: its wait ends, it takes its batons, a completion entry and its request, and its engine begins;
packets the Starter performs complete in the same instant (R230, R231, R240, R243). -/
def State.startPacket (s : State) (q n dma vmin : Nat) : State :=
  match (s.queue q).packets.look n with
  | none => s
  | some p =>
    let part := s.qPart q
    let a := s.starterActor part (pTag p.raw) q
    let s := if (s.queue q).free5 p then s
      else (batonWaits p.raw).foldl (fun s b => s.setBaton b { s.baton b with value := (s.baton b).value - 1 }) s
    let s := (s.endPacketWait q p 0).useFree 1
    let x := s.queue q
    let vt := if x.periodic then x.vt else max x.vt vmin + 65536 / max x.weight 1
    let meter := match x.cur with | some r => (s.request r).meter | none => 131072 + part
    let p := { p with st := .started, start := s.time, waitSince := none, slot := x.cur, meter := meter, dma := dma }
    let s := s.setQueue q { x with packets := Tab.put x.packets n p, reserved := x.reserved + 1, vt := vt }
    let s := (s.count (Reg.strStarted part) 1).tally meter Site.decoded 0 1
    let s := match x.cur with | some r => s.attribute r | none => s
    let ending (r : State × Nat) : State := r.1.completePacket q n r.2
    match pOpcode p.raw with
    | 0x02 => s.runTimestamp q n p
    | 0x10 => if !runsLaunch p.raw then ending (s, Stat.ok) else if s.placed p then s.startKernel q n p
              else ending (s, Stat.absentUnit)
    | 0x11 => if !runsLaunch p.raw then ending (s, Stat.ok) else if s.placed p then s.startLap q n p
              else ending (s, Stat.absentUnit)
    | 0x20 => s
    | 0x21 => s
    | 0x31 => ending (s.runSignalFence q p.raw a)
    | 0x33 => ending (s.runSignalBaton p.raw a)
    | 0x40 => ending (s.runOpen q p.raw)
    | 0x41 => ending (s.runClose q n p.raw)
    | 0x50 => s.sendNow q n
    | _ => ending (s, Stat.ok)

/-! ### Passes (R242, R243) -/

/-- Whether a candidate may start still, after those before it have started: its waits are checked again at the instant
it starts (R230). -/
def State.still (s : State) (c : Cand) : Bool :=
  match (s.queue c.q).nextStart with
  | some (n, k) => n = c.n && s.mayStart c.q n k
  | none => false

/-- One pass: the state, the queues that started a packet with the engine each took, and the promised resources. -/
def State.pass (s : State) (p : Nat) : State × List (Nat × Nat × Nat) :=
  let cands := (s.candidates p).foldl (fun l c => s.candInsert c l) []
  let least (prio : Nat) : Nat :=
    let l := cands.filterMap (fun c => let x := s.queue c.q; if !x.periodic && x.prio = prio then some x.vt else none)
    l.foldl min (l.headD 0)
  let r := cands.foldl (fun (r : State × List (Nat × Nat × Nat) × List Nat) c =>
    if !r.1.still c then r
    else match r.1.fits p r.2.2 c with
    | some k => (r.1.startPacket c.q c.n k (least (s.queue c.q).prio), r.2.1 ++ [(c.q, c.n, k)], r.2.2)
    | none => (r.1, r.2.1, r.2.2 ++ r.1.needOf p c)) (s, [], [])
  (r.1, r.2.1)

/-- Passes until one starts nothing. Fuel: the number of packets. -/
def State.passes (s : State) (p : Nat) : Nat → State
  | 0 => s
  | n + 1 =>
    let r := s.pass p
    if r.2.isEmpty then s else (r.1.settle).passes p n

/-- SCHEDULER_PASS; what is held only for room or for receipts counts its cycles. -/
def execSchedulerPass (p : Nat) (s : State) : Res :=
  onUnit (p < 8) <|
    if s.fetching then
      let s := s.settle
      .next ((s.passes p ((s.partQueues p).map (fun q => q.2.packets.length)).sum).heldCycles p)
    else .next s

/-- Start queue `q`'s next packet, when it has the opcode and the partition's pass starts it. -/
def State.startOp (s : State) (q op : Nat) : Res :=
  s.onQueue q fun s =>
    let s := s.settle
    let p := s.qPart q
    match (s.queue q).nextStart, (s.pass p).2.find? (fun r => r.1 = q) with
    | some (n, k), some r =>
      if pOpcode k.raw = op && s.fetching then
        let same := (s.candidates p).filter (fun c => !(s.queue c.q).periodic && (s.queue c.q).prio = (s.queue q).prio)
        let vts := same.map (fun c => (s.queue c.q).vt)
        s.startPacket q n r.2.2 (vts.foldl min (vts.headD 0))
      else s
    | _, _ => s.heldCycles p

/-- NOP packet (0x01). -/
def execNopPacket (q : Nat) (s : State) : Res := s.startOp q 0x01
/-- TIMESTAMP (0x02). -/
def execTimestamp (q : Nat) (s : State) : Res := s.startOp q 0x02
/-- LAUNCH_KERNEL (0x10). -/
def execLaunchKernel (q : Nat) (s : State) : Res := s.startOp q 0x10
/-- LAUNCH_LAP (0x11). -/
def execLaunchLap (q : Nat) (s : State) : Res := s.startOp q 0x11
/-- COPY (0x20). -/
def execCopy (q : Nat) (s : State) : Res := s.startOp q 0x20
/-- FILL (0x21). -/
def execFill (q : Nat) (s : State) : Res := s.startOp q 0x21
/-- WAIT_FENCE (0x30). -/
def execWaitFence (q : Nat) (s : State) : Res := s.startOp q 0x30
/-- SIGNAL_FENCE (0x31). -/
def execSignalFence (q : Nat) (s : State) : Res := s.startOp q 0x31
/-- WAIT_BATON (0x32). -/
def execWaitBaton (q : Nat) (s : State) : Res := s.startOp q 0x32
/-- SIGNAL_BATON (0x33). -/
def execSignalBaton (q : Nat) (s : State) : Res := s.startOp q 0x33
/-- OPEN_REQUEST (0x40). -/
def execOpenRequest (q : Nat) (s : State) : Res := s.startOp q 0x40
/-- CLOSE_REQUEST (0x41). -/
def execCloseRequest (q : Nat) (s : State) : Res := s.startOp q 0x41
/-- SEND_MESSAGE (0x50). -/
def execSendMessage (q : Nat) (s : State) : Res := s.startOp q 0x50

/-! ### Copies and fills (R236) -/

/-- The bytes of a FILL from offset `o` of its range. -/
def fillBytes (raw : BitVec 512) (o n : Nat) : List Byte :=
  let size := 2 ^ pAt raw 56 1
  (List.range n).map (fun i => BitVec.ofNat 8 (pAt raw 40 8 / 2 ^ (8 * ((o + i) % size))))

/-- Offsets and lengths of a copy's parts: cut at the page ends of both ranges. Fuel: the number of parts. -/
def copyParts (src dst len o : Nat) : Nat → List (Nat × Nat)
  | 0 => []
  | n + 1 =>
    if len ≤ o then []
    else
      let m := min (len - o) (min (0x8000 - (src + o) % 0x8000) (0x8000 - (dst + o) % 0x8000))
      (o, m) :: copyParts src dst len (o + m) n

/-- Whether a virtual page of a partition is a key-value page (R211). -/
def State.kPage (s : State) (p va : Nat) : Bool := match s.walk p (va / 0x8000) with | some (_, e) => eK e | none => false

/-- What moving one part comes to. -/
inductive Moved where
  | done (s : State)
  | wait (s : State)
  | fault (s : State) (st reason addr : Nat)

/-- Where a page's part of a range lies: target and physical address. -/
def State.physAt (s : State) (part ctx : Nat) (write : Bool) (va : Nat) : Option (Nat × Nat) :=
  match s.engineXlate true part ctx write va with
  | .inl x => some (x.tgt, x.pa)
  | .inr _ => none

/-- Whether byte `i` of a copy's part at `dst` lies in the source range too, through another mapping (R236). -/
def State.aliased (s : State) (part ctx : Nat) (p : Packet) (dst i : Nat) : Bool :=
  match s.physAt part ctx true dst with
  | none => false
  | some d => (pagesOf (pAt p.raw 32 8) p.length).any (fun x =>
      match s.physAt part ctx false x.1 with
      | some c => c.1 = d.1 && c.2 ≤ d.2 + i && d.2 + i < c.2 + x.2
      | none => false)

/-- The bytes of a copy's part with free values where source and destination alias (R236). -/
def State.overlaid (s : State) (part ctx : Nat) (p : Packet) (dst : Nat) (b : List Byte) : List Byte :=
  let f := s.freeBytes b.length
  b.zipIdx.map (fun x => if s.aliased part ctx p dst x.2 then nth 0#8 f x.2 else x.1)

/-- Move one part of a COPY or FILL through the engine of cluster `k`. -/
def State.movePart (s : State) (q n : Nat) (p : Packet) (o m : Nat) : Moved :=
  let part := s.qPart q
  let ctx := (s.queue q).context
  let copy := pOpcode p.raw = 0x20
  let src := pAt p.raw 32 8 + o
  let dst := (if copy then pAt p.raw 40 8 else pAt p.raw 32 8) + o
  let put (s : State) (b : List Byte) : Moved :=
    let s := s.tlbUse (dmaTlb p.dma) part dst
    if s.stale part p.stamp dst then .fault s Stat.staleObject 0 dst
    else match s.writePart p.dma part ctx dst b with
      | .inl s =>
        let s := (s.tally p.meter Site.dmaBytes (p.dma / 10) m).setPacket q n (fun p => { p with moved := o + m })
        if s.pcie.dmaRegs.isEmpty then .done s else .wait s
      | .inr r => .fault s Stat.pageFault r dst
  if copy then
    let s := s.tlbUse (dmaTlb p.dma) part src
    if s.stale part p.stamp src then .fault s Stat.staleObject 0 src
    else match s.readPart p.dma q n part ctx src m with
      | .data s b =>
        let s := if s.kPage part src then s.count (Reg.dbgKvRead part) m else s
        put (s.useFree (m / 8 + 1)) (s.overlaid part ctx p dst b)
      | .wait s => .wait s
      | .fault r a => .fault s Stat.pageFault r a
  else put s (fillBytes p.raw o m)

/-- Move the parts in order. -/
def State.moveParts (s : State) (q n : Nat) (p : Packet) : List (Nat × Nat) → Moved
  | [] => .done s
  | (o, m) :: rest =>
    match s.movePart q n p o m with
    | .done s => s.moveParts q n p rest
    | r => r

/-- The parts of the piece of 4 KiB that comes next: cut at page ends. -/
def Packet.piece (p : Packet) : List (Nat × Nat) :=
  let stop := min p.length ((p.moved / 4096 + 1) * 4096)
  let dst := if pOpcode p.raw = 0x20 then pAt p.raw 40 8 else pAt p.raw 32 8
  copyParts (pAt p.raw 32 8) dst stop p.moved 4

/-- A DMA engine moves the next 4 KiB piece of a packet, which completes with its last one; the order in which the pieces
of an engine's packets interleave is the order of these events. A packet that was stopped finishes the piece being
written, if one is (a free value tells), and starts no other (R236, R245). The second part says whether the event is
over, or waits for the register image or host memory. -/
def State.dmaFinish (s : State) (q n : Nat) (p : Packet) : State × Bool :=
  if p.status = 0 then
    match s.moveParts q n p p.piece with
    | .done t =>
      let left := match (t.queue q).packets.look n with | some p => p.length - p.moved | none => 0
      (if left = 0 then t.completePacket q n Stat.ok else t, true)
    | .wait s => (s, false)
    | .fault s st r a => (s.packetFault q n st r a, true)
  else
    let writing := s.freeVal 1 = 1
    let s := s.useFree 1
    let t := match s.moveParts q n p (if writing then p.piece else []) with
      | .done t => t
      | .wait t => { t with pcie := { t.pcie with dmaRegs := [] } }
      | .fault t _ _ _ => t
    (t.completePacket q n p.status, true)

/-! ### Completion, deadlines, periods -/

/-- Whether a packet stopped with its period, whose record carries the COUNT, must wait: the Starter has entries of the
list still to read (R245). -/
def Queue.counting (x : Queue) (n : Nat) : Bool :=
  x.periodic && x.active && x.dropped && x.st = .running && !x.halt && x.skipOwner = some n && x.packets.length < x.list.2

/-- Whether a packet has faulted, though it has not completed: its deadline no longer drops it (R253). -/
def State.faulted (s : State) (p : Packet) : Bool :=
  stopping p.status || (match p.launch.bind s.launch with | some l => stopping l.status | none => false)

/-- A started packet whose engine is done completes (R248 to R252); a DMA engine's may have register accesses to make
first. -/
def State.packetComplete (s : State) (q n : Nat) : State × Bool :=
  match (s.queue q).packets.look n with
  | none => (s, true)
  | some p =>
    if p.st ≠ .started then (s, true)
    else if (s.queue q).counting n && s.fetching then (s.decodeNext q, true)
    else match pOpcode p.raw with
      | 0x20 | 0x21 => s.dmaFinish q n p
      | 0x10 | 0x11 =>
        (match p.launch.bind s.launch with
         | some l =>
           if l.complete then
             ((s.setPacket q n (fun p => { p with glint := l.glint })).completePacket q n l.status, true)
           else (s, true)
         | none => (s, true))
      | _ => (if p.done || p.status ≠ 0 then s.completePacket q n p.status else s, true)

/-- DEADLINE_EXPIRY: a non-periodic packet whose DEADLINE passes before it completes is dropped (R246). -/
def execDeadlineExpiry (q n dt : Nat) (s : State) : Res :=
  s.onQueue q fun s =>
    let s := (s.tick dt).settle
    let x := s.queue q
    match x.packets.look n with
    | none => s
    | some p =>
      let due := !x.periodic && x.st = .running && pDeadline p.raw ≠ 0 && pDeadline p.raw ≤ s.time
      let open' := (p.st = .decoded && p.dstat = 0) || (p.st = .started && p.status = 0 && !s.faulted p)
      if due && open' then s.lateDrop q n else s

/-- WAIT_TIMEOUT: the queue's next packet has waited longer than WAIT_LIMIT (R230); its record carries in ADDR the first
baton it could not take, 0 where it waits on a fence alone (R272; the field is DEDUCED, log 83). -/
def execWaitTimeout (q dt : Nat) (s : State) : Res :=
  s.onQueue q fun s =>
    let s := (s.tick dt).settle
    let x := s.queue q
    match x.nextStart with
    | none => s
    | some (n, p) =>
      let late := match p.waitSince with | some t => x.waitLimit * 1000 < s.since t | none => false
      if x.waitLimit ≠ 0 && late && x.cond123 n p && !s.waitsMet p.raw then
        let baton := ((batonWaits p.raw).find? (fun b => !s.batonsMet ((batonWaits p.raw).filter (· = b)))).getD 0
        ((s.endPacketWait q p 2).setPacket q n (fun p => { p with faultAddr := baton })).completePacket q n Stat.waitTimeout
      else s

/-- Drop the running period at its deadline: started packets stop, unstarted ones are skipped but FINALLY packets, the
rest of the list is read, and the requests of the period are detached (R245). -/
def State.dropPeriod (s : State) (q : Nat) : State :=
  let x := s.queue q
  let first := ((x.packets.filter (fun p => p.2.st = .started)).head?).map Prod.fst
  let s := s.setQueue q { x with dropped := true, skipOwner := first, pstatus := Stat.droppedLate }
  let s := s.stopOthers q none Stat.droppedLate
  let s := (s.queue q).packets.foldl (fun s p =>
    if p.2.st = .decoded && !pFinally p.2.raw then
      let s := s.endPacketWait q p.2 3
      let x := s.queue q
      (s.setQueue q { x with packets := Tab.put x.packets p.1 p.2.skip, skipped := x.skipped + 1 }).count
        (Reg.strDropped (s.qPart q)) 1
    else s) s
  let s := (List.range x.list.2).foldl (fun s _ => s.decodeNext q) s
  let s := match (s.queue q).cur with
    | some r => if x.opened.contains r then s.detach q true false else s
    | none => s
  s.periodCheck q

/-- PERIOD_START: the next period begins at its start, or when its predecessor has ended; one whose deadline has passed
is dropped at once. A start that passes on a STOPPED or DISABLED queue is missed (R244, R249, R265). -/
def execPeriodStart (q dt : Nat) (s : State) : Res :=
  s.onQueue q fun s =>
    let s := (s.tick dt).settle
    let x := s.queue q
    if !x.periodic || s.time < x.startOf x.next || x.periodNs = 0 then s
    else if x.st = .stopped || x.st = .disabled then s.missTo q
    else if x.st ≠ .running || x.active || x.halt || x.inFlight ≠ 0 || !s.fetching then s
    else
      let r := s.newStamp (s.qPart q)
      let s := r.1.setQueue q
        { x with active := true, period := x.next, next := x.next + 1, list := x.nextList, packets := [], okCount := 0,
                 pstatus := 0, dropped := false, opened := [], skipped := 0, skipOwner := none, stamps := [(0, r.2)],
                 reserved := if x.prec then x.reserved + 1 else x.reserved }
      let s := if (s.queue q).deadlineOf x.next ≤ s.time then s.dropPeriod q else s
      s.periodCheck q

/-- PERIOD_DEADLINE: a period that has not ended at its deadline is dropped. -/
def execPeriodDeadline (q dt : Nat) (s : State) : Res :=
  s.onQueue q fun s =>
    let s := (s.tick dt).settle
    let x := s.queue q
    let fault := x.packets.any (fun p => p.2.st = .started && s.faulted p.2)
    if x.periodic && x.active && !x.dropped && x.st = .running && !x.halt && !fault && x.deadlineOf x.period ≤ s.time then
      s.dropPeriod q
    else s

/-! ### Counters of cycles that count now -/

/-- Counters of an agent and of its cluster as home: forwards in hold slots, requests behind a busy line (R198). -/
def State.cchCounting (s : State) (k : Nat) : List Nat :=
  (if (s.agent k).lines.any (fun l => !l.2.parked.isEmpty) then [Reg.cchHoldWait k] else []) ++
    (if (s.dir k).waiting.all (fun r => reserveLine r.line) then [] else [Reg.cchHomeBlock k])

/-- Every counter of cycles whose condition holds now, and that of the bridge's link-layer retries, which no message of the model
shows (R199; DESIGN CHOICE, log 16). -/
def State.countingNow (s : State) : List Nat :=
  s.cores.flatMap (fun c => c.2.counting c.1) ++ (s.agents.map Prod.fst ++ s.dirs.map Prod.fst).dedup.flatMap (fun k =>
    if k < 20 then s.cchCounting k else []) ++ (List.range 8).flatMap s.heldRegs ++ (if s.oneDie then [] else [Reg.cchBridgeRetry])

end Sys2Proof.Machine
end

