-- ==== Sys2Proof/Machine/Manage.lean ====
section
/-! DEFINITION. Management commands of contexts, memory objects, fences, batons and request slots, the completion of a
forced abort, the map scan and the release of memory objects (11_shared_objects.md: R256 to R280). -/

namespace Sys2Proof.Machine

/-! ### The command interface (R259, R280) -/

/-- Results of STR_OBJ_STATUS. -/
def ORes.ok := 0
def ORes.range := 1
def ORes.state := 2
def ORes.badArg := 3
def ORes.overlap := 4
def ORes.full := 5
def ORes.order := 6
def ORes.overflow := 7
def ORes.foreign := 8
def ORes.busyIgnored := 9

/-- The kind of slot of a class code of STR_OBJ_CMD. -/
def classKind : Nat → Kind
  | 0 => .ctx | 1 => .mobj | 2 => .fence | 3 => .baton | _ => .req

/-- An argument register and a read-back register of the partition. -/
def State.arg (s : State) (p i : Nat) : Nat := s.reg (Reg.strObjData p i)
def State.readBack (s : State) (p i v : Nat) : State := s.setReg (Reg.strObjData p i) v

/-- What a command does to its slot: the state, the result, and whether it stays BUSY. -/
abbrev ObjOp := State → Nat → Nat → State × Nat × Bool

/-- A management command of class `cls` on the slot STR_OBJ_SEL names (R259); a stopped Starter does nothing. -/
def State.objCmd (s : State) (p cls : Nat) (f : ObjOp) : State :=
  let o := Reg.strObjStatus p
  if !s.alive then s
  else if bitOf (s.reg o) 0 then s.setReg o (1 + 2 * ORes.busyIgnored)
  else s.command o (fun s => s.setReg o (2 * ORes.busyIgnored)) (fun s =>
    let n := s.reg (Reg.strObjSel p)
    if !s.inRange p (classKind cls) n then s.setReg o (2 * ORes.range)
    else
      let r := f s p n
      r.1.settle.setReg o (bit r.2.2 + 2 * r.2.1))

/-- A refused command changes nothing. -/
def refuse (s : State) (r : Nat) : State × Nat × Bool := (s, r, false)

/-- A command that has taken effect. -/
def performed (s : State) : State × Nat × Bool := (s, ORes.ok, false)

/-- Whether `c` is a LIVE context of the partition. -/
def State.ownerOk (s : State) (p c : Nat) : Bool := s.inRange p .ctx c && (s.ctx c).st = .live

/-! ### Contexts (R260 to R262) -/

/-- CREATE of a context. -/
def contextCreate : ObjOp := fun s _ n =>
  if (s.ctx n).st ≠ .free then refuse s ORes.state
  else performed (s.setCtx n { Context.init with st := .live })

/-- DESTROY of a context begins the forced abort; BUSY stays until it is DEFUNCT. -/
def contextDestroy : ObjOp := fun s _ n =>
  if (s.ctx n).st ≠ .live then refuse s ORes.state
  else
    let s := s.abortContext n false
    (s.setCtx n { s.ctx n with byCmd := true }, ORes.ok, true)

/-- Code of a context's state (R259). -/
def CtxState.code : CtxState → Nat
  | .free => 0 | .live => 1 | .aborting => 2 | .defunct => 3

/-- Memory objects of the partition in FREEING whose owner is the context. -/
def State.freeingOf (s : State) (p c : Nat) : Nat :=
  (s.mobjs.filter (fun m => m.2.st = 2 && m.2.owner = c && s.partOf .mobj m.1 = some p)).length

/-- READ of a context. -/
def contextRead : ObjOp := fun s p n =>
  performed (s.readBack p 3 ((s.ctx n).st.code + 2 ^ 16 * (s.freeingOf p n % 2 ^ 16)))

/-- CREATE of a context (class 0). -/
def execContextCreate (fn p : Nat) (s : State) : Res := s.byOwner fn p (fun s => s.objCmd p 0 contextCreate)
/-- DESTROY of a context. -/
def execContextDestroy (fn p : Nat) (s : State) : Res := s.byOwner fn p (fun s => s.objCmd p 0 contextDestroy)
/-- READ of a context. -/
def execContextRead (fn p : Nat) (s : State) : Res := s.byOwner fn p (fun s => s.objCmd p 0 contextRead)

/-- A DEFUNCT context whose objects are released and whose scan is done becomes FREE (R260). -/
def State.contextFree (s : State) (c : Nat) : State :=
  let k := s.ctx c
  match s.partOf .ctx c with
  | none => s
  | some p => if k.st = .defunct && k.scanned && s.freeingOf p c = 0 then s.setCtx c Context.init else s

/-- The forced abort of a context is complete once nothing of its queues is in flight: its last steps are made, the
record is written and BUSY clears (R261, R394). -/
def State.contextDone (s : State) (c : Nat) : State :=
  let k := s.ctx c
  match s.partOf .ctx c with
  | none => s
  | some p =>
    if k.st = .aborting && (s.queuesOf c).all (fun q => (s.queue q).inFlight = 0) then
      let s := (s.abortFinish c).settle
      let k := s.ctx c
      let s := s.setCtx c { k with st := .defunct, byCmd := false }
      let args := [s.since k.since, k.aborted, k.orphaned, k.freeing]
      let s := s.faultRec { kind := 2, status := if k.escalated then 2 else 1, source := 0, part := p, ptag := 0, queue := 0,
                            ctx := c, body := args.zipIdx.map (fun a => (24 + 8 * a.2, 8, a.1)) }
      if k.byCmd then
        let s := s.setRegFld (Reg.strObjStatus p) 0 1 0
        { s with busy := s.busy.filter (fun o => o ≠ Reg.strObjStatus p) }
      else s
    else s

/-- CONTEXT_DEFUNCT. -/
def execContextDefunct (ctx dt : Nat) (s : State) : Res := powered s <|
  onUnit (ctx < 4096) <| .next ((s.tick dt).contextDone ctx)

/-! ### Page map entries of a partition (R262, R264) -/

/-- The entries of a partition's range that hold anything: number in the range and entry. -/
def State.partEntries (s : State) (p : Nat) : List (Nat × Nat) :=
  let lo := s.mapFirst p * 32768
  (s.pmap.entries.filter (fun e => lo ≤ e.1 && e.1 < lo + s.mapUnits p * 32768)).map (fun e => (e.1 - lo, e.2.toNat))

/-- Clear V in the valid entries of a partition that meet a condition, and drop their cached translations (R215). -/
def State.clearEntries (s : State) (p : Nat) (f : Nat → Bool) : State :=
  ((s.partEntries p).filter (fun e => eV e.2 && f e.2)).foldl
    (fun s e => (s.mapStore p e.1 (setFld e.2 0 1 0)).tlbDrop p (eVpn e.2)) s

/-- Whether an object of the partition in FREEING holds a virtual page. -/
def State.freeingPage (s : State) (p vpn : Nat) : Bool :=
  s.mobjs.any (fun m => m.2.st = 2 && s.partOf .mobj m.1 = some p &&
    m.2.base / 0x8000 ≤ vpn && vpn < m.2.base / 0x8000 + m.2.pages)

/-- MAP_SCAN_COMPLETE: entries of the context outside FREEING objects are cleared. -/
def execMapScanComplete (ctx : Nat) (s : State) : Res := powered s <|
  onUnit (ctx < 4096) <|
    match s.partOf .ctx ctx with
    | none => .next s
    | some p =>
      let k := s.ctx ctx
      guarded (k.st = .defunct && !k.scanned) s
        (let t := s.clearEntries p (fun e => eOwner e = ctx && !s.freeingPage p (eVpn e))
         (t.setCtx ctx { k with scanned := true }).contextFree ctx)

/-! ### Memory objects (R264, R265) -/

/-- CREATE of a memory object. -/
def mobjCreate : ObjOp := fun s p n =>
  let d0 := s.arg p 0
  let d1 := s.arg p 1
  let base := fld d0 0 48
  let pages := fld d1 0 25
  let owner := fld d1 32 12
  let clash := s.mobjs.any (fun m => m.2.st ≠ 0 && s.partOf .mobj m.1 = some p &&
    base < m.2.base + m.2.pages * 0x8000 && m.2.base < base + pages * 0x8000)
  if (s.mobj n).st ≠ 0 then refuse s ORes.state
  else if fld d0 48 16 ≠ 0 || base % 0x8000 ≠ 0 || fld d1 25 7 ≠ 0 || fld d1 44 20 ≠ 0 || pages = 0 || 2 ^ 24 < pages ||
      !s.ownerOk p owner || 2 ^ 48 ≤ base + pages * 0x8000 then refuse s ORes.badArg
  else if clash then refuse s ORes.overlap
  else performed (s.setMobj n { MObj.init with st := 1, base := base, pages := pages, owner := owner })

/-- Memory objects of the partition in FREEING (STR_FREEING). -/
def State.freeing (s : State) (p : Nat) : Nat :=
  (s.mobjs.filter (fun m => m.2.st = 2 && s.partOf .mobj m.1 = some p)).length

/-- DESTROY of a memory object: FREEING with the enqueue count as its stamp. -/
def mobjDestroy : ObjOp := fun s p n =>
  let d := s.arg p 2
  let m := s.mobj n
  let fence := fld d 32 18
  if m.st ≠ 1 then refuse s ORes.state
  else if fld d 2 30 ≠ 0 || fld d 50 14 ≠ 0 || (bitOf d 1 && !s.inRange p .fence fence) then refuse s ORes.badArg
  else if 128 ≤ s.freeing p then refuse s ORes.full
  else performed (s.setMobj n { m with st := 2, stamp := Tab.get 0 s.enq p, zero := bitOf d 0, fv := bitOf d 1, fence := fence })

/-- READ of a memory object. -/
def mobjRead : ObjOp := fun s p n =>
  let m := s.mobj n
  performed (((s.readBack p 0 m.base).readBack p 1 (m.pages + 2 ^ 32 * m.owner)).readBack p 3 (wrap64 (m.st + 2 ^ 8 * m.stamp)))

/-- CREATE of a memory object (class 1). -/
def execMobjCreate (fn p : Nat) (s : State) : Res := s.byOwner fn p (fun s => s.objCmd p 1 mobjCreate)
/-- DESTROY of a memory object. -/
def execMobjDestroy (fn p : Nat) (s : State) : Res := s.byOwner fn p (fun s => s.objCmd p 1 mobjDestroy)
/-- READ of a memory object. -/
def execMobjRead (fn p : Nat) (s : State) : Res := s.byOwner fn p (fun s => s.objCmd p 1 mobjRead)

/-- Whether a packet of the queue stamped `f` or lower is incomplete; unstarted packets of a STOPPED or DISABLED queue
do not count (R264, R265). -/
def Queue.holdsStamp (q : Queue) (f : Nat) : Bool :=
  let open' := q.packets.any (fun p => !p.2.st.over && p.2.stamp ≤ f &&
    (p.2.st = .started || q.st = .running || q.st = .draining))
  let unread := match q.nextDecode with
    | some n => q.stampOf n ≤ f && q.st = .running
    | none => false
  open' || unread

/-- Whether a FREEING object may be released. -/
def State.releasable (s : State) (p n : Nat) : Bool :=
  (s.mobj n).st = 2 && (s.partQueues p).all (fun q => !q.2.holdsStamp (s.mobj n).stamp)

/-- Write zeros to the page of an entry that lies in LPDDR5X or resident store and in the carve-out. -/
def State.zeroPage (s : State) (p e : Nat) : State :=
  if eTgt e ≤ 1 && s.inCarve p (eTgt e) (ePage e) then s.physWrite 20 true (ePage e) (List.replicate 0x8000 0#8) else s

/-- MOBJ_RELEASE: the pages are zeroed where asked and unmapped, the slot becomes FREE, the release fence is signalled,
and a DEFUNCT owner may become FREE (R260, R264). -/
def execMobjRelease (obj : Nat) (s : State) : Res := powered s <|
  onUnit (obj < 2 ^ 20) <|
    match s.partOf .mobj obj with
    | none => .next s
    | some p =>
      let m := s.mobj obj
      let inside (e : Nat) : Bool := m.base / 0x8000 ≤ eVpn e && eVpn e < m.base / 0x8000 + m.pages
      let hit := ((s.partEntries p).filter (fun e => eV e.2 && inside e.2)).map Prod.snd
      let t := if m.zero then hit.foldl (fun s e => s.zeroPage p e) s else s
      let t := (t.clearEntries p inside).setMobj obj MObj.init
      let t := if m.fv then (t.fenceSignal p none m.fence 1 1 (moduleActor p)).1 else t
      guarded (s.releasable p obj) s (t.settle.contextFree m.owner)

/-! ### Fences (R267 to R270) -/

/-- Whether an export word is well formed (R268). -/
def exportOk (w : Nat) : Bool :=
  match fld w 62 2 with
  | 0 => w = 0
  | 1 => fld w 6 2 = 0 && fld w 26 36 = 0
  | 2 => fld w 0 3 = 0 && fld w 48 14 = 0
  | _ => false

/-- CREATE of a fence. -/
def fenceCreate : ObjOp := fun s p n =>
  let d0 := s.arg p 0
  let d1 := s.arg p 1
  let owner := fld d1 0 12
  if (s.fence n).st ≠ 0 then refuse s ORes.state
  else if inError d0 || fld d1 12 4 ≠ 0 || fld d1 24 40 ≠ 0 || !s.ownerOk p owner || !exportOk (s.arg p 2) ||
      !exportOk (s.arg p 3) then refuse s ORes.badArg
  else performed (s.setFence n { st := 1, value := d0, owner := owner, any := bitOf d1 16, imported := bitOf d1 17,
                                 source := fld d1 18 6, exports := [s.arg p 2, s.arg p 3] })

/-- The result of a signal's status. -/
def signalResult (st : Nat) : Nat :=
  if st = Stat.ok then ORes.ok else if st = Stat.fenceOrder then ORes.order else ORes.foreign

/-- SIGNAL of a fence, with the owner's right (R267); fields outside R238 give BAD_ARG. -/
def fenceSignalCmd : ObjOp := fun s p n =>
  let v := s.arg p 0
  let d1 := s.arg p 1
  let mode := fld d1 48 2
  if d1 ≠ mode * 2 ^ 48 || mode = 3 || inError v || (mode = 1 && v = 0) || (mode = 2 && v ≠ 0) then refuse s ORes.badArg
  else
    let r := s.fenceSignal p none n mode v (hostActor p)
    (r.1, signalResult r.2, false)

/-- SETEXP of a LIVE fence. -/
def fenceSetexp : ObjOp := fun s p n =>
  let f := s.fence n
  if f.st ≠ 1 then refuse s ORes.state
  else if !exportOk (s.arg p 2) || !exportOk (s.arg p 3) then refuse s ORes.badArg
  else performed (s.setFence n { f with exports := [s.arg p 2, s.arg p 3] })

/-- READ of a fence. -/
def fenceRead : ObjOp := fun s p n =>
  let f := s.fence n
  let w := f.owner + 2 ^ 16 * bit f.any + 2 ^ 17 * bit f.imported + 2 ^ 18 * f.source + 2 ^ 32 * f.st
  performed ((((s.readBack p 0 f.value).readBack p 1 w).readBack p 2 (nth 0 f.exports 0)).readBack p 3 (nth 0 f.exports 1))

/-- DESTROY of a fence: it takes error, its waiters complete, the slot becomes FREE. -/
def fenceDestroy : ObjOp := fun s p n =>
  if (s.fence n).st = 0 then refuse s ORes.state
  else
    let v := (s.fence n).value
    let s := (s.fencePut n (if inError v then v else v + 2 ^ 63) (hostActor p)).settle
    performed (s.setFence n Fence.init)

/-- CREATE of a fence (class 2). -/
def execFenceCreate (fn p : Nat) (s : State) : Res := s.byOwner fn p (fun s => s.objCmd p 2 fenceCreate)
/-- SIGNAL of a fence. -/
def execFenceSignal (fn p : Nat) (s : State) : Res := s.byOwner fn p (fun s => s.objCmd p 2 fenceSignalCmd)
/-- SETEXP of a fence. -/
def execFenceSetexp (fn p : Nat) (s : State) : Res := s.byOwner fn p (fun s => s.objCmd p 2 fenceSetexp)
/-- READ of a fence. -/
def execFenceRead (fn p : Nat) (s : State) : Res := s.byOwner fn p (fun s => s.objCmd p 2 fenceRead)
/-- DESTROY of a fence. -/
def execFenceDestroy (fn p : Nat) (s : State) : Res := s.byOwner fn p (fun s => s.objCmd p 2 fenceDestroy)

/-! ### Batons (R271 to R275) -/

/-- CREATE of a baton. -/
def batonCreate : ObjOp := fun s p n =>
  let d0 := s.arg p 0
  let d1 := s.arg p 1
  let owner := fld d1 0 12
  let core := fld d1 24 8
  let coreOk := if bitOf d1 16 then s.coreOn core && bitOf (s.pClusters p) (core / 8) else core = 0
  if (s.baton n).live then refuse s ORes.state
  else if fld d0 32 32 ≠ 0 || fld d1 12 4 ≠ 0 || fld d1 17 7 ≠ 0 || fld d1 32 32 ≠ 0 || !s.ownerOk p owner || !coreOk then
    refuse s ORes.badArg
  else performed (s.setBaton n { live := true, value := d0, owner := owner, coreScope := bitOf d1 16, core := core, waiters := [] })

/-- SIGNAL of a LIVE baton of either scope (R18, R273). -/
def batonSignalCmd : ObjOp := fun s p n =>
  let c := s.arg p 0
  if !(s.baton n).live then refuse s ORes.state
  else if c = 0 || 2 ^ 16 ≤ c then refuse s ORes.badArg
  else
    let r := s.batonAdd n c (hostActor p)
    (r.1, if r.2 = Stat.ok then ORes.ok else ORes.overflow, false)

/-- Packets that wait on a baton. -/
def State.packetWaiters (s : State) (b : Nat) : Nat :=
  (s.queues.map (fun q => (q.2.packets.filter (fun p => p.2.waitSince.isSome && (batonWaits p.2.raw).contains b)).length)).sum

/-- READ of a baton; waiters in place and waiting packets, up to 65,535. -/
def batonRead : ObjOp := fun s p n =>
  let b := s.baton n
  let w := b.owner + 2 ^ 16 * bit b.coreScope + 2 ^ 24 * b.core + 2 ^ 32 * bit b.live
  performed (((s.readBack p 0 b.value).readBack p 1 w).readBack p 2 (min (b.waiters.length + s.packetWaiters n) 0xFFFF))

/-- DESTROY of a baton. -/
def batonDestroy : ObjOp := fun s _ n =>
  if !(s.baton n).live then refuse s ORes.state else performed (s.batonFree n)

/-- CREATE of a baton (class 3). -/
def execBatonCreate (fn p : Nat) (s : State) : Res := s.byOwner fn p (fun s => s.objCmd p 3 batonCreate)
/-- SIGNAL of a baton. -/
def execBatonSignal (fn p : Nat) (s : State) : Res := s.byOwner fn p (fun s => s.objCmd p 3 batonSignalCmd)
/-- READ of a baton. -/
def execBatonRead (fn p : Nat) (s : State) : Res := s.byOwner fn p (fun s => s.objCmd p 3 batonRead)
/-- DESTROY of a baton. -/
def execBatonDestroy (fn p : Nat) (s : State) : Res := s.byOwner fn p (fun s => s.objCmd p 3 batonDestroy)

/-! ### Request slots (R276) -/

/-- READ of a request slot. -/
def requestRead : ObjOp := fun s p n =>
  let r := s.request n
  performed ((s.readBack p 0 r.reqid).readBack p 1 (r.tenant + 2 ^ 32 * r.st + 2 ^ 40 * r.attached))

/-- READ of a request slot (class 4). -/
def execRequestRead (fn p : Nat) (s : State) : Res := s.byOwner fn p (fun s => s.objCmd p 4 requestRead)

/-- STR_OBJ_CMD: the operation of a class and op code; a pair R259 does not define gives BAD_ARG (R280). -/
def objOp (cls op : Nat) : Option ObjOp :=
  match cls, op with
  | 0, 1 => some contextCreate | 0, 2 => some contextDestroy | 0, 3 => some contextRead
  | 1, 1 => some mobjCreate | 1, 2 => some mobjDestroy | 1, 3 => some mobjRead
  | 2, 1 => some fenceCreate | 2, 2 => some fenceDestroy | 2, 3 => some fenceRead | 2, 4 => some fenceSignalCmd
  | 2, 5 => some fenceSetexp
  | 3, 1 => some batonCreate | 3, 2 => some batonDestroy | 3, 3 => some batonRead | 3, 4 => some batonSignalCmd
  | 4, 3 => some requestRead
  | _, _ => none

/-- The value written to STR_OBJ_CMD. -/
def State.objWrite (s : State) (p v : Nat) : State :=
  match objOp (fld v 4 3) (fld v 0 3) with
  | some f => s.objCmd p (fld v 4 3) f
  | none =>
    if !s.alive then s
    else if bitOf (s.reg (Reg.strObjStatus p)) 0 then s.setReg (Reg.strObjStatus p) (1 + 2 * ORes.busyIgnored)
    else s.command (Reg.strObjStatus p) (fun s => s.setReg (Reg.strObjStatus p) (2 * ORes.busyIgnored))
      (fun s => s.setReg (Reg.strObjStatus p) (2 * ORes.badArg))

end Sys2Proof.Machine
end

