-- ==== Sys2Proof/Machine/Kernels.lean ====
section
/-! DEFINITION. The life of a kernel: where teams start, the kernel boundary, completion and the watchdog
(06_kernels_and_packs.md: R116 to R119, R151, R152; 01: R15 to R17; 08: R172, R174). -/

namespace Sys2Proof.Machine

/-! ### Residency (R16, R17) -/

/-- Registers of a thread, rounded up to a multiple of 8. -/
def Launch.rounded (l : Launch) : Nat := (l.regs + 7) / 8 * 8

/-- Teams of a kernel that a core can hold at once. -/
def Launch.resident (l : Launch) : Nat :=
  let slots := min (64 / max l.packs 1) (131072 / max (l.packs * l.rounded * 32) 1)
  if l.scratch = 0 then slots else min slots (64 / l.scratch)

/-- Whether a core has room for one more team of launch `i`: no team of another kernel is on it, nor is one at its
boundary (R117, R118). -/
def State.hasRoom (s : State) (i : Nat) (l : Launch) (c : Nat) : Bool :=
  let k := s.core c
  s.coreOn c && match k.kernel with
  | none => 0 < l.resident
  | some j => j = i && k.boundary.isNone && k.teams.length < l.resident

/-- A pack of a team as it starts (R119). -/
def Launch.pack (l : Launch) (team pack rank : Nat) : Pack :=
  let p : Pack := { team := team, pack := pack, sregs := [], sq := [], slots := 0,
                    threads := (List.range 32).map (fun lane => Thread.start l.entry (32 * pack + lane)) }
  ((((p.setSreg 0 team).setSreg 1 l.teams).setSreg 2 l.arg).setSreg 3 l.ptag).setSreg 4 rank

/-- The lowest free pack slots of a core; which slots a team takes is not stated (DESIGN CHOICE, log 32). -/
def Core.freeSlots (k : Core) (n : Nat) : List Nat :=
  ((List.range 64).filter (fun i => (k.packs.look i).isNone)).take n

/-- The next team starts on core `c`, the `rank`-th of the placement list. -/
def State.startTeam (s : State) (i : Nat) (l : Launch) (c rank : Nat) : State :=
  let k := s.core c
  let t := l.next
  let sets := if k.kernel.isNone then min 64 (l.resident * l.scratch) else k.scratchSets
  let slots := k.freeSlots l.packs
  let packs := slots.zipIdx.foldl (fun m e => Tab.put m e.1 (l.pack t e.2 rank)) k.packs
  let order := { k.issue with at' := slots.foldl (fun m i => Tab.set 0 m i k.issue.count) k.issue.at' }
  let team : Team := { gens := [0, 0, 0, 0], scratch := [], seed := s.freeCtr }
  let s := s.setCore c { k with kernel := some i, scratchSets := sets, packs := packs, issue := order, teams := Tab.put k.teams t team }
  ((s.useFree (1024 * l.scratch)).setLaunch i { l with next := t + 1 }).setReg (Reg.dbgSimtPtag c) l.ptag

/-- TEAM_START: teams start in ascending order, each on the placement core of lowest rank that has room. -/
def execTeamStart (launch : Nat) (s : State) : Res :=
  match s.launch launch with
  | none => .next s
  | some l =>
    if l.lap || !s.alive || l.status ≠ 0 || l.teams ≤ l.next then .next s
    else match l.place.zipIdx.find? (fun e => s.hasRoom launch l e.1) with
      | some e => .next (s.startTeam launch l e.1 e.2)
      | none => .next s

/-! ### The end of a kernel (R118, R151, R174) -/

/-- Begin a core's kernel boundary: its store queues drain and its dirty lines are written back. -/
def State.beginBoundary (s : State) (c : Nat) : State :=
  let s := (s.endTeams c).l1WriteAll c
  let s := s.1.pump
  s.setCore c { s.core c with boundary := some (((s.agent (c / 8)).accepted.filter (fun a => a.shared)).map (fun a => a.id)) }

/-- Once the write-backs are performed, the core's L1 is invalidated and the core is free for another kernel. -/
def State.endBoundary (s : State) (c : Nat) : State :=
  let k := s.core c
  match k.boundary with
  | none => s
  | some ids =>
    let open' := (s.agent (c / 8)).accepted.map (fun a => a.id)
    if ids.any (fun i => open'.contains i) then s
    else s.setCore c { k with kernel := none, boundary := none, scratchSets := 0, l1 := [], l1Tree := [] }

/-- KERNEL_BOUNDARY: due once the last team on the core has ended and no further team will start. -/
def execKernelBoundary (core : Nat) (s : State) : Res :=
  onUnit (core < s.nCores) <|
    let k := s.core core
    let last := match k.kernel.bind s.launch with
      | some l => l.teams ≤ l.next
      | none => true
    guarded (s.alive && k.kernel.isSome && k.packs.isEmpty && last) s
      ((if k.boundary.isNone then s.beginBoundary core else s).endBoundary core)

/-- KERNEL_COMPLETE: every team has ended and no core holds the kernel any more. -/
def execKernelComplete (launch : Nat) (s : State) : Res :=
  match s.launch launch with
  | none => .next s
  | some l =>
    guarded (s.alive && !l.lap && l.teams ≤ l.next && l.teams ≤ l.ended && s.cores.all (fun c => c.2.kernel ≠ some launch)) s
      (s.setLaunch launch { l with complete := true })

/-! ### The kernel watchdog (R152) -/

/-- A wait the watchdog counts: since when, slot, lane, the wait and its address. -/
structure Waiting where
  since : Nat
  slot : Nat
  lane : Nat
  wait : Wait
  pc : Nat
  deriving DecidableEq, Repr

/-- Threads of a core's kernel that wait at a hurdle or in a BWAIT. -/
def Core.waiting (k : Core) : List Waiting :=
  k.packs.flatMap (fun p => p.2.threads.zipIdx.filterMap (fun t =>
    match t.1.wait with
    | .hurdle _ _ => some { since := t.1.since, slot := p.1, lane := t.2, wait := t.1.wait, pc := t.1.waitPc }
    | .baton _ => some { since := t.1.since, slot := p.1, lane := t.2, wait := t.1.wait, pc := t.1.waitPc }
    | _ => none))

/-- The longest waiter; the lowest slot and lane among equals. -/
def State.longest (s : State) (l : List Waiting) : Option Waiting :=
  l.foldl (fun m w => match m with
    | some v => if s.since v.since < s.since w.since then some w else some v
    | none => some w) none

/-- KERNEL_WATCHDOG_EXPIRY. -/
def execKernelWatchdogExpiry (core dt : Nat) (s : State) : Res :=
  onUnit (core < s.nCores) <|
    let s := s.tick dt
    match s.longest (s.core core).waiting with
    | none => .next s
    | some w =>
      let f : KFault := match w.wait with
        | .hurdle id _ => { status := Stat.watchdog, lane := w.lane, addr := w.pc, reason := 0, wait := 1 + 4 * id }
        | .baton b => { status := Stat.watchdog, lane := w.lane, addr := b, reason := 0, wait := 2 }
        | _ => { status := Stat.watchdog, lane := w.lane, addr := 0, reason := 0, wait := 0 }
      guarded (s.alive && s.entry 0x2210 2 * 1000 ≤ s.since w.since) s (s.kernelFault core w.slot w.pc f)

end Sys2Proof.Machine
end

