-- ==== Sys2Proof/Machine/Matrix.lean ====
section
/-! DEFINITION. What one matrix command computes: the accumulation of both classes, conformance mode, the recipe's
output scale, the drain with its events and glint, and the health slots (03_matrix_array.md: R49 to R52, R59 to R61,
R68, R69; 05_training_numerics.md: R101 to R115). -/

namespace Sys2Proof.Machine

/-! ### Health slots (R106 to R108) -/

/-- Word `i` of a health slot. -/
def Core.slotWord (k : Core) (slot i : Nat) : Nat := leNat (Mem.bytes k.health (128 * slot + 4 * i) 4)
def Core.setSlotWord (k : Core) (slot i v : Nat) : Core :=
  { k with health := Mem.write k.health (128 * slot + 4 * i) (leBytes 4 v) }

/-- Add to a saturating counter of a slot. -/
def Core.slotAdd (k : Core) (slot i n : Nat) : Core := k.setSlotWord slot i (min (k.slotWord slot i + n) (2 ^ 32 - 1))

/-- History position and count: bits 3:0 of byte 28, byte 29. -/
def Core.hpos (k : Core) (slot : Nat) : Nat := k.slotWord slot 7 % 16
def Core.hcount (k : Core) (slot : Nat) : Nat := fld (k.slotWord slot 7) 8 8

/-- The larger of two FP32 words by value; a NaN never displaces a number. -/
def maxF32 (a b : Nat) : Nat := if ofF32 a = .nan || (ofF32 a).lt (ofF32 b) then b else a

/-- HEALTH CLEAR on one slot (R108). It leaves an HCOUNT of 16 or more as it is (DESIGN CHOICE, log 34). -/
def Core.slotClear (k : Core) (slot : Nat) : Core :=
  let k := if k.slotWord slot 8 = 0 then k
    else
      let amax := k.slotWord slot 4
      let p := k.hpos slot
      let k := k.setSlotWord slot (16 + p) amax
      let k := k.setSlotWord slot 5 amax
      let k := k.setSlotWord slot 7 ((p + 1) % 16 + 256 * (if k.hcount slot < 16 then k.hcount slot + 1 else k.hcount slot))
      k.setSlotWord slot 6 ((k.slotWord slot 6 + 1) % 2 ^ 32)
  [0, 1, 2, 3, 4, 8].foldl (fun k i => k.setSlotWord slot i 0) k

/-- HEALTH SUM of slots into a target (R108): each slot once, with the values held before. -/
def Core.slotSum (k : Core) (first count target : Nat) : Core :=
  let l := target :: ((List.range count).map (first + ·)).filter (fun i => i ≠ target)
  let sum (i : Nat) : Nat := min ((l.map (fun j => k.slotWord j i)).sum) (2 ^ 32 - 1)
  let top (i : Nat) : Nat := l.foldl (fun m j => maxF32 m (k.slotWord j i)) (k.slotWord target i)
  let t := [0, 1, 2, 3, 8].foldl (fun t i => t.setSlotWord target i (sum i)) k
  (t.setSlotWord target 4 (top 4)).setSlotWord target 5 (top 5)

/-! ### Accumulation (R59, R60, R112, R113) -/

/-- Round a sum to 64 significant bits, nearest even, exponent unbounded. -/
def round64 (x : Num) : Num :=
  match x with
  | .fin s n d =>
    if n = 0 then .fin s 0 1
    else
      let q : Int := floorLog2 n d - 63
      let p := scale2 n d (-q)
      numPow s (roundNat .rne p.1 p.2) q
  | y => y

/-- One level of the tree: neighbours added and rounded. -/
def treePairs : List Num → List Num
  | a :: b :: l => round64 (a.add b) :: treePairs l
  | l => l

/-- The six levels over 64 products. -/
def treeSum64 (p : List Num) : Num :=
  (treePairs (treePairs (treePairs (treePairs (treePairs (treePairs p)))))).headD .nan

/-- One float-class accumulation: the tree's result added to the accumulator and rounded to FP32 once. -/
def accFloat (acc : Nat) (p : List Num) : Nat := toF32 ((ofF32 acc).add (treeSum64 p))

/-- A fraction in lowest terms. -/
def Num.reduce : Num → Num
  | .fin s n d => .fin s (n / Nat.gcd n d) (d / Nat.gcd n d)
  | x => x

/-- The exact sum of products. -/
def exactSum : List Num → Num
  | [] => .fin false 0 1
  | p :: ps => ps.foldl (fun a b => (a.add b).reduce) p

/-- trunc_fp32 of R112: toward zero, a subnormal becomes zero of its sign, an overflow the largest finite value and one
saturation. -/
def truncF32 (x : Num) : Nat × Nat :=
  let r := convertTo .fp32 .rtz x
  (if fld r.1 23 8 = 0 then r.1 / 2 ^ 31 * 2 ^ 31 else r.1, if r.2 = .sat then 1 else 0)

/-- One conformance-mode accumulation: four groups of 16 products; the accumulator and the saturations. -/
def accConf (acc : Nat) (p : List Num) : Nat × Nat :=
  (List.range 4).foldl (fun (a : Nat × Nat) g =>
    let s := truncF32 (exactSum ((p.drop (16 * g)).take 16))
    let t := truncF32 ((ofF32 a.1).add (ofF32 s.1))
    (t.1, a.2 + s.2 + t.2)) (acc, 0)

/-- Saturate an INT32 accumulator, counting one saturation. -/
def satInt (a : Int) : Int × Nat :=
  if 2 ^ 31 - 1 < a then (2 ^ 31 - 1, 1) else if a < -2 ^ 31 then (-2 ^ 31, 1) else (a, 0)

/-- One integer-class accumulation: over all 64 products at once, or group by group in conformance mode. -/
def accInt (conf : Bool) (acc : Int) (p : List Int) : Int × Nat :=
  if conf then
    (List.range 4).foldl (fun (a : Int × Nat) g =>
      let t := satInt (a.1 + ((p.drop (16 * g)).take 16).sum)
      (t.1, a.2 + t.2)) (acc, 0)
  else satInt (acc + p.sum)

/-! ### Operands (R34 to R38, R49) -/

/-- Whether an encoding is a subnormal of its format. -/
def isSubnormal (f : Fmt) (e : Nat) : Bool := !fmtIsInt f && fld e (fmtMan f) (fmtExp f) = 0 && fld e 0 (fmtMan f) ≠ 0

/-- An element as conformance mode reads it: a subnormal as zero of its sign (R112). -/
def flushElem (f : Fmt) (e : Nat) : Nat := if isSubnormal f e then signBit f (bitOf e (fmtExp f + fmtMan f)) else e

/-- The rows of effective values of a 64 × 64 tile in the tile store, and its invalid codes (R33, R37, R38). -/
def tileVals (m : Mem) (f : Fmt) (b : Blk) (reg scl : Nat) (coarse : Num) (conf : Bool) : List (List Num) × Nat :=
  let rows := (List.range 64).map (fun r => unpackNat (fmtWidth f) 64 (leNat (Mem.bytes m (128 * reg + r * rowBytes f) (rowBytes f))))
  let per := blkRowBytes b
  let fine := (List.range 64).map (fun r => (Mem.bytes m (128 * scl + r * per) per).map (fun x => fineScale b x.toNat))
  let bad := ((fine.map (fun l => (l.filter (fun x => x.2)).length)).sum) +
    (if f = .t2 then (rows.map (fun l => (l.filter (fun e => e = 2)).length)).sum else 0)
  let one : Num := .fin false 1 1
  let vals := (rows.zip fine).map (fun r => r.1.zipIdx.map (fun e =>
    let s := if b = .none then one else (nth (one, false) r.2 (e.2 / blkSize b)).1
    effValue f (if conf then flushElem f e.1 else e.1) s coarse))
  (vals, bad)

/-- The lines of a tile along the reduction: rows for W·x, columns for Wᵀ·x. -/
def reduceLines (dir : Bool) (rows : List (List Num)) : List (List Num) :=
  if dir then (List.range 64).map (fun j => rows.map (fun r => nth .nan r j)) else rows

/-- The integer a whole value is. -/
def Num.toInt : Num → Int
  | .fin s n d => if s then -((n / d : Nat) : Int) else ((n / d : Nat) : Int)
  | _ => 0

/-- Word `e` of an initial-accumulator tile. -/
def accWord (m : Mem) (reg e : Nat) : Nat := leNat (Mem.bytes m (128 * reg + 4 * e) 4)

/-- The initial accumulator of a float-class element as FP32 (R61, R112). -/
def initFloat (x : MMCmd) (w : Nat) : Nat :=
  if x.it = 1 then toF32 (.fin (decide (sx 32 w < 0)) (sx 32 w).natAbs 1)
  else if x.conf then flushElem .fp32 w else w

/-! ### The output's coarse scale (R39, R103) -/

/-- Whether a coarse scale may be used; a subnormal one reads as +0 in conformance mode (R112). -/
def coarseUsable (conf : Bool) (w : Nat) : Bool := coarseOk w && !(conf && isSubnormal .fp32 w)

/-- The reference maximum of a kind: the history's largest entry for G, else the slot's running or last amax; any NaN
among the entries gives NaN. An HCOUNT above 16, which software may write, stands for the 16 entries there are (DESIGN
CHOICE, log 34). -/
def Core.aref (k : Core) (kind slot : Nat) : Nat :=
  if kind = 3 then
    let l := (List.range (min 16 (k.hcount slot))).map (fun i => k.slotWord slot (16 + i))
    match l.find? (fun w => ofF32 w = .nan) with
    | some w => w
    | none => match l with
      | [] => 0
      | w :: ws => ws.foldl maxF32 w
  else if k.slotWord slot 8 ≠ 0 then k.slotWord slot 4
  else k.slotWord slot 5

/-- The output coarse scale chosen at issue; none faults BAD_SCALE. -/
def Core.chooseCoarse (k : Core) (x : MMCmd) (w : Nat) : Option Nat :=
  let checked : Option Nat := if coarseUsable x.conf w then some w else none
  if x.kindO = 0 then checked
  else if x.kindO = 4 then
    match ofF32 w with
    | .fin false n d => if n = 0 then none else some (toF32 (numPow false 1 (floorLog2 n d)))
    | _ => none
  else if 8 < fmtWidth x.fO then some 0x3F800000
  else if x.kindO = 5 && w ≠ 0 then checked
  else match ofF32 (k.aref x.kindO x.slot) with
    | .fin s n d =>
      if n = 0 then checked
      else if s then none
      else
        let mx := fmtMax x.fO
        let smax := if x.bO = .b16 then 448 else 1
        some (max 1 (min 0x7F7FFFFF (convertTo .fp32 .away (.fin false (n * mx.2) (d * mx.1 * smax))).1))
    | _ => none

/-! ### Drain (R41, R61, R68, R69, R107, R114) -/

/-- An output element: encoding stored, event, value before conversion, value stored. -/
structure OutElem where
  code : Nat
  ev : Ev
  pre : Num
  post : Num

/-- An accumulator at drain: the 32-bit word, and the value it stands for. -/
structure AccVal where
  word : Nat
  v : Num

/-- An element in accumulator form. -/
def accElem (a : AccVal) (f32 : Bool) : OutElem :=
  let ev : Ev := match a.v with
    | .fin _ n _ => if n = 0 then .zero else .none
    | _ => .nonfinite
  { code := a.word, ev := ev, pre := a.v, post := if f32 then ofF32 a.word else a.v }

/-- An element converted with its block's scale; conformance mode turns a subnormal into zero (R114). -/
def convElem (x : MMCmd) (sb : Nat) (c : Nat × Nat) (r : Rnd) (a : AccVal) : OutElem :=
  let e := convertScaled x.fO x.bO sb c.1 c.2 r a.v
  if x.conf && isSubnormal x.fO e.1 then
    let z := flushElem x.fO e.1
    { code := z, ev := .zero, pre := a.v, post := decodeElem x.fO z }
  else { code := e.1, ev := e.2, pre := a.v, post := decodeElem x.fO e.1 }

/-- A row of the output: its elements and its scale bytes. -/
def drainRow (x : MMCmd) (c : Nat × Nat) (draw : Nat → Nat) (row : List AccVal) : List OutElem × List Nat :=
  if x.acc then (row.map (fun a => accElem a (!x.isInt)), [])
  else
    let n := blkSize x.bO
    let blocks := (List.range (64 / n)).map (fun b => (b, (row.drop (b * n)).take n))
    let one (b : Nat × List AccVal) : List OutElem × Nat :=
      let a := blockMax (b.2.map (fun v => v.v))
      let sb := chooseScale x.bO x.fO a.1 a.2 c.1 c.2
      (b.2.zipIdx.map (fun v =>
        let r : Rnd := match x.mode with
          | 2 => .rtz
          | 3 => .sr (draw (b.1 * n + v.2))
          | _ => .rne
        convElem x sb c r v.1), sb)
    let l := blocks.map one
    (l.flatMap (fun b => b.1), if x.bO = .none then [] else l.map (fun b => b.2))

/-- The glint word of an element that is non-finite, 0 of any other (R48, R69). -/
def OutElem.glint (e : OutElem) (tile row col : Nat) : Nat :=
  let v := if e.pre.nonfinite then e.pre else e.post
  let tail := tile % 2 ^ 16 * 4096 + row * 64 + col
  match v with
  | .fin .. => 0
  | .nan => 2 ^ 31 + bit (e.pre.nonfinite && !e.post.nonfinite) * 2 ^ 30 + 2 ^ 28 + tail
  | .inf s => 2 ^ 31 + bit (e.pre.nonfinite && !e.post.nonfinite) * 2 ^ 30 + bit s * 2 ^ 29 + tail

/-- The largest finite magnitude as the slot holds it: rounded up to FP32, at most the largest finite value (R107). -/
def amaxWord (l : List Num) : Nat :=
  let a := blockMax l
  if a.1 = 0 then 0 else min 0x7F7FFFFF (convertTo .fp32 .away (.fin false a.1 a.2)).1

/-! ### Product checks (R65) -/

/-- A magnitude. -/
def Num.abs : Num → Num
  | .fin _ n d => .fin false n d
  | .inf _ => .inf false
  | .nan => .nan

/-- Whether a fraction's magnitude exceeds M × 2⁻⁴⁰. -/
def exceeds (d m : Num) : Bool :=
  match d, m with
  | .fin _ n d, .fin _ mn md => decide (mn * d < n * md * 2 ^ 40)
  | _, _ => false

/-- The checksum dot product with one bit of its significand flipped. The check's number format and the bit are not
stated: 64 significant bits as round64 leaves them, bit `b` (DESIGN CHOICE, log 36). -/
def Num.flipBit (x : Num) (b : Nat) : Num :=
  match x with
  | .fin s n d =>
    let q : Int := (if n = 0 then 0 else floorLog2 n d) - 63
    let p := scale2 n d (-q)
    numPow s (roundNat .rne p.1 p.2 ^^^ 2 ^ b) q
  | y => y

/-- The product check of one output row: `lines` is the stationary tile along the reduction, `row` the moving vector. -/
def rowCheck (isInt made : Bool) (lines : List (List Num)) (row : List Num) : RowCheck :=
  let prods := lines.map (fun w => List.zipWith Num.mul w row)
  let sums := (List.range row.length).map (fun j => exactSum (lines.map (fun w => nth (.fin false 0 1) w j)))
  if !made then { made := false, differs := false, finds := 0 }
  else if isInt then
    let a := ((prods.map (fun p => p.map Num.toInt)).map List.sum).sum
    let b := (List.zipWith (fun s x => s.toInt * x.toInt) sums row).sum
    { made := true, differs := decide (a ≠ b), finds := if a = b then 2 ^ 64 - 1 else 0 }
  else
    let a := treeSum64 (prods.map treeSum64)
    let b := treeSum64 (List.zipWith Num.mul sums row)
    let m := exactSum ((prods.flatMap id).map Num.abs)
    { made := true, differs := exceeds (a.add b.neg) m,
      finds := bitsOf ((List.range 64).map (fun i => exceeds (a.add (b.flipBit i).neg) m)) }

/-- A computed output tile. -/
structure TileOut where
  outs : List (Nat × Byte)
  glint : Nat
  zeros : Nat
  sat : Nat
  nonfin : Nat
  invalid : Nat
  amax : Nat
  checks : List RowCheck

/-- Where a command's draws come from: seed, replay, command index, rank, first tile ordinal (R45). -/
structure DrawKey where
  seed : Nat
  replay : Nat
  idx : Nat
  rank : Nat
  tile0 : Nat

/-- The accumulators of one output row: 64 values with the saturations counted. -/
def accRow (x : MMCmd) (m : Mem) (lines : List (List Num)) (t r : Nat) (row : List Num) (cs : Num) : List AccVal × Nat :=
  let init (i : Nat) : Nat := if x.init then accWord m (x.regI + 128 * t) (64 * r + i) else 0
  let l := lines.zipIdx.map (fun w =>
    if x.isInt then
      let a0 : Int := if x.init then sx 32 (init w.2) else 0
      let a := accInt x.conf a0 (List.zipWith (fun a b => a.toInt * b.toInt) w.1 row)
      let v := (Num.fin (decide (a.1 < 0)) a.1.natAbs 1).mul cs
      ((⟨wrapInt 32 a.1, v⟩ : AccVal), a.2)
    else
      let p := List.zipWith Num.mul w.1 row
      let a0 := if x.init then initFloat x (init w.2) else 0
      let a := if x.conf then accConf a0 p else (accFloat a0 p, 0)
      ((⟨a.1, ofF32 a.1⟩ : AccVal), a.2))
  (l.map (fun a => a.1), (l.map (fun a => a.2)).sum)

/-- Compute output tile `t` of a command: `lines` is the stationary tile along the reduction, `cs` the product of the
coarse scales, `cm` the moving one, `co` the output's. -/
def mmTile (x : MMCmd) (m : Mem) (key : DrawKey) (lines : List (List Num)) (finite : Bool) (cs cm co : Num) (t : Nat) : TileOut :=
  let mv := tileVals m x.fM x.bM (x.regM + t * tileGran x.fM) (x.sclM + t * runGran x.bM)
    (if x.isInt then .fin false 1 1 else cm) x.conf
  let c := match co with
    | .fin _ n d => (n, d)
    | _ => (1, 1)
  let ord := key.tile0 + t
  let rows := mv.1.zipIdx.map (fun r =>
    let a := accRow x m lines t r.2 r.1 cs
    let d := drainRow x c (fun col => srDraw key.seed (srCounter key.replay key.idx key.rank ord (64 * r.2 + col))) a.1
    (a, d))
  let elems := rows.flatMap (fun r => r.2.1)
  let width := if x.acc then 32 else fmtWidth x.fO
  let rowLen := 8 * width
  let base := 128 * (x.regO + t * (if x.acc then 128 else tileGran x.fO))
  let body := rows.zipIdx.flatMap (fun r =>
    bytesAtFrom (base + r.2 * rowLen) (leBytes rowLen (packNat width (r.1.2.1.map (fun e => e.code)))))
  let per := blkRowBytes x.bO
  let scales := rows.zipIdx.flatMap (fun r =>
    bytesAtFrom (128 * (x.sclO + t * runGran x.bO) + r.2 * per) (r.1.2.2.map (fun b => BitVec.ofNat 8 b)))
  let glints := rows.zipIdx.flatMap (fun r => r.1.2.1.zipIdx.map (fun e => e.1.glint ord r.2 e.2))
  let count (v : Ev) : Nat := (elems.filter (fun e => decide (e.ev = v))).length
  { outs := body ++ scales, glint := (glints.find? (fun g => g ≠ 0)).getD 0,
    zeros := count .zero, sat := count .sat + (rows.map (fun r => r.1.2)).sum, nonfin := count .nonfinite,
    invalid := mv.2, amax := amaxWord (elems.map (fun e => e.pre)),
    checks := mv.1.map (fun r => rowCheck x.isInt (finite && r.all (fun v => !v.nonfinite)) lines r) }
where
  /-- Bytes at consecutive addresses. -/
  bytesAtFrom (a : Nat) (l : List Byte) : List (Nat × Byte) := l.zipIdx.map (fun b => (a + b.2, b.1))

/-- The whole command: what it holds back until it retires, and the coarse scale its output takes; none faults BAD_SCALE
(R39, R57, R103). -/
def Core.mmCompute (k : Core) (x : MMCmd) (key : DrawKey) (ord : Nat) (w : BitVec 256) : Option (MMRun × Nat) :=
  let m := k.tile
  let word (i : Nat) : Nat := leNat (Mem.bytes m (4 * i) 4)
  let co := if x.acc then some 0x3F800000 else k.chooseCoarse x (word x.csO)
  if !coarseUsable x.conf (word x.csS) || !coarseUsable x.conf (word x.csM) then none
  else match co with
    | none => none
    | some co =>
      let cs := ofF32 (word x.csS)
      let cm := ofF32 (word x.csM)
      let st := tileVals m x.fS x.bS x.regS x.sclS (if x.isInt then .fin false 1 1 else cs) x.conf
      let finite := st.1.all (fun r => r.all (fun v => !v.nonfinite))
      let lines := reduceLines x.dir st.1
      let l := (List.range x.tiles).map (fun t => mmTile x m key lines finite (cs.mul cm) cm (ofF32 co) t)
      let sum (f : TileOut → Nat) : Nat := (l.map f).sum
      some ({ ord := ord, cmd := w, outs := l.flatMap (fun t => t.outs),
              glint := ((l.map (fun t => t.glint)).find? (fun g => g ≠ 0)).getD 0,
              flagged := (l.filter (fun t => decide (t.glint ≠ 0))).length, zeros := sum (fun t => t.zeros),
              sat := sum (fun t => t.sat), nonfin := sum (fun t => t.nonfin), invalid := st.2 + sum (fun t => t.invalid),
              amax := l.foldl (fun a t => max a t.amax) 0, tile0 := key.tile0 % 2 ^ 16,
              checks := l.flatMap (fun t => t.checks), inj := [], flip := false }, co)

/-- The events of a command added to its slot at retirement (R107). -/
def Core.slotRetire (k : Core) (slot : Nat) (m : MMRun) : Core :=
  let k := (((k.slotAdd slot 0 m.zeros).slotAdd slot 1 m.sat).slotAdd slot 2 m.nonfin).slotAdd slot 3 m.invalid
  (k.setSlotWord slot 4 (maxF32 (k.slotWord slot 4) m.amax)).slotAdd slot 8 1

end Sys2Proof.Machine
end

