-- ==== Sys2Proof/Machine/Laps.lean ====
section
/-! DEFINITION. Laps on a core: load, delivery and dispatch, the order among commands, the feeder's transfers, the
address stream, and how a lap completes (04_laps.md: R73 to R99; 05: R108). -/

namespace Sys2Proof.Machine

/-! ### The lap of a core -/

/-- Commands of one replay (at least 1, so that ordinals divide), and of all replays. -/
def LapRun.len (l : LapRun) : Nat := max l.cmds.length 1
def LapRun.total (l : LapRun) : Nat := l.replays * l.cmds.length

/-- Whether a command has completed. -/
def LapRun.isDone (l : LapRun) (ord : Nat) : Bool := ord < l.oldest || l.completed.contains ord

/-- The commands dispatched and not complete, in lap order: ordinal and word. -/
def LapRun.pendingCmds (l : LapRun) : List (Nat × Nat) :=
  (l.win.filter (fun p => !l.isDone p.1)).map (fun p => (p.1, p.2.toNat))

/-- Whether later commands may not begin until the command is complete (R87). -/
def isBarrier (w : Nat) : Bool := cOp w = 0x40 || cOp w = 0x50

/-- Whether a command may begin: no earlier incomplete one is a barrier or shares a granule against R85. -/
def LapRun.mayBegin (l : LapRun) (ord w : Nat) : Bool :=
  l.pendingCmds.all (fun e => ord ≤ e.1 || (!isBarrier e.2 && !conflicts e.2 w))

/-- Whether regions are resident for a command: every earlier command that writes one of their granules is complete
(R85). -/
def LapRun.resident (l : LapRun) (ord : Nat) (regions : List (Nat × Nat)) : Bool :=
  l.pendingCmds.all (fun e => ord ≤ e.1 || !shares (lapWrites e.2) regions)

/-- The lap of a core with its launch. -/
def State.lapOn (s : State) (c : Nat) : Option (LapRun × Launch) :=
  match (s.core c).lap with
  | some l => (s.launch l.launch).map (fun x => (l, x))
  | none => none

/-- Whether the lap runs: loaded, and nothing has stopped it. -/
def lapGoing (l : LapRun) (x : Launch) : Bool := x.loaded && x.status = 0 && l.stop = 0 && !x.complete

/-- A fault of the command with an ordinal. -/
def LapRun.fault (l : LapRun) (ord status : Nat) : LapFault :=
  LapFault.of status (cTag (l.cmd ord)) (ord % l.len) (ord / l.len % 2 ^ 16)

def State.setLap (s : State) (c : Nat) (l : LapRun) : State := s.setCore c { s.core c with lap := some l }

/-- Whether a fault of a command about to begin is next in lap order: no earlier command that has begun can still stop
the lap (R71, DEDUCED, log 42). -/
def Core.clearBefore (k : Core) (l : LapRun) (ord : Nat) : Bool :=
  k.array.issued.all (fun m => ord ≤ m.ord) && l.feeding.all (fun f => ord ≤ f.ord)

/-! ### Dispatch (R78, R86, R93) -/

/-- Whether the window has room for the next command: at most 64 beyond the oldest incomplete one. -/
def LapRun.room (l : LapRun) : Bool := l.next ≤ l.oldest + 64 && l.next < l.total

/-- The window without the commands that no later command looks back on. -/
def LapRun.prune (l : LapRun) (last : Option Nat) : LapRun :=
  let lo := match last with
    | some o => min o l.oldest
    | none => l.oldest
  { l with win := l.win.filter (fun p => lo ≤ p.1) }

/-- The list cache after dispatch of command index `i`: a lap of more than 1,024 commands gives a block up once
dispatch has passed it. -/
def LapRun.passed (l : LapRun) (i : Nat) : Tab (BitVec 256) :=
  if 1024 < l.len && (i % 128 = 127 || i + 1 = l.len) then l.cache.filter (fun p => p.1 / 128 ≠ i / 128) else l.cache

/-- Dispatch the next command, fetched as `w`: checked again, and the lap stops with LAP_CHANGED where it fails. A NOP
completes at once (R82). -/
def State.dispatchAs (s : State) (c : Nat) (w : BitVec 256) : State :=
  match s.lapOn c with
  | none => s
  | some (l, _) =>
    let i := l.next % l.len
    if changedBad s.optionalUnits (l.cmds.map (fun x => x.toNat)) i w.toNat then
      s.lapStop c l.next { l.fault l.next Stat.lapChanged with ltag := cTag w.toNat } true
    else
      let l' := { l with win := Tab.put l.win l.next w, next := l.next + 1, cache := l.passed i }
      let t := s.setLap c (l'.prune ((s.core c).array.last.map (fun m => m.1)))
      if cOp w.toNat = 0x01 then t.lapDone c l.next else t

/-- Free-running dispatch of what is cached, while the window has room, up to a NOP, whose dispatch is LAP_NOP's. Fuel:
65 commands. -/
def State.dispatchN (s : State) (c : Nat) : Nat → State
  | 0 => s
  | n + 1 =>
    match s.lapOn c with
    | some (l, x) =>
      if lapGoing l x && !x.paced && l.room then
        match l.cache.look (l.next % l.len) with
        | some w => if cOp w.toNat = 0x01 then s else (s.dispatchAs c w).dispatchN c n
        | none => s
      else s
    | none => s

def State.dispatch (s : State) (c : Nat) : State := s.dispatchN c 65

/-- A lap event on a core: dispatch goes on before it and after it. -/
def State.onLap (s : State) (c : Nat) (f : State → State) : Res :=
  onUnit (c < s.nCores) <| if s.alive then .next ((f (s.dispatch c)).dispatch c) else .next s

/-- The same with the lap and launch at hand. -/
def State.lapEvent (s : State) (c : Nat) (f : LapRun → Launch → State → State) : Res :=
  s.onLap c fun s => match s.lapOn c with
    | some (l, x) => f l x s
    | none => s

/-! ### Reading and writing memory for a core (R92, R93, R155) -/

/-- Bytes of physical memory as the feeder of core `c` reads them through its cluster cache; bytes dirty in the core's L1 take the
L1's data (R155). -/
def State.feederRead (s : State) (c : Nat) (alloc : Bool) (pa n : Nat) : State × List Byte :=
  let r := (linesOf pa n).foldl (fun (r : State × List Byte) line =>
    let x := r.1.readLine (c / 8) (some c) alloc line
    let d := match (x.1.core c).l1.look line with | some l => setBytes x.2 l.dirtyBytes | none => x.2
    (x.1, r.2 ++ leBytes 128 d)) (s, [])
  (r.1, (r.2.drop (pa % 128)).take n)

/-- A write of the feeder: the core's L1 gives up what it covers, and the cluster cache handles it as the page's attribute says,
behind the stores it has accepted (R155, R175). -/
def State.feederWrite (s : State) (c attr pa : Nat) (bytes : List Byte) : State :=
  let s := (linesOf pa bytes.length).foldl (fun s line =>
    s.l1Inval c line ((List.range 128).filter (fun o => pa ≤ 128 * line + o && 128 * line + o < pa + bytes.length))) s
  s.physWrite (c / 8) (attr = Attr.wa || attr = Attr.uc) pa bytes

/-- An access of the lap list: only the feeder, and the DMA engines, may name key-value pages. -/
def listReq (x : Launch) : XReq := { ctx := some x.ctx, write := false, devOk := false, kOk := true }
/-- An access of the feeder. -/
def feedReq (x : Launch) (write : Bool) : XReq := { ctx := some x.ctx, write := write, devOk := false, kOk := true }

/-- Read a part of the lap list through cluster `k`'s cache; a status where a page does not translate. -/
def State.readList (s : State) (x : Launch) (k va n : Nat) : State × (List Byte ⊕ Nat) :=
  (pagesOf va n).foldl (fun (r : State × (List Byte ⊕ Nat)) p =>
    match r.2 with
    | .inr _ => r
    | .inl b => match s.xlate x.part x.stamp (listReq x) p.1 with
      | .inl t =>
        let y := r.1.physRead k none (t.attr ≠ Attr.uc) t.pa p.2
        (y.1, .inl (b ++ y.2))
      | .inr e => (r.1, .inr e.1)) (s, .inl [])

/-- The commands in the bytes of a list. -/
def cmdsOf (b : List Byte) : List (BitVec 256) :=
  (List.range (b.length / 32)).map (fun i => BitVec.ofNat 256 (leNat ((b.drop (32 * i)).take 32)))

/-! ### Lap load (R77) -/

/-- A launch that lap load refuses: a record with core 0xFF, and the launch ends (R393). -/
def State.refuseLap (s : State) (i : Nat) (x : Launch) (status index ofs tag : Nat) : State :=
  let s := s.faultRec (lapRecord x 0xFF { LapFault.of status tag index 0 with fieldofs := ofs })
  s.setLaunch i { x with status := status, stops := [(1000, status)] }

/-- Status of a failed check by its place in the table of R77. -/
def badStatus (rank : Nat) : Nat :=
  match rank with
  | 2 => Stat.badOpcode | 3 => Stat.badFormat | 4 => Stat.badField | 5 => Stat.badRegion | _ => Stat.absentUnit

/-- LAP_LOAD: the whole lap is read and checked before any core runs it. -/
def State.loadLap (s : State) (i : Nat) (x : Launch) : State :=
  let k := x.place.headD 0 / 8
  if x.addr % 32 ≠ 0 || 2 ^ 48 ≤ x.addr || x.ncmd = 0 || 4096 < x.ncmd then s.refuseLap i x Stat.badLap 0 0 0
  else match s.readList x k x.addr (32 * x.ncmd) with
    | (s, .inr st) => s.refuseLap i x (if st = Stat.staleObject then st else Stat.badLap) 0 0 0
    | (s, .inl b) =>
      if x.paced && (x.place.any (fun c => c / 8 ≠ k) || 8 < x.place.length) then s.refuseLap i x Stat.pacedSpan 0 0 0
      else
        let cmds := cmdsOf b
        match lapBad s.optionalUnits (cmds.map (fun w => w.toNat)) with
        | some e => s.refuseLap i x (badStatus e.rank) e.index e.ofs (cTag (nth 0 cmds e.index).toNat)
        | none =>
          let s := s.setLaunch i { x with loaded := true }
          x.place.foldl (fun s c => match (s.core c).lap with
            | some l => if l.launch = i then s.setLap c { l with cmds := cmds, lastDone := s.time } else s
            | none => s) s

/-- LAP_LOAD. -/
def execLapLoad (launch : Nat) (s : State) : Res :=
  match s.launch launch with
  | none => .next s
  | some x => guarded (s.alive && x.lap && !x.loaded && x.status = 0 && x.replays ≠ 0) s (s.loadLap launch x)

/-! ### Delivery (R93, R94) -/

/-- LIST_FETCH: a block of 128 commands, at most 4 ahead of dispatch, enters the core's list cache; the cycles dispatch
waited are a free value (DESIGN CHOICE, log 16). A block that cannot be read stops the lap once dispatch is at it (DEDUCED, log 43). -/
def execListFetch (core block : Nat) (s : State) : Res :=
  s.lapEvent core fun l x s =>
    let n := (l.len + 127) / 128
    let i := l.next % l.len / 128
    let ahead := (block + n - i) % n
    let more := i + ahead < n || l.len ≤ 1024 || l.next / l.len + 1 < l.replays
    if !lapGoing l x || x.paced || l.total ≤ l.next || n ≤ block || 4 < ahead || !more || (l.cache.look (128 * block)).isSome then s
    else
      let va := x.addr + 4096 * block
      let s := s.tlbUse core x.part va
      match s.readList x (core / 8) va (32 * min 128 (l.len - 128 * block)) with
      | (s, .inl b) =>
        let cache := (cmdsOf b).zipIdx.foldl (fun t w => Tab.put t (128 * block + w.2) w.1) l.cache
        (s.setLap core { l with cache := cache }).accrue [Reg.mtxListWait core]
      | (s, .inr st) =>
        if ahead = 0 then s.lapStop core l.next (l.fault l.next (if st = Stat.staleObject then st else Stat.lapChanged)) true
        else s

/-- The cores of a launch on which its lap still stands. -/
def State.lapCores (s : State) (i : Nat) (x : Launch) : List (Nat × LapRun) :=
  x.place.filterMap (fun c => match (s.core c).lap with
    | some l => if l.launch = i then some (c, l) else none
    | none => none)

/-- PACED_BROADCAST: the sequencer, which reads the lap once a replay, gives the next command to every core, while each
has room. -/
def State.broadcast (s : State) (i : Nat) (x : Launch) : State :=
  let cs := s.lapCores i x
  let c0 := x.place.headD 0
  let n := max x.ncmd 1
  if x.replays * x.ncmd ≤ x.seqNext || cs.any (fun p => p.2.oldest + 64 < x.seqNext) then s
  else
    let lap := if x.seqNext % n = 0 then s.readList x (c0 / 8) x.addr (32 * x.ncmd) else (s, .inl [])
    match lap with
    | (s, .inr st) =>
      (match (s.core c0).lap with
       | some l => s.lapStop c0 l.next (l.fault l.next (if st = Stat.staleObject then st else Stat.lapChanged)) true
       | none => s)
    | (s, .inl b) =>
      let seq := if x.seqNext % n = 0 then cmdsOf b else x.seqLap
      let w := nth 0 seq (x.seqNext % n)
      let s := s.setLaunch i { x with seqLap := seq, seqNext := x.seqNext + 1 }
      cs.foldl (fun s p => match s.lapOn p.1 with
        | some (l, y) => if lapGoing l y then s.dispatchAs p.1 w else s
        | none => s) s

/-- PACED_BROADCAST. -/
def execPacedBroadcast (launch : Nat) (s : State) : Res :=
  match s.launch launch with
  | none => .next s
  | some x => guarded (s.alive && x.lap && x.loaded && x.paced && x.status = 0) s (s.broadcast launch x)

/-! ### Front-end commands (R82, R87) -/

/-- LAP_NOP: dispatch reaches a NOP, which completes in the same instant. -/
def execLapNop (core : Nat) (s : State) : Res :=
  s.lapEvent core fun l x s =>
    match l.cache.look (l.next % l.len) with
    | some w => if lapGoing l x && !x.paced && l.room && cOp w.toNat = 0x01 then s.dispatchAs core w else s
    | none => s

/-- WAITB: waits on its baton from the moment no earlier barrier is incomplete. -/
def execWaitb (core : Nat) (s : State) : Res :=
  s.lapEvent core fun l x s =>
    match l.pendingCmds.find? (fun e => isBarrier e.2) with
    | some (ord, w) =>
      if cOp w ≠ 0x40 || l.waiting.isSome || !lapGoing l x then s
      else
        let b := fld w 64 13
        let r := s.batonWait b (.lap core) (s.lapActor core ord) (some core)
        if r.2.1 ≠ Stat.ok then r.1.lapStop core ord (l.fault ord r.2.1) true
        else if r.2.2 then r.1.lapDone core ord
        else (match (r.1.core core).lap with
          | some l => r.1.setLap core { l with waiting := some (ord, b) }
          | none => r.1)
    | none => s

/-- SIGB: performed when every earlier command has completed. -/
def execSigb (core : Nat) (s : State) : Res :=
  s.lapEvent core fun l x s =>
    match l.pendingCmds.head? with
    | some (ord, w) =>
      if ord ≠ l.oldest || cOp w ≠ 0x41 || !lapGoing l x then s
      else
        let r := s.batonSignal (fld w 64 13) (fld w 96 16) (s.lapActor core ord) (some core)
        if r.2 = Stat.ok then r.1.lapDone core ord else r.1.lapStop core ord (l.fault ord r.2) true
    | none => s

/-- A HEALTH command with sub-operation `sub` that is the oldest incomplete command begins. -/
def State.onHealth (s : State) (c sub : Nat) (f : LapRun → Nat → Nat → State → State) : Res :=
  s.lapEvent c fun l x s =>
    match l.pendingCmds.head? with
    | some (ord, w) =>
      if ord ≠ l.oldest || cOp w ≠ 0x50 || fld w 24 2 ≠ sub || l.feeding.any (fun r => r.ord = ord) || !lapGoing l x then s
      else f l ord w s
    | none => s

/-- HEALTH_CLEAR. -/
def execHealthClear (core : Nat) (s : State) : Res :=
  s.onHealth core 1 fun _ ord w s =>
    let k := (List.range (fld w 72 8 + 1)).foldl (fun k i => k.slotClear (fld w 64 8 + i)) (s.core core)
    (s.setCore core k).lapDone core ord

/-- HEALTH_SUM. -/
def execHealthSum (core : Nat) (s : State) : Res :=
  s.onHealth core 2 fun _ ord w s =>
    (s.setCore core ((s.core core).slotSum (fld w 64 8) (fld w 72 8 + 1) (fld w 80 8))).lapDone core ord

/-! ### The address stream (R88 to R91) -/

/-- What taking entries of the stream comes to. -/
inductive Taken where
  | wait
  | bad (status dtag : Nat)
  | ok (descs : List (BitVec 128)) (rest : List AsEntry)

/-- Pop the markers of `n` replays. -/
def popMarkers : Nat → List AsEntry → Taken
  | 0, st => .ok [] st
  | _ + 1, [] => .wait
  | n + 1, .marker _ :: st => popMarkers n st
  | _ + 1, .desc d :: _ => .bad Stat.descExcess (fld d.toNat 112 16)

/-- Take `n` descriptors; none of them may be a marker. -/
def takeDescs : Nat → List AsEntry → List (BitVec 128) → Taken
  | 0, st, ds => .ok ds st
  | _ + 1, [], _ => .wait
  | _ + 1, .marker _ :: _, _ => .bad Stat.descShort 0
  | n + 1, .desc d :: st, ds => takeDescs n st (ds ++ [d])

/-- Take the descriptors of a command of replay `k` whose earlier replays have `due` markers to pop, and check them: a
malformed one first, then one of another USE (R89, R90). -/
def takeFor (due : Nat) (uses : List Nat) (st : List AsEntry) : Taken :=
  match popMarkers due st with
  | .ok _ st =>
    (match takeDescs uses.length st [] with
     | .ok ds rest =>
       (match ds.find? (fun d => descBad d.toNat) with
        | some d => .bad Stat.badDesc (fld d.toNat 112 16)
        | none => match (ds.zip uses).find? (fun p => fld p.1.toNat 48 4 ≠ p.2) with
          | some p => .bad Stat.descMismatch (fld p.1.toNat 112 16)
          | none => .ok ds rest)
     | r => r)
  | r => r

/-- A command that consumes descriptors begins: it takes them and its transfer is in progress; the cycles it waited are a
free value (DESIGN CHOICE, log 16). -/
def State.beginFeed (s : State) (c : Nat) (l : LapRun) (ord w : Nat) : State :=
  let k := s.core c
  let due := ord / l.len - l.popped
  match takeFor due (descUses w) k.stream with
  | .wait => s
  | .bad st dtag => if k.clearBefore l ord then s.lapStop c ord { l.fault ord st with dtag := dtag } true else s
  | .ok ds rest =>
    let lap := { l with feeding := l.feeding ++ [{ ord := ord, descs := ds }], popped := max l.popped (ord / l.len) }
    let s := s.setCore c { k with stream := rest, lap := some lap }
    (s.count (Reg.mtxDescUsed c) ds.length).accrue [Reg.mtxDescWait c]

/-- The next feeder command in lap order: the first LOAD, STORE or SCALE that has not begun (R86). -/
def LapRun.nextFeed (l : LapRun) : Option (Nat × Nat) :=
  l.pendingCmds.find? (fun e => (cOp e.2 = 0x20 || cOp e.2 = 0x21 || cOp e.2 = 0x30) && !l.feeding.any (fun f => f.ord = e.1))

/-- The feeder begins its next command when that has the opcode and R85 allows it. -/
def State.onFeed (s : State) (c op : Nat) (f : LapRun → Nat → Nat → State → State) : Res :=
  s.lapEvent c fun l x s =>
    match l.nextFeed with
    | some (ord, w) => if cOp w = op && lapGoing l x && l.mayBegin ord w then f l ord w s else s
    | none => s

/-- LOAD begins. -/
def execLoad (core : Nat) (s : State) : Res := s.onFeed core 0x20 (fun l ord w s => s.beginFeed core l ord w)
/-- STORE begins. -/
def execStore (core : Nat) (s : State) : Res := s.onFeed core 0x21 (fun l ord w s => s.beginFeed core l ord w)
/-- HEALTH STORE begins. -/
def execHealthStore (core : Nat) (s : State) : Res := s.onHealth core 0 (fun l ord w s => s.beginFeed core l ord w)

/-- SCALE: the coarse-scale word is written at once. -/
def execScale (core : Nat) (s : State) : Res :=
  s.onFeed core 0x30 fun _ ord w s =>
    let k := s.core core
    let s := s.setCore core { k with tile := Mem.write k.tile (4 * fld w 64 18) (leBytes 4 (fld w 96 32)) }
    (s.count (Reg.mtxFeedBytes core) 4).lapDone core ord

/-- MARKER_POP: a replay's marker goes once its commands are complete and its run has returned; a descriptor at the head
is one too many, charged to the replay's last command. -/
def execMarkerPop (core : Nat) (s : State) : Res :=
  s.lapEvent core fun l x s =>
    let k := l.popped
    if !lapGoing l x || l.returned ≤ k || l.oldest < (k + 1) * l.len then s
    else
      let last := (k + 1) * l.len - 1
      match (s.core core).stream with
      | .marker _ :: st => s.setCore core { s.core core with stream := st, lap := some { l with popped := k + 1 } }
      | .desc d :: _ => s.lapStop core last { l.fault last Stat.descExcess with dtag := fld d.toNat 112 16 } true
      | [] => s

/-- ADDRESS_PROGRAM_RUN: the run for the next replay starts: s0 the replay, s1 the rank, s2 the argument, s3 the packet
tag, the other registers as the last run left them (R91, R145). -/
def execAddressProgramRun (core : Nat) (s : State) : Res :=
  s.lapEvent core fun l x s =>
    let k := (s.core core).coach
    if !lapGoing l x || k.running || l.replays ≤ l.returned then s
    else
      let k := (((k.setReg 0 l.returned).setReg 1 l.rank).setReg 2 x.arg).setReg 3 x.ptag
      s.setCoach core { k with running := true, pc := x.entry, loops := [], wait := .none, awaits := [], acq := false, rel := false }

/-! ### Transfers (R90, R92) -/

/-- A piece cut at the page ends. -/
def Piece.parts (p : Piece) : List Piece :=
  (pagesOf p.va p.len).map (fun q => { p with va := q.1, ts := p.ts + (q.1 - p.va), len := q.2 })

/-- The parts of a transfer, in its order. -/
def LapRun.parts (l : LapRun) (f : FeedRun) : List Piece :=
  (feedPieces (l.cmd f.ord) (f.descs.map (fun d => d.toNat))).flatMap Piece.parts

/-- The first part of a transfer that does not translate, with status and reason. -/
def State.feedFault (s : State) (x : Launch) (write : Bool) (ps : List Piece) : Option (Piece × Nat × Nat) :=
  ps.findSome? (fun p => match s.xlate x.part x.stamp (feedReq x write) p.va with
    | .inl _ => none
    | .inr e => some (p, e))

/-- Move one part of a LOAD, or of a STORE or HEALTH STORE. -/
def State.movePiece (s : State) (c : Nat) (x : Launch) (w : Nat) (p : Piece) : State :=
  let write := isStore (cOp w)
  let s := s.tlbUse c x.part p.va
  match s.xlate x.part x.stamp (feedReq x write) p.va with
  | .inr _ => s
  | .inl t =>
    let s := if cOp w = 0x50 then s else s.count (Reg.mtxFeedBytes c) p.len
    let s := (s.tally (s.workMeter x) Site.feederBytes (c / 80) p.len).tally (s.workMeter x) Site.tileBytes (c / 80) p.len
    let k := s.core c
    if write then
      s.feederWrite c t.attr t.pa (Mem.bytes (if cOp w = 0x50 then k.health else k.tile) p.ts p.len)
    else
      let r := s.feederRead c (t.attr ≠ Attr.uc) t.pa p.len
      let k := r.1.core c
      let s := r.1.setCore c { k with tile := Mem.write k.tile p.ts r.2 }
      if t.k then s.count (Reg.dbgKvRead x.part) p.len else s

def State.movePieces (s : State) (c : Nat) (x : Launch) (w : Nat) (ps : List Piece) : State :=
  ps.foldl (fun s p => s.movePiece c x w p) s

/-- A transfer leaves the feeder. -/
def State.endFeed (s : State) (c : Nat) (f : FeedRun) : State :=
  match (s.core c).lap with
  | some l => s.setLap c { l with feeding := l.feeding.erase f }
  | none => s

/-- The oldest transfer of a kind completes: its bytes have moved. -/
def State.completeFeed (s : State) (c : Nat) (store : Bool) : Res :=
  s.lapEvent c fun l x s =>
    match (if store then l.stores else l.loads).head? with
    | none => s
    | some f =>
      let w := l.cmd f.ord
      let ps := l.parts f
      if (s.feedFault x store ps).isSome then s
      else (((s.movePieces c x w ps).endFeed c f).lapDone c f.ord).pump

/-- LOAD_COMPLETE. -/
def execLoadComplete (core : Nat) (s : State) : Res := s.completeFeed core false
/-- STORE_COMPLETE: memory has acknowledged the last write of a STORE or of a HEALTH STORE. -/
def execStoreComplete (core : Nat) (s : State) : Res := s.completeFeed core true

/-- FEEDER_PAGE_FAULT: the oldest transfer that meets a page it may not use has moved every byte before it; a LOAD's
regions are left not resident. -/
def execFeederPageFault (core : Nat) (s : State) : Res :=
  s.lapEvent core fun l x s =>
    match l.feeding.findSome? (fun f =>
      let ps := l.parts f
      (s.feedFault x (isStore (cOp (l.cmd f.ord))) ps).map (fun e => (f, ps, e))) with
    | none => s
    | some (f, ps, p, st, reason) =>
      let w := l.cmd f.ord
      let s := (s.endFeed core f).lose core (lapWrites w)
      let s := s.movePieces core x w (ps.takeWhile (fun q => q ≠ p))
      let s := if st = Stat.pageFault then (s.tlbUse core x.part p.va).countPf x.part else s
      (s.lapStop core f.ord { l.fault f.ord st with dtag := p.dtag, addr := p.va, reason := reason } true).pump

/-! ### Completion (R76, R96, R97) -/

/-- Whether every store of a core's coach core has been performed (R97, R168). -/
def State.coachQuiet (s : State) (c : Nat) : Bool :=
  (s.core c).coach.sq.isEmpty && !(s.agent (c / 8)).accepted.any (fun x => x.core = some c)

/-- LAP_LAUNCH_COMPLETE: every core of the list has run its lap, or has drained after a stop. -/
def execLapLaunchComplete (launch : Nat) (s : State) : Res :=
  match s.launch launch with
  | none => .next s
  | some x =>
    let cs := s.lapCores launch x
    let ended := x.replays = 0 || cs.all (fun p => s.lapOver p.1 && s.coachQuiet p.1)
    guarded (s.alive && x.lap && !x.complete && ended && (x.loaded || x.status ≠ 0 || x.replays = 0)) s
      (cs.foldl (fun s p =>
        let k := s.core p.1
        s.setCore p.1 { k with lap := none, array := { k.array with behind := [] } })
        (s.setLaunch launch { x with complete := true }))

/-- STATE of MTX_LAP_STATUS: 0 idle, the lap of the core being over; 1 loading; 2 running; 3 stopping (R100). -/
def State.lapState (s : State) (c : Nat) : Nat :=
  match s.lapOn c with
  | some (l, x) => if s.lapOver c then 0 else if !x.loaded then 1 else if x.status != 0 || l.stop != 0 then 3 else 2
  | none => 0

/-! ### Health slot words (R109) -/

/-- Bits of a word of a health slot that are not reserved (R106). -/
def slotMask (i : Nat) : Nat := if i = 7 then 0xFF0F else if 9 ≤ i && i < 16 then 0 else 2 ^ 32 - 1

/-- A write of MTX_SLOT_DATA word `i` of core `c`: ignored with WERR while MTX_LAP_STATUS.STATE is not 0. -/
def State.slotDataWrite (s : State) (c i v : Nat) : State :=
  if s.lapState c ≠ 0 then s.setRegFld (Reg.mtxSlotSel c) 31 1 1
  else
    let k := s.core c
    s.setCore c (k.setSlotWord (s.reg (Reg.mtxSlotSel c) % 256) i (v % 2 ^ 32 &&& slotMask i))

/-- SLOT_DATA_WRITE. -/
def execSlotDataWrite (fn core word value : Nat) (s : State) : Res :=
  onUnit (core < s.nCores && word < 32) <| s.byFn fn (s.actsForCore fn core) (fun s => s.slotDataWrite core word value)

end Sys2Proof.Machine
end

