-- ==== Sys2Proof/Machine/Array.lean ====
section
/-! DEFINITION. The matrix array of a core: the stationary loader, issue, the paced handshake, retirement, checksum
mismatches with the core fence, and the lap watchdog (03_matrix_array.md: R54 to R72; 04: R94, R98; 00: R6, R7). -/

namespace Sys2Proof.Machine

/-! ### The stationary loader (R54, R55) -/

/-- MMs dispatched and not issued, in lap order. -/
def Core.unissued (k : Core) (l : LapRun) : List (Nat × Nat) :=
  l.pendingCmds.filter (fun e => cOp e.2 = 0x10 && (match k.array.last with | some m => decide (m.1 < e.1) | none => true))

/-- The stationary region and its scale run. -/
def MMCmd.stationary (x : MMCmd) : List (Nat × Nat) := [(x.regS, tileGran x.fS), (x.sclS, runGran x.bS)]

/-- A coarse-scale word, once every earlier command that writes its granule is complete. -/
def Core.coarseAt (k : Core) (l : LapRun) (ord cs : Nat) : Option Nat :=
  if l.resident ord [wordGran cs] then some (leNat (Mem.bytes k.tile (4 * cs) 4)) else none

/-- Whether an MM needs a load (R55); none while a coarse scale that decides it is not resident. -/
def Core.needsLoad (k : Core) (l : LapRun) (ord w : Nat) : Option Bool :=
  let x := mmOf w
  match (l.win.filter (fun p => p.1 < ord && cOp p.2.toNat = 0x10)).getLast? with
  | none => some true
  | some (po, pw) =>
    let y := mmOf pw.toNat
    let same := x.regS = y.regS && x.fmtS = y.fmtS && x.bS = y.bS && (x.bS = .none || x.sclS = y.sclS)
    let written := l.win.any (fun p => po < p.1 && p.1 < ord && shares (lapWrites p.2.toNat) x.stationary)
    if !same || written then some true
    else
      let before := match k.array.last with
        | some m => if m.1 = po then some m.2.1 else k.coarseAt l po y.csS
        | none => k.coarseAt l po y.csS
      match before, k.coarseAt l ord x.csS with
      | some a, some b => some (decide (a ≠ b))
      | _, _ => none

/-- The earliest MM that has not issued and needs a load; none while that is not decided. -/
def Core.toLoad (k : Core) (l : LapRun) : List (Nat × Nat) → Option (Nat × Nat)
  | [] => none
  | (ord, w) :: rest =>
    match k.needsLoad l ord w with
    | some true => some (ord, w)
    | some false => k.toLoad l rest
    | none => none

/-- STATIONARY_LOAD: the loader starts once the shadow bank is free and the region and scale run are resident. -/
def execStationaryLoad (core : Nat) (s : State) : Res :=
  s.lapEvent core fun l x s =>
    let k := s.core core
    match k.toLoad l (k.unissued l) with
    | some (ord, w) =>
      if lapGoing l x && k.array.shadow.isNone && l.resident ord (mmOf w).stationary then
        s.setCore core { k with array := { k.array with shadow := some { ord := ord, complete := false, flip := false } } }
      else s
    | none => s

/-- STATIONARY_LOAD_COMPLETE; an armed injection flips a bit of a cell register after it (R72). -/
def execStationaryLoadComplete (core : Nat) (s : State) : Res :=
  s.lapEvent core fun _ _ s =>
    let k := s.core core
    match k.array.shadow with
    | some h =>
      if h.complete then s
      else
        let shadow := some { h with complete := true, flip := k.array.injCell }
        s.setCore core { k with array := { k.array with shadow := shadow, injCell := false } }
    | none => s

/-! ### Issue (R56, R57, R94) -/

/-- The next MM to issue, when checks 2, 3 and 4 of R56 hold: its ordinal, its word, whether it takes the shadow bank. -/
def Core.gate (k : Core) (l : LapRun) : Option (Nat × Nat × Bool) :=
  match (k.unissued l).head? with
  | none => none
  | some (ord, w) =>
    if !l.mayBegin ord w then none
    else match k.needsLoad l ord w with
      | some false => some (ord, w, false)
      | some true => if k.array.shadow.any (fun h => h.ord = ord && h.complete) then some (ord, w, true) else none
      | none => none

/-- Rows of a command whose product check is made. -/
def MMRun.madeRows (m : MMRun) : List Nat := (m.checks.zipIdx.filter (fun r => r.1.made)).map Prod.snd

/-- Whether the product check of a row mismatches: by its own sums, or by the bit an injected error flips in it (R65). -/
def MMRun.mismatch (m : MMRun) (r : Nat) : Bool :=
  let c := nth { made := false, differs := false, finds := 0 } m.checks r
  c.made && (match m.inj.find? (fun i => i.1 = r) with
    | some i => bitOf c.finds i.2
    | none => c.differs)

/-- Whether a check of the command mismatches: the hold check, or a row's product check. -/
def MMRun.fails (m : MMRun) : Bool := m.flip || (List.range m.checks.length).any m.mismatch

/-- An armed injection hits the first product check the command makes; a command that makes none leaves it armed. Which
bit it flips is free (R72). -/
def State.armed (s : State) (c : Nat) (m : MMRun) : State × MMRun :=
  let k := s.core c
  match k.array.injProduct, m.madeRows with
  | true, r :: _ =>
    ((s.setCore c { k with array := { k.array with injProduct := false } }).useFree 1,
     { m with inj := [(r, s.freeVal 6)] })
  | _, _ => (s, m)

/-- A command that passed its checks issues: the banks swap, the recipe's coarse scale is written, its results are held
back (R54, R62, R103); cycles held at the gate are free values (DESIGN CHOICE, log 16). -/
def State.issueNow (s : State) (c : Nat) (l : LapRun) (x : MMCmd) (m : MMRun) (co : Nat) (swap : Bool) : State :=
  let r := s.armed c m
  let s := r.1
  let k := s.core c
  let a := k.array
  let flip := if swap then a.shadow.any (fun h => h.flip) else a.flip
  let coarse := leNat (Mem.bytes k.tile (4 * x.csS) 4)
  let array := { a with bank := a.bank != swap, shadow := if swap then none else a.shadow, flip := flip,
                        last := some (m.ord, coarse, m.cmd.toNat),
                        issued := a.issued ++ [{ r.2 with flip := flip }] }
  let tile := if x.kindO = 0 then k.tile else Mem.write k.tile (4 * x.csO) (leBytes 4 co)
  let i := m.ord % l.len
  let lap := { l with tiles := Tab.set 0 l.tiles i (Tab.get 0 l.tiles i + x.tiles), ready := none, go := none }
  let s := s.setCore c { k with array := array, tile := tile, lap := some (lap.prune (some m.ord)) }
  let s := (s.accrue [Reg.mtxIssueWait c, Reg.mtxOutWait c]).count (Reg.mtxActive c) x.stream
  match s.launch l.launch with
  | some y => (s.tally (s.workMeter y) (Site.macs + x.rateRow) (c / 80) (262144 * x.tiles)).tally (s.workMeter y)
      Site.tileBytes (c / 80) x.tileBytes
  | none => s

/-- MM: the earliest MM not issued issues, or faults with BAD_SCALE or OVERLAP once no earlier command can still stop
the lap. -/
def execMm (core : Nat) (s : State) : Res :=
  s.lapEvent core fun l x s =>
    let k := s.core core
    match k.gate l with
    | none => s
    | some (ord, w, swap) =>
      if !lapGoing l x || (x.paced && l.go ≠ some ord) then s
      else
        let i := ord % l.len
        let key : DrawKey := ⟨x.seed, ord / l.len % 2 ^ 16, i, l.rank, Tab.get 0 l.tiles i⟩
        let fail (st : Nat) : State := if k.clearBefore l ord then s.lapStop core ord (l.fault ord st) true else s
        match k.mmCompute (mmOf w) key ord (BitVec.ofNat 256 w) with
        | none => fail Stat.badScale
        | some (m, co) => if (mmOf w).overlaps then fail Stat.overlap else s.issueNow core l (mmOf w) m co swap

/-- PACED_READY: raised for the next MM once checks 2, 3 and 4 hold for it. -/
def execPacedReady (core : Nat) (s : State) : Res :=
  s.lapEvent core fun l x s =>
    match (s.core core).gate l with
    | some (ord, _, _) =>
      if lapGoing l x && x.paced && l.ready.isNone then s.setLap core { l with ready := some ord } else s
    | none => s

/-- PACED_GO: READY seen for one MM from every core of the list; cycles between are a free value (DESIGN CHOICE, log 16). -/
def execPacedGo (launch : Nat) (s : State) : Res :=
  match s.launch launch with
  | none => .next s
  | some x =>
    let cs := s.lapCores launch x
    let ord := ((cs.head?).bind (fun p => p.2.ready)).getD 0
    let all := !cs.isEmpty && cs.length = x.place.length && cs.all (fun p => p.2.ready = some ord && p.2.go.isNone)
    guarded (s.alive && x.lap && x.paced && x.loaded && x.status = 0 && all) s
      (cs.foldl (fun s p =>
        (s.setLap p.1 { p.2 with go := some ord }).accrue [Reg.mtxHskWait p.1]) s)

/-! ### Retirement (R64, R70, R107) -/

/-- The oldest issued command retires: outputs, health counts, glint. -/
def State.retire (s : State) (c : Nat) (l : LapRun) (x : Launch) (m : MMRun) : State :=
  let k := s.core c
  let cmd := mmOf m.cmd.toNat
  let tile := m.outs.foldl (fun t b => Mem.setByte t b.1 b.2) k.tile
  let k := ({ k with tile := tile, array := { k.array with issued := k.array.issued.erase m } } : Core).slotRetire cmd.slot m
  let s := ((s.setCore c k).lapDone c m.ord).count (Reg.mtxRetired c) 1
  let s := if cmd.conf then s.count (Reg.mtxConfRetired c) 1 else s
  if m.flagged = 0 then s
  else
    let tag := cTag m.cmd.toNat
    let s := s.faultRec (lapRecord x c { l.fault m.ord Stat.glint with ltag := tag, glint := m.glint, flagged := min m.flagged 65535 })
    let s := ((s.setReg (Reg.mtxGlint c) m.glint).setReg (Reg.mtxGlintTag c) tag).countSat (Reg.mtxFlagged c) m.flagged
    let s := match s.launch l.launch with
      | some x => s.setLaunch l.launch { x with glint := true }
      | none => s
    if x.stopGlint then s.lapStop c m.ord (l.fault m.ord Stat.glintStop) false else s

/-- MM_RETIRE: due unless a check of the command mismatches (R65, R66). -/
def execMmRetire (core : Nat) (s : State) : Res :=
  s.lapEvent core fun l x s =>
    match (s.core core).array.issued.head? with
    | some m => if m.fails then s else s.retire core l x m
    | none => s

/-! ### Checksum mismatches and the core fence (R6, R7, R66, R67) -/

/-- A kernel placed on a core that is fenced ends with ABSENT_UNIT; the record names its lowest pack on the core, zeros
where it has none there (R7, R151; log 38). -/
def State.absentKernel (s : State) (c i : Nat) (l : Launch) : State :=
  let k := s.core c
  let f : KFault := { status := Stat.absentUnit, lane := 0, addr := 0, reason := 0, wait := 0 }
  let at' : Nat × Nat × Nat := match (if k.kernel = some i then k.packs.head? else none) with
    | some (_, p) => (p.pack, p.team, (p.thread 0).pc)
    | none => (0, 0, 0)
  (s.faultRec (kernelRecord l c at'.1 at'.2.1 at'.2.2 f)).endKernel i Stat.absentUnit

/-- Fence a core: absent, a new CAP_GENERATION, a per-partition record and the alarm; its unretired work is discarded
with a record of ABSENT_UNIT. -/
def State.fenceCore (s : State) (c : Nat) : State :=
  let gen := (s.units.capGen + 1) % 2 ^ 32
  let s := { s with units := { s.units with cores := setFld s.units.cores c 1 0, capGen := gen } }
  let s := match s.partOfCore c with
    | some p => s.partRec p 0x10 [c, gen]
    | none => s
  let s := s.alarm 1 c true
  let s := match s.lapOn c with
    | some (l, x) =>
      let s := if s.lapOver c then s
        else
          let s := s.faultRec (lapRecord x c (l.fault l.oldest Stat.absentUnit))
          s.lapStop c (2 ^ 64) (l.fault l.oldest Stat.absentUnit) false
      let k := s.core c
      let lost := match k.lap with
        | some l => l.feeding.flatMap (fun (f : FeedRun) => lapWrites (l.cmd f.ord))
        | none => []
      let s := s.setCore c { k with array := { k.array with issued := [] }, lap := k.lap.map (fun (l : LapRun) => { l with feeding := [] }) }
      s.lose c lost
    | none => s
  let mine := s.launches.filter (fun e => !e.2.lap && !e.2.complete && e.2.status = 0 && e.2.place.contains c)
  mine.foldl (fun s e => s.absentKernel c e.1 e.2) s

/-- Count a mismatch that no injection caused; the third within 1 s fences the core. -/
def State.countMismatch (s : State) (c : Nat) : State :=
  let k := s.core c
  let recent := (k.array.mismatches ++ [s.time]).filter (fun t => s.since t ≤ 1000000000)
  let recent := recent.drop (recent.length - 3)
  let s := s.setCore c { k with array := { k.array with mismatches := recent } }
  let s := (s.setReg (Reg.mtxCsumCount c) (min 255 (s.reg (Reg.mtxCsumCount c) + 1))).setReg (Reg.mtxCsumTime c) s.time
  if 3 ≤ recent.length && s.coreOn c then s.fenceCore c else s

/-- CHECKSUM_MISMATCH: a product check (`row` of output tile `tile` of the command) or the hold check at that tile's end
mismatches in the oldest command issued. In a command that a stop has discarded it only counts (R71). -/
def execChecksumMismatch (core : Nat) (product : Bool) (row tile : Nat) (s : State) : Res :=
  s.lapEvent core fun l _ s =>
    let k := s.core core
    match k.array.issued with
    | m :: later =>
      let x := mmOf m.cmd.toNat
      let made := tile < x.tiles && (if product then m.madeRows.contains (64 * tile + row) && row < 64 else true)
      if !made then s
      else
        let injected := m.flip || (product && m.inj.any (fun i => i.1 = 64 * tile + row))
        let f : LapFault := { l.fault m.ord Stat.checksum with
          ltag := cTag m.cmd.toNat, injected := injected, check := if product then 1 else 2, row := if product then row else 0,
          tile := (m.tile0 + tile) % 2 ^ 16, discarded := later.length % 256 }
        let s := s.lapStop core m.ord f true
        let k := s.core core
        let s := s.setCore core { k with array := { k.array with issued := k.array.issued.filter (fun n => n.ord ≠ m.ord) } }
        let s := s.lose core x.outputs
        if injected then s else s.countMismatch core
    | [] =>
      match k.array.behind with
      | inj :: rest =>
        let s := s.setCore core { k with array := { k.array with behind := rest } }
        if inj then s else s.countMismatch core
      | [] => s

/-- The next product check of a core has one bit flipped: one that a command issued makes still, or that of the next
command issued that makes one. How far the checks of the commands issued have come is timing, a free value (DESIGN
CHOICE, log 36). -/
def State.injectProduct (s : State) (c : Nat) : State :=
  let k := s.core c
  let left := k.array.issued.flatMap (fun m => m.madeRows.map (fun r => (m.ord, r)))
  let arm := { k with array := { k.array with injProduct := true } }
  if left.isEmpty then s.setCore c arm
  else
    let t := s.useFree 2
    match left[s.freeVal 64 % (left.length + 1)]? with
    | none => t.setCore c arm
    | some (ord, r) =>
      let b := (s.useFree 1).freeVal 6
      let hit (m : MMRun) : MMRun :=
        if m.ord = ord && !m.inj.any (fun i => i.1 = r) then { m with inj := m.inj ++ [(r, b)] } else m
      t.setCore c { k with array := { k.array with issued := k.array.issued.map hit } }

/-- INJECT_PRODUCT: one bit of the next product check is flipped. -/
def execInjectProduct (core : Nat) (s : State) : Res :=
  onUnit (core < s.nCores) <| guarded (s.alive && s.coreOn core) s (s.injectProduct core)

/-- INJECT_CELL: the next stationary load is followed by the flip of a cell register's bit. -/
def execInjectCell (core : Nat) (s : State) : Res :=
  onUnit (core < s.nCores) <|
    guarded (s.alive && s.coreOn core) s
      (s.setCore core { s.core core with array := { (s.core core).array with injCell := true } })

/-! ### The lap watchdog (R98) -/

/-- What holds the oldest incomplete command: a cause of R98 with the baton of cause 4; none where nothing the watchdog
knows of holds it. -/
def State.lapHeld (s : State) (c : Nat) (l : LapRun) (x : Launch) : Option (Nat × Nat) :=
  let k := s.core c
  if l.total ≤ l.oldest then some (3, 0)
  else match l.pendingCmds.head? with
    | none =>
      let cs := s.lapCores l.launch x
      some (if x.paced && cs.any (fun p => p.2.oldest + 64 < x.seqNext) then 6 else 5, 0)
    | some (ord, w) =>
      let begun := l.feeding.any (fun f => f.ord = ord)
      match cOp w with
      | 0x10 =>
        if k.array.issued.any (fun m => m.ord = ord) then none
        else if (k.gate l).isSome then (if x.paced && l.go ≠ some ord then some (6, 0) else none)
        else if l.mayBegin ord w || !l.resident ord (mmOf w).reads then some (1, 0)
        else some (2, 0)
      | 0x20 | 0x21 => some (if begun then 7 else 3, 0)
      | 0x50 => if fld w 24 2 = 0 then some (if begun then 7 else 3, 0) else none
      | 0x40 => l.waiting.map (fun b => (4, b.2))
      | _ => none

/-- LAP_WATCHDOG_EXPIRY: no command of the lap has completed on the core for LAP_WATCHDOG. -/
def execLapWatchdogExpiry (core dt : Nat) (s : State) : Res :=
  (s.tick dt).lapEvent core fun l x s =>
    match s.lapHeld core l x with
    | none => s
    | some (cause, b) =>
      if !lapGoing l x || s.lapOver core || s.since l.lastDone < s.entry 0x2210 1 * 1000 then s
      else
        let s := s.setReg (Reg.mtxWdogCause core) (cause + 16 * b)
        s.lapStop core l.oldest { l.fault l.oldest Stat.watchdog with cause := cause, baton := b } true

end Sys2Proof.Machine
end

