-- ==== Sys2Proof/Machine/Fences.lean ====
section
/-! DEFINITION. Fences, L1 maintenance and hurdles (R136 to R141, R160, R161), and the end of a team (R15, R139, R149). -/

namespace Sys2Proof.Machine

/-- Fields of format F (R136). -/
structure FWord where
  sc : Nat
  type : Nat
  clean : Bool
  deriving DecidableEq, Repr

def fword (w : BitVec 64) : FWord :=
  let n := w.toNat
  { sc := fld n 16 2, type := fld n 18 2, clean := fld n 8 8 = 0 && fld n 20 44 = 0 }

/-! ### Fences (R160, R161) -/

/-- What a fence of a pack does at once: the pack's store queue drains and, for CLUSTER and SYS scope of type FULL (0)
or REL (2), the L1's dirty lines are written back; with the accepted stores it waits for. -/
def State.packFence (s : State) (c slot scope type : Nat) : State × List Nat :=
  let s := s.drainPack c slot
  if scope = 0 || type = 1 then (s, [])
  else
    let r := s.l1WriteAll c
    let s := (r.1.count (Reg.dbgFenceWb c) r.2).pump
    (s, if scope = 2 then ((s.agent (c / 8)).accepted.filter (fun a => a.shared)).map (fun a => a.id) else [])

/-- The same on a coach core (R161): its stores have reached its data cache, which is all that CORE scope asks; CLUSTER scope waits
until they are performed, SYS for every store accepted in the cluster cache as well. -/
def State.coachFence (s : State) (c scope type : Nat) : State × List Nat :=
  let s := s.drainCoach c
  let mine := (s.agent (c / 8)).accepted.filter (fun a => a.core = some c || (scope = 2 && a.shared))
  (s, if scope = 0 || type = 1 then [] else mine.map (fun a => a.id))

/-- The wait of a fence. -/
def fenceWait (ids awaits : List Nat) : Wait := if ids.isEmpty && awaits.isEmpty then .none else .fence ids true

/-- A group performs a fence and goes on once its waits end. -/
def Ctx.fence (x : Ctx) (s : State) (scope type : Nat) : Eff :=
  let r := s.packFence x.core x.slot scope type
  x.finish r.1 (fun _ t => { t with wait := fenceWait r.2 t.awaits, since := s.time, waitPc := x.pc })

/-- An instruction that acts only after a release fence: the fence's waits come first, the group issuing again after
them (R131, R143). -/
def Ctx.afterRelease (x : Ctx) (s : State) (scope : Nat) (go : State → Eff) : Eff :=
  let done (t : Thread) : Thread := { t with rel := false }
  let go' (s : State) : Eff :=
    match s.pack x.core x.slot with
    | some p => go (s.setPack x.core x.slot (p.mapLanes x.lanes (fun _ t => done t)))
    | none => .notReady
  if x.lanes.all (fun l => (x.pack.thread l).rel) then go' s
  else
    let ready (r : State × List Nat) : Bool := r.2.isEmpty && x.lanes.all (fun l => (x.pack.thread l).awaits.isEmpty)
    let r := s.packFence x.core x.slot scope 2
    if ready r then go' r.1
    else .wait (fun s =>
      let r := s.packFence x.core x.slot scope 2
      match r.1.pack x.core x.slot with
      | some p => r.1.setPack x.core x.slot (p.mapLanes x.lanes (fun _ t =>
          { t with wait := fenceWait r.2 t.awaits, rel := true, since := s.time, waitPc := x.pc }))
      | none => r.1)

/-- The same on a coach core. -/
def State.coachAfterRelease (s : State) (c scope : Nat) (go : State → CEff) : CEff :=
  let k := (s.core c).coach
  if k.rel then go (s.setCoach c { k with rel := false })
  else
    let r := s.coachFence c scope 2
    let w := fenceWait r.2 (r.1.core c).coach.awaits
    if w = .none then go r.1
    else .ok (r.1.setCoach c { (r.1.core c).coach with wait := w, rel := true, since := s.time })

/-- FENCE (0x78). -/
def execFence (e : Eng) (w : BitVec 64) (s : State) : Res :=
  let f := fword w
  let bad := !f.clean || f.sc = 3 || f.type = 3
  match e with
  | .simt c slot => s.simt c slot [] fun x t => if bad then kf Stat.illegal x.lane0 else x.fence t f.sc f.type
  | .coach c => s.coachRun c [] fun _ _ t =>
      if bad then .fault Stat.illegal 0
      else
        let r := t.coachFence c f.sc f.type
        let k := (r.1.core c).coach
        .ok (r.1.setCoach c { k.advance with wait := fenceWait r.2 k.awaits, since := t.time })

/-- Whether a fence's waits have ended: its stores performed, its loads returned. -/
def fenceOver (open' : List Nat) (w : Wait) (awaits : List Nat) : Bool :=
  match w with
  | .fence ids loads => ids.all (fun i => !open'.contains i) && (!loads || awaits.isEmpty)
  | _ => false

/-- FENCE_COMPLETE: every thread of the pack whose fence's waits have ended goes on; the cycles waited are free
(DESIGN CHOICE, log 16). -/
def execFenceComplete (e : Eng) (s : State) : Res := powered s <|
  match e with
  | .simt c slot =>
    onUnit (c < s.nCores && slot < 64) <|
      match s.pack c slot with
      | some p =>
        let ids := (s.agent (c / 8)).accepted.map (fun a => a.id)
        let over' (t : Thread) : Bool := fenceOver ids t.wait t.awaits
        let t := s.setPack c slot { p with threads := p.threads.map (fun t => if over' t then { t with wait := .none } else t) }
        guarded (p.threads.any over') s (t.accrue [Reg.dbgFenceWait c])
      | none => .next s
  | .coach c =>
    onUnit (c < s.nCores) <|
      let k := (s.core c).coach
      let ids := (s.agent (c / 8)).accepted.map (fun a => a.id)
      guarded (fenceOver ids k.wait k.awaits) s (s.setCoach c { k with wait := .none })

/-! ### L1 maintenance (R137) -/

/-- L1INV and L1WB: write back the core's dirty lines, and drop every line where `inv`. -/
def State.l1Op (s : State) (e : Eng) (w : BitVec 64) (inv : Bool) : Res :=
  let f := fword w
  match e with
  | .coach c => s.coachIllegal c
  | .simt c slot => s.simt c slot [] fun x t =>
      if !f.clean || f.sc != 0 || f.type != 0 then kf Stat.illegal x.lane0
      else
        let t := (t.l1WriteAll c).1.pump
        let t := if inv then t.setCore c { t.core c with l1 := [] } else t
        x.finish t (fun _ th => th)

def execL1inv (e : Eng) (w : BitVec 64) (s : State) : Res := s.l1Op e w true

def execL1wb (e : Eng) (w : BitVec 64) (s : State) : Res := s.l1Op e w false

/-- STORE_LEAVES_QUEUE: the oldest store leaves its queue (R157); a younger one may overtake it where they touch no
common byte (R158). -/
def execStoreLeavesQueue (e : Eng) (i : Nat) (s : State) : Res := powered s <|
  let apart (a b : SqEntry) : Bool := a.lanes.all (fun x => b.lanes.all (fun y =>
    x.pa + x.bytes.length ≤ y.pa || y.pa + y.bytes.length ≤ x.pa))
  match e with
  | .simt c slot =>
    onUnit (c < s.nCores && slot < 64) <|
      match s.pack c slot with
      | some p =>
        (match p.sq[i]? with
         | some x =>
           guarded ((p.sq.take i).all (apart x)) s
             (((s.setPack c slot { p with sq := p.sq.eraseIdx i }).entryLeave c x).pump)
         | none => .next s)
      | none => .next s
  | .coach c =>
    onUnit (c < s.nCores) <|
      let k := (s.core c).coach
      match k.sq[i]? with
      | some x => guarded ((k.sq.take i).all (apart x)) s ((s.setCoach c { k with sq := k.sq.eraseIdx i }).coachLeave c x).pump
      | none => .next s

/-! ### Hurdles (R138 to R141) -/

/-- Packs of a team resident on a core. -/
def Core.teamPacks (k : Core) (team : Nat) : List (Nat × Pack) := k.packs.filter (fun p => p.2.team = team)

/-- Complete every hurdle generation in which each live thread of the team has arrived; its waiters go on (R139). -/
def State.hurdles (s : State) (c team : Nat) : State :=
  let k := s.core c
  match k.teams.look team with
  | none => s
  | some t =>
    let live := (k.teamPacks team).flatMap (fun p => p.2.threads.filter (fun x => !x.exited))
    let gen (id : Nat) : Nat :=
      let old := nth 0 t.gens id
      match live with
      | [] => old
      | x :: xs => max old (xs.foldl (fun m y => min m (nth 0 y.arrivals id)) (nth 0 x.arrivals id))
    let gens := (List.range 4).map gen
    let freed (x : Thread) : Bool := match x.wait with | .hurdle id g => g < nth 0 gens id | _ => false
    let go (x : Thread) : Thread := if freed x then { x with wait := .none } else x
    let packs := k.packs.map (fun p => if p.2.team = team then (p.1, { p.2 with threads := p.2.threads.map go }) else p)
    let n := ((k.teamPacks team).filter (fun p => p.2.threads.any freed)).length
    let s := s.setCore c { k with packs := packs, teams := Tab.put k.teams team { t with gens := gens } }
    if n = 0 then s else s.accrue [Reg.dbgSimtHwait c]

/-- A group arrives at a hurdle: its queue drains, its loads have returned (R141, R163); HURDLE waits (R140). -/
def State.arriveAt (s : State) (e : Eng) (w : BitVec 64) (waits : Bool) : Res :=
  let f := fword w
  match e with
  | .coach c => s.coachIllegal c
  | .simt c slot => s.simt c slot [] fun x t =>
      if !f.clean || f.type != 0 then kf Stat.illegal x.lane0
      else if x.lanes.any (fun l => !(x.pack.thread l).awaits.isEmpty) then .notReady
      else
        let t := t.drainPack c slot
        let gen := match (t.core c).teams.look x.pack.team with | some m => nth 0 m.gens f.sc | none => 0
        let put (th : Thread) : Thread :=
          let n := nth 0 th.arrivals f.sc
          let arrive := !waits || n ≤ gen
          let th := if arrive then { th with arrivals := setNth th.arrivals f.sc (n + 1) } else th
          if waits then { th with wait := .hurdle f.sc gen, since := t.time, waitPc := x.pc } else th
        match x.finish t (fun _ th => put th) with
        | .ok u => .ok (u.hurdles c x.pack.team)
        | r => r

def execHurdle (e : Eng) (w : BitVec 64) (s : State) : Res := s.arriveAt e w true

def execHarrive (e : Eng) (w : BitVec 64) (s : State) : Res := s.arriveAt e w false

/-! ### The end of a team (R117, R118, R149) -/

/-- A team whose last thread has exited ends: its queues drain, its slots and scratch are free, the launch counts it. -/
def State.endTeam (s : State) (c team i : Nat) : State :=
  let slots := ((s.core c).teamPacks team).map Prod.fst
  let s := slots.foldl (fun s j => s.drainPack c j) s
  let s := s.orphan (fun w => match w with | .lane k j _ => k = c && slots.contains j | .coach _ => false)
  let k := s.core c
  let held := (k.teamPacks team).flatMap (fun p => p.2.threads.filterMap (fun t => t.resv))
  let s := s.setCore c { k with packs := k.packs.filter (fun p => p.2.team ≠ team), teams := Tab.del k.teams team,
                                rsvLeft := k.rsvLeft ++ held }
  match s.launch i with
  | some l => s.setLaunch i { l with ended := l.ended + 1 }
  | none => s

/-- Threads of a group exit: they count as arrived at every hurdle, and the last one ends the team. -/
def Ctx.exit (x : Ctx) (s : State) : Eff :=
  let s := s.drainPack x.core x.slot
  match s.pack x.core x.slot with
  | none => .notReady
  | some p =>
    let s := s.setPack x.core x.slot (p.mapLanes x.lanes (fun _ t => { t with exited := true }))
    let s := s.hurdles x.core x.pack.team
    let gone := ((s.core x.core).teamPacks x.pack.team).all (fun q => q.2.threads.all (fun t => t.exited))
    .ok (if gone then s.endTeam x.core x.pack.team x.lid else s)

end Sys2Proof.Machine
end

