-- ==== Sys2Proof/Machine/Vector.lean ====
section
/-! DEFINITION. Vector integer and move instructions, 0x01 to 0x23 (R124, R125). -/

namespace Sys2Proof.Machine

/-- Registers at D, A, B and C of a vector instruction: how many each field names, 0 where it is not a vector operand. -/
structure Shape where
  d : Nat
  a : Nat
  b : Nat
  c : Nat
  deriving DecidableEq, Repr

/-- The vector register fields of a word with their counts; IMM replaces B, and C with it. -/
def Shape.fields (h : Shape) (r : RWord) : List (Nat × Nat) :=
  ([(r.d, h.d), (r.a, h.a)] ++ (if r.isImm then [] else [(r.b, h.b), (r.c, h.c)])).filter (fun o => 0 < o.2)

/-- A vector instruction of format R: its encoding and registers are checked, then each thread of the group takes
`op`'s value into D (R122, R124). The coach core does not execute it (R144). -/
def State.vec (s : State) (e : Eng) (w : BitVec 64) (ok : RWord → Bool) (h : Shape)
    (op : Ctx → RWord → Thread → Nat → Nat) : Res :=
  let r := rword w
  let fs := h.fields r
  match e with
  | .coach c => s.coachIllegal c
  | .simt c slot =>
    s.simt c slot (fs.flatMap (fun o => named o.1 o.2)) fun x t =>
      if !r.clean || !ok r || fs.any (fun o => !alignedReg o.1 o.2) then kf Stat.illegal x.lane0
      else if fs.any (fun o => !regsBelow x.count o.1 o.2) then kf Stat.regRange x.lane0
      else x.finish t (fun lane th => th.setRegs r.d (op x r th lane) h.d)

/-- Operand width in bits: FMT 1 is 64 (R124). -/
def intBits (r : RWord) : Nat := if r.fmt = 1 then 64 else 32

/-- The value of a vector field: a register, or a pair for 64 bits. -/
def Thread.val (t : Thread) (n r : Nat) : Nat := if n = 64 then t.pair r else t.reg r

/-- The B operand: IMM sign-extended to the width, or the register. -/
def Thread.opB (t : Thread) (r : RWord) : Nat := if r.isImm then r.immN (intBits r) else t.val (intBits r) r.b

/-- A vector integer instruction with operands A, B and, where it needs one, C; `narrow` allows 32 bits only. -/
def State.vint (s : State) (e : Eng) (w : BitVec 64) (useB useC narrow : Bool) (op : Nat → Nat → Nat → Nat → Nat) :
    Res :=
  let n := if (rword w).fmt = 1 then 2 else 1
  s.vec e w (fun r => r.rnd = 0 && (r.fmt = 0 || (r.fmt = 1 && !narrow)) && !(useC && r.isImm))
    { d := n, a := n, b := if useB then n else 0, c := if useC then n else 0 }
    (fun _ r t _ => op (intBits r) (t.val (intBits r) r.a) (t.opB r) (if useC then t.val (intBits r) r.c else 0))

/-- Truth as a register holds it. -/
def flag (p : Prop) [Decidable p] : Nat := if p then 1 else 0

/-! The operations, on `n`-bit values; a result is taken modulo 2^n. -/

/-- Arithmetic shift right of an `n`-bit value. -/
def sarN (n a k : Nat) : Nat := wrapInt n (sx n a / (2 ^ k : Nat))

/-- Set bits of a value of `n` bits. -/
def popN (n a : Nat) : Nat := (setBits a n).length

/-- Leading zeros of a value of `n` bits. -/
def clzN (n a : Nat) : Nat := if a = 0 then n else n - 1 - Nat.log2 a

def execIadd (e : Eng) (w : BitVec 64) (s : State) : Res :=
  s.vint e w true false false (fun n a b _ => (a + b) % 2 ^ n)

def execIsub (e : Eng) (w : BitVec 64) (s : State) : Res :=
  s.vint e w true false false (fun n a b _ => (a + 2 ^ n - b) % 2 ^ n)

def execImul (e : Eng) (w : BitVec 64) (s : State) : Res :=
  s.vint e w true false false (fun n a b _ => a * b % 2 ^ n)

def execImulh (e : Eng) (w : BitVec 64) (s : State) : Res :=
  s.vint e w true false true (fun n a b _ => wrapInt n (sx n a * sx n b / (2 ^ n : Nat)))

def execImulhu (e : Eng) (w : BitVec 64) (s : State) : Res :=
  s.vint e w true false true (fun n a b _ => a * b / 2 ^ n)

def execImad (e : Eng) (w : BitVec 64) (s : State) : Res :=
  s.vint e w true true false (fun n a b c => (a * b + c) % 2 ^ n)

def execAnd (e : Eng) (w : BitVec 64) (s : State) : Res := s.vint e w true false false (fun _ a b _ => a &&& b)

def execOr (e : Eng) (w : BitVec 64) (s : State) : Res := s.vint e w true false false (fun _ a b _ => a ||| b)

def execXor (e : Eng) (w : BitVec 64) (s : State) : Res := s.vint e w true false false (fun _ a b _ => a ^^^ b)

def execShl (e : Eng) (w : BitVec 64) (s : State) : Res :=
  s.vint e w true false false (fun n a b _ => a * 2 ^ (b % n) % 2 ^ n)

def execShr (e : Eng) (w : BitVec 64) (s : State) : Res :=
  s.vint e w true false false (fun n a b _ => a / 2 ^ (b % n))

def execSar (e : Eng) (w : BitVec 64) (s : State) : Res :=
  s.vint e w true false false (fun n a b _ => sarN n a (b % n))

def execImin (e : Eng) (w : BitVec 64) (s : State) : Res :=
  s.vint e w true false false (fun n a b _ => if sx n b < sx n a then b else a)

def execImax (e : Eng) (w : BitVec 64) (s : State) : Res :=
  s.vint e w true false false (fun n a b _ => if sx n a < sx n b then b else a)

def execUmin (e : Eng) (w : BitVec 64) (s : State) : Res := s.vint e w true false false (fun _ a b _ => min a b)

def execUmax (e : Eng) (w : BitVec 64) (s : State) : Res := s.vint e w true false false (fun _ a b _ => max a b)

def execIseq (e : Eng) (w : BitVec 64) (s : State) : Res := s.vint e w true false false (fun _ a b _ => flag (a = b))

def execIsne (e : Eng) (w : BitVec 64) (s : State) : Res := s.vint e w true false false (fun _ a b _ => flag (a ≠ b))

def execIslt (e : Eng) (w : BitVec 64) (s : State) : Res :=
  s.vint e w true false false (fun n a b _ => flag (sx n a < sx n b))

def execIsle (e : Eng) (w : BitVec 64) (s : State) : Res :=
  s.vint e w true false false (fun n a b _ => flag (sx n a ≤ sx n b))

def execIsltu (e : Eng) (w : BitVec 64) (s : State) : Res := s.vint e w true false false (fun _ a b _ => flag (a < b))

def execIsleu (e : Eng) (w : BitVec 64) (s : State) : Res := s.vint e w true false false (fun _ a b _ => flag (a ≤ b))

def execSel (e : Eng) (w : BitVec 64) (s : State) : Res :=
  s.vint e w true true false (fun _ a b c => if c ≠ 0 then a else b)

def execPopc (e : Eng) (w : BitVec 64) (s : State) : Res := s.vint e w false false false (fun n a _ _ => popN n a)

def execClz (e : Eng) (w : BitVec 64) (s : State) : Res := s.vint e w false false false (fun n a _ _ => clzN n a)

/-- MOV takes A, or IMM where I is 1. -/
def execMov (e : Eng) (w : BitVec 64) (s : State) : Res :=
  let n := if (rword w).fmt = 1 then 2 else 1
  s.vec e w (fun r => r.rnd = 0 && r.fmt ≤ 1) { d := n, a := if (rword w).isImm then 0 else n, b := 0, c := 0 }
    (fun _ r t _ => if r.isImm then r.immN (intBits r) else t.val (intBits r) r.a)

/-- MOVS takes scalar register A: its low half, or the whole in a pair. -/
def execMovs (e : Eng) (w : BitVec 64) (s : State) : Res :=
  let n := if (rword w).fmt = 1 then 2 else 1
  s.vec e w (fun r => r.rnd = 0 && r.fmt ≤ 1 && scalarOk r.a) { d := n, a := 0, b := 0, c := 0 }
    (fun x r _ _ => x.pack.sreg r.a % 2 ^ intBits r)

end Sys2Proof.Machine
end

