-- ==== Sys2Proof/Machine/Scalar.lean ====
section
/-! DEFINITION. Scalar instructions, 0x30 to 0x3D, on the pack's or the coach core's s0 to s63 (R122, R124, R125,
R144). -/

namespace Sys2Proof.Machine

/-- A scalar instruction: 64 bits whatever FMT 0 or 1 says, once for the issue group, or on the coach core. `useA`,
`useB` say which fields are operands. -/
def State.scalar (s : State) (e : Eng) (w : BitVec 64) (useA useB : Bool) (op : Nat → Nat → Nat) : Res :=
  let r := rword w
  let fs := [r.d] ++ (if useA then [r.a] else []) ++ (if useB && !r.isImm then [r.b] else [])
  let bad := !r.clean || r.rnd != 0 || 1 < r.fmt || fs.any (fun f => !scalarOk f)
  match e with
  | .simt c slot =>
    s.simt c slot [] fun x t =>
      if bad then kf Stat.illegal x.lane0
      else
        let b := if r.isImm then r.immN 64 else x.pack.sreg r.b
        x.finishS t (fun p => p.setSreg r.d (op (x.pack.sreg r.a) b))
  | .coach c =>
    s.coachRun c fs fun _ k t =>
      if bad then .fault Stat.illegal 0
      else
        let b := if r.isImm then r.immN 64 else k.reg r.b
        CEff.regs t c (k.setReg r.d (op (k.reg r.a) b))

def execSadd (e : Eng) (w : BitVec 64) (s : State) : Res := s.scalar e w true true (fun a b => (a + b) % 2 ^ 64)

def execSsub (e : Eng) (w : BitVec 64) (s : State) : Res :=
  s.scalar e w true true (fun a b => (a + 2 ^ 64 - b) % 2 ^ 64)

def execSmul (e : Eng) (w : BitVec 64) (s : State) : Res := s.scalar e w true true (fun a b => a * b % 2 ^ 64)

def execSand (e : Eng) (w : BitVec 64) (s : State) : Res := s.scalar e w true true (fun a b => a &&& b)

def execSor (e : Eng) (w : BitVec 64) (s : State) : Res := s.scalar e w true true (fun a b => a ||| b)

def execSxor (e : Eng) (w : BitVec 64) (s : State) : Res := s.scalar e w true true (fun a b => a ^^^ b)

def execSshl (e : Eng) (w : BitVec 64) (s : State) : Res :=
  s.scalar e w true true (fun a b => a * 2 ^ (b % 64) % 2 ^ 64)

def execSshr (e : Eng) (w : BitVec 64) (s : State) : Res := s.scalar e w true true (fun a b => a / 2 ^ (b % 64))

def execSsar (e : Eng) (w : BitVec 64) (s : State) : Res := s.scalar e w true true (fun a b => sarN 64 a (b % 64))

/-- SMOV takes A, or IMM where I is 1. -/
def execSmov (e : Eng) (w : BitVec 64) (s : State) : Res :=
  let i := (rword w).isImm
  s.scalar e w (!i) i (fun a b => if i then b else a)

def execSseq (e : Eng) (w : BitVec 64) (s : State) : Res := s.scalar e w true true (fun a b => flag (a = b))

def execSslt (e : Eng) (w : BitVec 64) (s : State) : Res :=
  s.scalar e w true true (fun a b => flag (sx 64 a < sx 64 b))

def execSsltu (e : Eng) (w : BitVec 64) (s : State) : Res := s.scalar e w true true (fun a b => flag (a < b))

/-- VTOS: the lowest lane's register, zero-extended, or its pair (R125). -/
def execVtos (e : Eng) (w : BitVec 64) (s : State) : Res :=
  let r := rword w
  let n := if r.fmt = 1 then 2 else 1
  match e with
  | .coach c => s.coachIllegal c
  | .simt c slot =>
    s.simt c slot (named r.a n) fun x t =>
      if !r.clean || r.rnd != 0 || 1 < r.fmt || !scalarOk r.d || !alignedReg r.a n then kf Stat.illegal x.lane0
      else if !regsBelow x.count r.a n then kf Stat.regRange x.lane0
      else x.finishS t (fun p => p.setSreg r.d ((x.pack.thread x.lane0).val (intBits r) r.a))

end Sys2Proof.Machine
end

