-- ==== Sys2Proof/Machine/Control.lean ====
section
/-! DEFINITION. Control flow, lane exchange, hardware loops, special registers, the address stream's and the batons'
instructions (R123, R142 to R150). -/

namespace Sys2Proof.Machine

/-- The target of a relative branch: pc + 8 × IMM, modulo 2^64 (R149). -/
def RWord.target (r : RWord) (pc : Nat) : Nat := wrapInt 64 ((pc : Int) + 8 * sx 32 r.imm)

/-! ### Branches of threads (R149) -/

/-- The group's threads go each to its own pc. -/
def Ctx.jump (x : Ctx) (s : State) (f : Nat → Thread → Thread) : Eff :=
  match s.pack x.core x.slot with
  | some p => .ok (s.setPack x.core x.slot (p.mapLanes x.lanes f))
  | none => .notReady

/-- Whether a coach instruction stands in a loop's body, and whether it is a body's last (R148). -/
def Coach.inBody (k : Coach) : Bool := k.loops.any (fun l => l.start ≤ k.pc && k.pc ≤ l.stop)
def Coach.atEnd (k : Coach) : Bool := k.loops.any (fun l => l.stop = k.pc)

/-- The coach core goes to a target by a taken branch. -/
def Coach.goto (k : Coach) (target : Nat) : Coach := { k with pc := target, loops := loopBranch target k.loops }

/-- BRA (0x90). -/
def execBra (e : Eng) (w : BitVec 64) (s : State) : Res :=
  let r := rword w
  let bad := !r.clean || !r.isImm || r.rnd != 0 || 1 < r.fmt
  match e with
  | .simt c slot =>
    s.simt c slot (named r.a 1) fun x t =>
      if bad then kf Stat.illegal x.lane0
      else if !regsBelow x.count r.a 1 then kf Stat.regRange x.lane0
      else x.jump t (fun _ th =>
        let taken := r.a = 255 || (if r.fmt = 0 then th.reg r.a != 0 else th.reg r.a = 0)
        { th with pc := if taken then r.target x.pc else x.pc + 8 })
  | .coach c =>
    s.coachRun c [r.a] fun _ k t =>
      if bad || !scalarOk r.a then .fault Stat.illegal 0
      else if k.atEnd then .fault Stat.loop 0
      else if r.a = 255 || (if r.fmt = 0 then k.reg r.a != 0 else k.reg r.a = 0) then
        .ok (t.setCoach c (k.goto (r.target k.pc)))
      else CEff.regs t c k

/-- JMPR and RET: an indirect jump to the address in A. Fields they do not use may hold any value (DESIGN CHOICE, log 44). -/
def State.indirect (s : State) (e : Eng) (w : BitVec 64) : Res :=
  let r := rword w
  let bad := !r.clean || r.rnd != 0
  match e with
  | .simt c slot =>
    s.simt c slot (named r.a 2) fun x t =>
      if bad || !alignedReg r.a 2 then kf Stat.illegal x.lane0
      else if !regsBelow x.count r.a 2 then kf Stat.regRange x.lane0
      else match x.lanes.find? (fun l => (x.pack.thread l).pair r.a % 8 ≠ 0) with
        | some l => .fault { status := Stat.align, lane := l, addr := (x.pack.thread l).pair r.a, reason := 0, wait := 0 }
        | none => x.jump t (fun _ th => { th with pc := th.pair r.a })
  | .coach c =>
    s.coachRun c [r.a] fun _ k t =>
      if bad || !scalarOk r.a then .fault Stat.illegal 0
      else if k.inBody then .fault Stat.loop 0
      else if k.reg r.a % 8 ≠ 0 then .fault Stat.align 0
      else .ok (t.setCoach c (k.goto (k.reg r.a)))

def execJmpr (e : Eng) (w : BitVec 64) (s : State) : Res := s.indirect e w

def execRet (e : Eng) (w : BitVec 64) (s : State) : Res := s.indirect e w

/-- CALL (0x92): D receives pc + 8. -/
def execCall (e : Eng) (w : BitVec 64) (s : State) : Res :=
  let r := rword w
  let bad := !r.clean || !r.isImm || r.rnd != 0
  match e with
  | .simt c slot =>
    s.simt c slot (named r.d 2) fun x t =>
      if bad || !alignedReg r.d 2 then kf Stat.illegal x.lane0
      else if !regsBelow x.count r.d 2 then kf Stat.regRange x.lane0
      else x.jump t (fun _ th => { th.setRegs r.d (x.pc + 8) 2 with pc := r.target x.pc })
  | .coach c =>
    s.coachRun c [r.d] fun _ k t =>
      if bad || !scalarOk r.d then .fault Stat.illegal 0
      else if k.inBody then .fault Stat.loop 0
      else .ok (t.setCoach c ((k.setReg r.d (k.pc + 8)).goto (r.target k.pc)))

/-- EXIT (0x94): the threads exit; on the coach core the run returns and its replay's marker is pushed, which waits for
room in the stream (R88, R91, R148). -/
def execExit (e : Eng) (w : BitVec 64) (s : State) : Res :=
  let r := rword w
  let bad := !r.clean || r.rnd != 0
  match e with
  | .simt c slot => s.simt c slot [] fun x t => if bad then kf Stat.illegal x.lane0 else x.exit t
  | .coach c =>
    s.coachRun c [] fun _ k t =>
      if bad then .fault Stat.illegal 0
      else if k.atEnd then .fault Stat.loop 0
      else if 256 ≤ (t.core c).stream.length then .notReady
      else
        let x := t.core c
        let lap := x.lap.map (fun l => { l with returned := l.returned + 1 })
        let mark := AsEntry.marker ((x.lap.map (fun l => l.returned)).getD 0)
        .ok (t.setCore c { x with coach := { k with running := false, loops := [] }, lap := lap, stream := x.stream ++ [mark] })

/-- NOP (0x95). -/
def execNop (e : Eng) (w : BitVec 64) (s : State) : Res :=
  let r := rword w
  let bad := !r.clean || r.rnd != 0
  match e with
  | .simt c slot => s.simt c slot [] fun x t => if bad then kf Stat.illegal x.lane0 else x.finish t (fun _ th => th)
  | .coach c => s.coachRun c [] fun _ k t => if bad then .fault Stat.illegal 0 else CEff.regs t c k

/-- A reserved opcode faults with ILLEGAL when it is executed (R123). -/
def execReservedOpcode (e : Eng) (_w : BitVec 64) (s : State) : Res :=
  match e with
  | .simt c slot => s.simt c slot [] fun x _ => kf Stat.illegal x.lane0
  | .coach c => s.coachIllegal c

/-! ### Lane exchange (R149) -/

/-- SHFL (0x84): the other lane's A, or the thread's own where that lane is outside the group. -/
def execShfl (e : Eng) (w : BitVec 64) (s : State) : Res :=
  s.vec e w (fun r => r.fmt = 0 && r.rnd = 0) { d := 1, a := 1, b := 1, c := 0 }
    (fun x r t _ =>
      let other := t.opB r % 32
      if x.lanes.contains other then (x.pack.thread other).reg r.a else t.reg r.a)

/-- VOTE (0x85): any, all, or the mask of the lanes with A not zero. -/
def execVote (e : Eng) (w : BitVec 64) (s : State) : Res :=
  s.vec e w (fun r => r.fmt ≤ 2 && r.rnd = 0) { d := 1, a := 1, b := 0, c := 0 }
    (fun x r _ _ =>
      let yes := x.lanes.filter (fun l => (x.pack.thread l).reg r.a ≠ 0)
      match r.fmt with
      | 0 => bit (!yes.isEmpty)
      | 1 => bit (yes.length = x.lanes.length)
      | _ => (yes.map (fun l => 2 ^ l)).sum)

/-! ### Hardware loops (R146 to R148) -/

/-- LOOP and LOOPI: the count is taken, then the level pushed or the body skipped. -/
def State.loopOp (s : State) (e : Eng) (w : BitVec 64) (imm : Bool) : Res :=
  let n := w.toNat
  let a := fld n 16 8
  let len := fld n 32 12
  let cnt := fld n 48 16
  let bad := fld n 8 8 != 0 || fld n 24 8 != 0 || fld n 44 4 != 0 || (if imm then a != 0 else cnt != 0 || !scalarOk a)
  match e with
  | .simt c slot => s.simt c slot [] fun x _ => kf Stat.illegal x.lane0
  | .coach c =>
    s.coachRun c (if imm then [] else [a]) fun _ k t =>
      if bad then .fault Stat.illegal 0
      else if k.atEnd then .fault Stat.loop 0
      else
        let trips := if imm then cnt else k.reg a % 2 ^ 32
        let stop := k.pc + 8 * (len + 1)
        if trips = 0 then
          let r := match k.loops with
            | l :: _ => if stop = l.stop then loopEnd stop k.loops else (k.loops, stop + 8)
            | [] => ([], stop + 8)
          .ok (t.setCoach c { k with loops := r.1, pc := r.2 })
        else if 4 ≤ k.loops.length then .fault Stat.loop 0
        else if k.loops.head?.any (fun l => l.stop < stop) then .fault Stat.loop 0
        else
          let l : Loop := { start := k.pc + 8, stop := stop, remaining := trips - 1 }
          .ok (t.setCoach c { k with loops := l :: k.loops, pc := k.pc + 8 })

def execLoop (e : Eng) (w : BitVec 64) (s : State) : Res := s.loopOp e w false

def execLoopi (e : Eng) (w : BitVec 64) (s : State) : Res := s.loopOp e w true

/-! ### Special registers (R150) -/

/-- The cycles of a core's clock island, counted since the last look: a free number, below 2^64 in all (R150; DESIGN CHOICE,
log 16). -/
def State.cyclesNow (s : State) (core : Nat) : Nat :=
  let c := (s.core core).issue.cycles
  c + s.freeVal 64 % (2 ^ 64 - c)

/-- Look at the cycle counter of a core. -/
def State.lookCycles (s : State) (core : Nat) : State :=
  let k := s.core core
  (s.setCore core { k with issue := { k.issue with cycles := s.cyclesNow core } }).useFree 1

/-- The special register of an identifier and engine. -/
def State.special (s : State) (imm core : Nat) (simt : Option Ctx) (coach : Option Coach) (lane : Nat) : Option Nat :=
  match imm, simt, coach with
  | 0x00, some _, _ => some lane
  | 0x01, some x, _ => some x.pack.pack
  | 0x03, _, _ => some core
  | 0x04, _, _ => some ((s.partOfCore core).getD 0)
  | 0x08, some x, _ => some ((x.lanes.map (fun l => 2 ^ l)).sum)
  | 0x10, _, _ => some (s.cyclesNow core)
  | 0x11, _, _ => some s.time
  | 0x24, _, some k => some k.loops.length
  | i, _, some k =>
    if 0x20 ≤ i ∧ i ≤ 0x23 then some ((k.loops.reverse[i - 0x20]?.map (fun l => l.remaining)).getD 0) else none
  | _, _, _ => none

/-- SRD (0xB0): FMT 0 writes 32 bits, FMT 1 a pair (R124). -/
def execSrd (e : Eng) (w : BitVec 64) (s : State) : Res :=
  let r := rword w
  let n := if r.fmt = 1 then 2 else 1
  let bad := !r.clean || !r.isImm || r.rnd != 0 || 1 < r.fmt
  match e with
  | .simt c slot =>
    s.simt c slot (named r.d n) fun x t =>
      if bad || !alignedReg r.d n || (t.special r.imm c (some x) none 0).isNone then kf Stat.illegal x.lane0
      else if !regsBelow x.count r.d n then kf Stat.regRange x.lane0
      else
        let v (l : Nat) : Nat := (t.special r.imm c (some x) none l).getD 0
        x.finish (if r.imm = 0x10 then t.lookCycles c else t) (fun l th => th.setRegs r.d (v l) n)
  | .coach c =>
    s.coachRun c [r.d] fun _ k t =>
      if bad || !scalarOk r.d then .fault Stat.illegal 0
      else match t.special r.imm c none (some k) 0 with
        | none => .fault Stat.illegal 0
        | some v => CEff.regs (if r.imm = 0x10 then t.lookCycles c else t) c (k.setReg r.d v)

/-! ### The address stream (R88, R142) -/

/-- ASPUSH (0xA0): the coach core pushes one entry, waiting while the stream is full. -/
def execAspush (e : Eng) (w : BitVec 64) (s : State) : Res :=
  let r := rword w
  match e with
  | .simt c slot => s.simt c slot [] fun x _ => kf Stat.illegal x.lane0
  | .coach c =>
    s.coachRun c [r.a, r.b] fun _ k t =>
      if !r.clean || r.isImm || r.rnd != 0 || !scalarOk r.a || !scalarOk r.b then .fault Stat.illegal 0
      else if 256 ≤ (t.core c).stream.length then .notReady
      else
        let d := AsEntry.desc (BitVec.ofNat 128 (k.reg r.a + 2 ^ 64 * k.reg r.b))
        let x := t.core c
        CEff.regs (t.setCore c { x with stream := x.stream ++ [d] }) c k

/-- ASLVL (0xA1): entries held, markers included. -/
def execAslvl (e : Eng) (w : BitVec 64) (s : State) : Res :=
  let r := rword w
  match e with
  | .simt c slot => s.simt c slot [] fun x _ => kf Stat.illegal x.lane0
  | .coach c =>
    s.coachRun c [r.d] fun _ k t =>
      if !r.clean || r.rnd != 0 || !scalarOk r.d then .fault Stat.illegal 0
      else CEff.regs t c (k.setReg r.d (t.core c).stream.length)

/-! ### Batons of kernels and coach cores (R142, R143) -/

/-- Baton and count of BWAIT or BSIG, whether the encoding is legal, and whether number and count are in range. -/
structure BatonOp where
  baton : Nat
  count : Nat
  legal : Bool
  inRange : Bool
  deriving DecidableEq, Repr

/-- The baton operands of a word; `reg` reads a scalar register. -/
def batonOp (r : RWord) (sig : Bool) (reg : Nat → Nat) : BatonOp :=
  let legal := r.clean && r.rnd = 0
  if r.isImm then
    let n := fld r.imm 16 16
    { baton := fld r.imm 0 13, count := if sig then n else 1,
      legal := legal && fld r.imm 13 3 = 0 && (sig || n = 0), inRange := !sig || n != 0 }
  else
    let b := reg r.a
    let n := if sig then reg r.b else 1
    { baton := b, count := n, legal := legal && scalarOk r.a && (!sig || scalarOk r.b),
      inRange := b ≤ 8191 && 1 ≤ n && n ≤ 65535 }

/-- The kernel fault of a baton's number, at the lowest lane. -/
def batonFault (st lane b : Nat) : Eff := .fault { status := st, lane := lane, addr := b, reason := 0, wait := 0 }

/-- BWAIT (0xA2). -/
def execBwait (e : Eng) (w : BitVec 64) (s : State) : Res :=
  let r := rword w
  match e with
  | .simt c slot =>
    s.simt c slot [] fun x t =>
      let o := batonOp r false x.pack.sreg
      if !o.legal then kf Stat.illegal x.lane0
      else if !o.inRange then batonFault Stat.badBaton x.lane0 o.baton
      else
        let u := t.batonWait o.baton (.pack c slot x.lanes) (t.simtActor c) (some c)
        if u.2.1 ≠ Stat.ok then
          .ok (u.1.kernelFault c slot x.pc { status := u.2.1, lane := x.lane0, addr := o.baton, reason := 0, wait := 0 })
        else if u.2.2 then x.finish u.1 (fun _ th => { th with wait := waitLoads th.awaits })
        else x.jump u.1 (fun _ th => { th with wait := .baton o.baton, since := t.time, waitPc := x.pc })
  | .coach c =>
    s.coachRun c [r.a] fun _ k t =>
      let o := batonOp r false k.reg
      if !o.legal then .fault Stat.illegal 0
      else if !o.inRange then .fault Stat.badBaton 0
      else
        let u := t.batonWait o.baton (.coach c) (t.coachActor c) (some c)
        if u.2.1 ≠ Stat.ok then .ok (u.1.coachFault c u.2.1 0)
        else if u.2.2 then .ok (u.1.setCoach c { k.advance with wait := waitLoads k.awaits })
        else .ok (u.1.setCoach c { k with wait := .baton o.baton, since := t.time })

/-- Scope of the fence a baton's signal implies: CORE or SYS (R143). -/
def State.batonFence (s : State) (b : Nat) : Nat := if (s.baton b).coreScope then 0 else 2

/-- BSIG (0xA3): performed once the group's earlier accesses are ordered at the baton's scope. -/
def execBsig (e : Eng) (w : BitVec 64) (s : State) : Res :=
  let r := rword w
  match e with
  | .simt c slot =>
    s.simt c slot [] fun x t =>
      let o := batonOp r true x.pack.sreg
      if !o.legal then kf Stat.illegal x.lane0
      else if !o.inRange then batonFault Stat.badBaton x.lane0 o.baton
      else x.afterRelease t (t.batonFence o.baton) fun t =>
        let u := t.batonSignal o.baton o.count (t.simtActor c) (some c)
        if u.2 = Stat.ok then x.finish u.1 (fun _ th => th)
        else .ok (u.1.kernelFault c slot x.pc { status := u.2, lane := x.lane0, addr := o.baton, reason := 0, wait := 0 })
  | .coach c =>
    s.coachRun c [r.a, r.b] fun _ k t =>
      let o := batonOp r true k.reg
      if !o.legal then .fault Stat.illegal 0
      else if !o.inRange then .fault Stat.badBaton 0
      else t.coachAfterRelease c (t.batonFence o.baton) fun t =>
        let u := t.batonSignal o.baton o.count (t.coachActor c) (some c)
        if u.2 = Stat.ok then CEff.regs u.1 c (u.1.core c).coach
        else .ok (u.1.coachFault c u.2 0)

end Sys2Proof.Machine
end

