-- ==== Sys2Proof/Machine/Atomics.lean ====
section
/-! DEFINITION. Addresses of memory instructions, team scratch, LINEZ, atomics and reservations (R128 to R135, R164,
R177). -/

namespace Sys2Proof.Machine

/-! ### Format M (R128) -/

/-- Fields of format M. -/
structure MWord where
  vr : Nat
  vi : Nat
  sb : Nat
  xm : Nat
  sz : Nat
  sh : Nat
  ch : Nat
  ofs : Int
  deriving DecidableEq, Repr

def mword (w : BitVec 64) : MWord :=
  let n := w.toNat
  { vr := fld n 8 8, vi := fld n 16 8, sb := fld n 24 6, xm := fld n 30 2, sz := fld n 32 3, sh := fld n 35 3,
    ch := fld n 38 2, ofs := sx 24 (fld n 40 24) }

/-- Access size in bytes. -/
def MWord.size (m : MWord) : Nat := 2 ^ m.sz

/-- Whether no field holds a reserved value. -/
def MWord.legal (m : MWord) : Bool := m.xm ≤ 2 && m.sz ≤ 4 && m.sh ≤ 4 && m.ch ≤ 2

/-- Vector register fields of a thread's access with their counts: data and index. -/
def MWord.fields (m : MWord) : List (Nat × Nat) := [(m.vr, vecRegs m.size), (m.vi, if m.xm = 2 then 2 else 1)]

/-- The index of a thread, by the index form. -/
def MWord.index (m : MWord) (t : Thread) : Int :=
  match m.xm with
  | 0 => (t.reg m.vi : Int)
  | 1 => sx 32 (t.reg m.vi)
  | _ => (t.pair m.vi : Int)

/-- The index of the coach core: the 64-bit scalar register VI, or its low half (R144). -/
def MWord.cIndex (m : MWord) (k : Coach) : Int :=
  match m.xm with
  | 0 => (k.reg m.vi % 2 ^ 32 : Nat)
  | 1 => sx 32 (k.reg m.vi)
  | _ => (k.reg m.vi : Int)

/-- base + (index << SH) + OFS, modulo 2^64 (R129). -/
def MWord.addr (m : MWord) (base : Nat) (index : Int) : Nat := wrapInt 64 ((base : Int) + index * (2 ^ m.sh : Nat) + m.ofs)

/-- The data of a store of a thread. -/
def Thread.bytesOf (t : Thread) (r size : Nat) : List Byte :=
  leBytes size ((List.range (vecRegs size)).foldl (fun v i => v + 2 ^ (32 * i) * (if r = 255 then 0 else t.reg (r + i))) 0)

/-! ### Team scratch (R16, R130) -/

/-- What scratch byte `o` of a team holds at its start: a free value. Scratch is kept as its difference from it. -/
def Team.raw (t : Team) (o : Nat) : Byte := BitVec.ofNat 8 ((Config.free (t.seed + o / 8)).toNat / 2 ^ (8 * (o % 8)))
def Team.byte (t : Team) (o : Nat) : Byte := Mem.byte t.scratch o ^^^ t.raw o
def Team.setByte (t : Team) (o : Nat) (b : Byte) : Team := { t with scratch := Mem.setByte t.scratch o (b ^^^ t.raw o) }
def Team.bytes (t : Team) (o n : Nat) : List Byte := (List.range n).map (fun i => t.byte (o + i))
def Team.write (t : Team) (o : Nat) (bs : List Byte) : Team := bs.zipIdx.foldl (fun t b => t.setByte (o + b.2) b.1) t

/-- A fault of a lane with its address. -/
def KFault.at (status lane addr : Nat) : KFault := { status := status, lane := lane, addr := addr, reason := 0, wait := 0 }

/-- The fault of a scratch access, if any: alignment, then the team's declared scratch. -/
def scratchFault (l : Launch) (lane o size : Nat) : Option KFault :=
  if o % size ≠ 0 then some (KFault.at Stat.align lane o)
  else if l.scratch * 1024 < o + size then some (KFault.at Stat.scratchRange lane o)
  else none

/-- LDS and STS: SB and XM must be 0 (R130). -/
def State.scratchOp (s : State) (e : Eng) (w : BitVec 64) (store : Bool) : Res :=
  let m := mword w
  match e with
  | .coach c => s.coachIllegal c
  | .simt c slot =>
    s.simt c slot (m.fields.flatMap (fun f => named f.1 f.2)) fun x t =>
      if !m.legal || m.sb != 0 || m.xm != 0 || m.fields.any (fun f => !alignedReg f.1 f.2) then kf Stat.illegal x.lane0
      else if m.fields.any (fun f => !regsBelow x.count f.1 f.2) then kf Stat.regRange x.lane0
      else
        let at' (l : Nat) : Nat := m.addr 0 (m.index (x.pack.thread l))
        match x.lanes.findSome? (fun l => scratchFault x.l l (at' l) m.size), (t.core c).teams.look x.pack.team with
        | some f, _ => .fault f
        | none, none => .notReady
        | none, some team =>
          if store then
            let team := x.lanes.foldl (fun tm l => tm.write (at' l) ((x.pack.thread l).bytesOf m.vr m.size)) team
            let k := t.core c
            x.finish (t.setCore c { k with teams := Tab.put k.teams x.pack.team team }) (fun _ th => th)
          else x.finish t (fun l th => th.setRegs m.vr (leNat (team.bytes (at' l) m.size)) (vecRegs m.size))

def execLds (e : Eng) (w : BitVec 64) (s : State) : Res := s.scratchOp e w false

def execSts (e : Eng) (w : BitVec 64) (s : State) : Res := s.scratchOp e w true

/-! ### Data addresses of threads and coach cores (R129) -/

/-- Translate an access: its place, or the status and reason of its fault; alignment first. -/
def State.dataXlate (s : State) (l : Launch) (q : XReq) (addr size : Nat) : Xlat ⊕ (Nat × Nat) :=
  if addr % size ≠ 0 then .inr (Stat.align, 0) else s.xlate l.part l.stamp q addr

/-- The group's accesses: address and place of each lane, or the first fault by lane; with the translation caches used. -/
def Ctx.places (x : Ctx) (s : State) (q : XReq) (size : Nat) (at' : Nat → Nat) : List (Nat × Xlat) ⊕ KFault :=
  let r := x.lanes.map (fun l => (l, s.dataXlate x.l q (at' l) size))
  match r.findSome? (fun p => match p.2 with
    | .inr f => some { status := f.1, lane := p.1, addr := at' p.1, reason := f.2, wait := 0 : KFault }
    | .inl _ => none) with
  | some f => .inr f
  | none => .inl (r.filterMap (fun p => match p.2 with | .inl y => some (p.1, y) | .inr _ => none))

/-- Use the core's translation cache for each lane's page. -/
def Ctx.tlb (x : Ctx) (s : State) (at' : Nat → Nat) : State :=
  x.lanes.foldl (fun s l => s.tlbUse x.core x.l.part (at' l)) s

/-- A data fault; a page fault is counted, and its walk with those of the lanes before it (R214). -/
def Ctx.dataFault (x : Ctx) (s : State) (at' : Nat → Nat) (f : KFault) : Eff :=
  if f.status = Stat.pageFault then
    let s := (x.lanes.filter (· ≤ f.lane)).foldl (fun s l => s.tlbUse x.core x.l.part (at' l)) s
    .ok ((s.countPf x.l.part).kernelFault x.core x.slot x.pc f)
  else .fault f

/-- A coach core's data fault. -/
def State.coachDataFault (s : State) (c : Nat) (l : Launch) (va : Nat) (f : Nat × Nat) : CEff :=
  if f.1 = Stat.pageFault then .ok (((s.tlbUse c l.part va).countPf l.part).coachFault c f.1 f.2) else .fault f.1 f.2

/-- A full store queue takes no store; the cycles are free (R162, DESIGN CHOICE, log 16). -/
def sqFull (c : Nat) (s : State) : State := s.accrue [Reg.dbgSqFull c]

/-! ### LINEZ (R130, R177) -/

/-- A store by the reserving thread itself breaks its reservation on the granule (R164). -/
def State.ownStore (s : State) (w : Waiter) (pa : Nat) : State :=
  if (s.resv w).map Prod.fst = some (pa / 128) then (s.setResv w none).count (Reg.dbgRsvLost w.core) 1 else s

/-- LINEZ (0x65): each distinct line is zeroed once, by the lowest lane that names it. -/
def execLinez (e : Eng) (w : BitVec 64) (s : State) : Res :=
  let m := mword w
  let bad := !m.legal || m.vr != 255 || m.sz != 0
  let zeros : List Byte := List.replicate 128 0#8
  match e with
  | .simt c slot =>
    let fs := [(m.vi, if m.xm = 2 then 2 else 1)]
    s.simt c slot (fs.flatMap (fun f => named f.1 f.2)) fun x t =>
      if bad || fs.any (fun f => !alignedReg f.1 f.2) then kf Stat.illegal x.lane0
      else if fs.any (fun f => !regsBelow x.count f.1 f.2) then kf Stat.regRange x.lane0
      else
        let at' (l : Nat) : Nat := m.addr (x.pack.sreg m.sb) (m.index (x.pack.thread l))
        match x.places t (x.l.xreq true true true) 128 at' with
        | .inr f => x.dataFault t at' f
        | .inl ps =>
          if ps.any (fun p => p.2.attr = Attr.dev) then
            let l := ((ps.find? (fun p => p.2.attr = Attr.dev)).map Prod.fst).getD 0
            .fault (KFault.at Stat.atomRegion l (at' l))
          else if 16 ≤ x.pack.sq.length then .wait (sqFull c)
          else
            let lines := ps.foldl (fun acc p => if acc.any (fun q => q.2.pa = p.2.pa) then acc else acc ++ [p]) []
            let entry : SqEntry := { zero := true, lanes := lines.map (fun p =>
              { lane := p.1, attr := p.2.attr, pa := p.2.pa, bytes := zeros }) }
            let t := ps.foldl (fun t p => t.ownStore (.lane c slot p.1) p.2.pa) (x.tlb t at')
            match t.pack c slot with
            | some p => x.finish (t.setPack c slot { p with sq := p.sq ++ [entry] }) (fun _ th => th)
            | none => .notReady
  | .coach c =>
    s.coachRun c [m.vi, m.sb] fun l k t =>
      if bad || !scalarOk m.vi then .fault Stat.illegal 0
      else
        let a := m.addr (k.reg m.sb) (m.cIndex k)
        match t.dataXlate l (l.xreq true true true) a 128 with
        | .inr f => t.coachDataFault c l a f
        | .inl p =>
          if p.attr = Attr.dev then .fault Stat.atomRegion 0
          else if 16 ≤ k.sq.length then .notReady
          else
            let lane : SqLane := { lane := 0, attr := p.attr, pa := p.pa, bytes := zeros }
            let t := (t.tlbUse c l.part a).ownStore (.coach c) p.pa
            let j := (t.core c).coach
            .ok (t.setCoach c { j.advance with sq := j.sq ++ [{ zero := true, lanes := [lane] }] })

/-! ### Format AT (R131) -/

/-- Fields of format AT. -/
structure AWord where
  d : Nat
  a : Nat
  b : Nat
  c : Nat
  sz : Nat
  aop : Nat
  ord : Nat
  scope : Nat
  clean : Bool
  deriving DecidableEq, Repr

def aword (w : BitVec 64) : AWord :=
  let n := w.toNat
  { d := fld n 8 8, a := fld n 16 8, b := fld n 32 8, c := fld n 40 8, sz := fld n 24 3, aop := fld n 28 4,
    ord := fld n 48 2, scope := fld n 50 2, clean := !bitOf n 27 && fld n 52 12 = 0 }

/-- Access size in bytes. -/
def AWord.size (m : AWord) : Nat := if m.sz = 3 then 8 else 4

/-- Whether an atomic's fields are legal; `kind` is 0 for ATOM and ATOMS, 1 for LDX, 2 for STX. -/
def AWord.legal (m : AWord) (kind : Nat) : Bool :=
  m.clean && (m.sz = 2 || m.sz = 3) && m.scope ≤ 2 &&
  (match kind with
   | 0 => m.aop ≤ 10 && (m.aop != 10 || m.sz = 2) && (m.aop = 9 || m.c = 255)
   | 1 => m.aop = 0 && m.b = 255 && m.c = 255
   | _ => m.aop = 0 && m.c = 255)

/-- Registers of a thread's atomic: D, A, B, C with their counts; `scratch` takes a 32-bit offset in A. -/
def AWord.fields (m : AWord) (kind : Nat) (scratch : Bool) : List (Nat × Nat) :=
  let n := m.size / 4
  [(m.d, if kind = 2 then 1 else n), (m.a, if scratch then 1 else 2), (m.b, n), (m.c, n)]

/-- Whether ORD asks for a release, for an acquire. -/
def AWord.release (m : AWord) : Bool := 2 ≤ m.ord
def AWord.acquire (m : AWord) : Bool := m.ord % 2 = 1

/-- A thread's operand of `size` bytes. -/
def Thread.operand (t : Thread) (r size : Nat) : Nat := if size = 8 then t.pair r else t.reg r

/-- Do an ordered atomic's release first, where it has one (R131). -/
def Ctx.ordered (x : Ctx) (s : State) (m : AWord) (go : State → Eff) : Eff :=
  if m.release then x.afterRelease s m.scope go else go s

/-! ### ATOMS (R133) -/

/-- Distinct keys of a list, in order of first appearance. -/
def distinct (l : List Nat) : List Nat := l.foldl (fun acc a => if acc.contains a then acc else acc ++ [a]) []

/-- ATOMS (0x71): combined operations on team scratch. -/
def execAtoms (e : Eng) (w : BitVec 64) (s : State) : Res :=
  let m := aword w
  match e with
  | .coach c => s.coachIllegal c
  | .simt c slot =>
    let fs := m.fields 0 true
    s.simt c slot (fs.flatMap (fun f => named f.1 f.2)) fun x t =>
      if !m.legal 0 || fs.any (fun f => !alignedReg f.1 f.2) then kf Stat.illegal x.lane0
      else if fs.any (fun f => !regsBelow x.count f.1 f.2) then kf Stat.regRange x.lane0
      else
        let at' (l : Nat) : Nat := (x.pack.thread l).reg m.a
        match x.lanes.findSome? (fun l => scratchFault x.l l (at' l) m.size) with
        | some f => .fault f
        | none =>
          x.ordered t m fun t =>
            match (t.core c).teams.look x.pack.team with
            | none => .notReady
            | some team =>
              let r := (distinct (x.lanes.map at')).foldl (fun (acc : Team × List (Nat × Nat)) o =>
                let ls := (x.lanes.filter (fun l => at' l = o)).map (fun l =>
                  (l, (x.pack.thread l).operand m.b m.size, (x.pack.thread l).operand m.c m.size))
                let y := atomOp m.size m.aop ls (leNat (acc.1.bytes o m.size))
                (acc.1.write o (leBytes m.size y.2), acc.2 ++ y.1)) (team, [])
              let k := t.core c
              x.finish (t.setCore c { k with teams := Tab.put k.teams x.pack.team r.1 }) (fun l th =>
                let v := ((r.2.find? (fun p => p.1 = l)).map Prod.snd).getD 0
                { th.setRegs m.d v (m.size / 4) with wait := if m.acquire then waitLoads th.awaits else .none })

/-! ### ATOM, LDX, STX (R132, R133, R135, R164) -/

/-- Send one combined access to the agent that performs it: the slice of a resident store address, behind
the stores its cluster still has on their way there (R176), the home's cluster for ATOM, the issuing cluster for LDX and STX. -/
def State.sendAtom (s : State) (k : Nat) (w : AtomWait) : State :=
  let line := w.pa / 128
  if rsLine line then
    let home := (s.sliceOf w.pa).getD 0
    let s := s.force k line
    let r := s.doAtom home w (s.lineNow line)
    match r.2 with
    | some b => r.1.slicePut line b
    | none => r.1
  else
    let a := if w.kind = 0 then (s.homeOf line).getD k else k
    let g := s.agent a
    s.setAgent a { g with atoms := g.atoms ++ [w] }

/-- ATOM, LDX and STX by a group or a coach core; the STX of each lane is an access of its own, in lane order (R135). -/
def State.atomic (s : State) (e : Eng) (w : BitVec 64) (kind : Nat) : Res :=
  let m := aword w
  let write := kind != 1
  let region (p : Xlat) : Bool := p.attr = Attr.dev || (kind != 0 && p.attr = Attr.uc)
  match e with
  | .simt c slot =>
    let fs := m.fields kind false
    s.simt c slot (fs.flatMap (fun f => named f.1 f.2)) fun x t =>
      if !m.legal kind || fs.any (fun f => !alignedReg f.1 f.2) then kf Stat.illegal x.lane0
      else if fs.any (fun f => !regsBelow x.count f.1 f.2) then kf Stat.regRange x.lane0
      else
        let at' (l : Nat) : Nat := (x.pack.thread l).pair m.a
        match x.places t (x.l.xreq write true false) m.size at' with
        | .inr f => x.dataFault t at' f
        | .inl ps =>
          match ps.find? (fun p => region p.2) with
          | some p => .fault (KFault.at Stat.atomRegion p.1 (at' p.1))
          | none =>
            x.ordered t m fun t =>
              let t := (x.tlb t at').drainPack c slot
              let t := if kind = 2 then t else
                (distinct (ps.map (fun p => p.2.pa / 128))).foldl (fun t line =>
                  let t := t.l1WriteBack c line
                  t.setCore c ((t.core c).l1Drop line)) t
              let access (pa : Nat) (ps : List (Nat × Xlat)) : AtomWait :=
                { who := .lane c slot 0, kind := kind, pa := pa, size := m.size, aop := m.aop, asked := false,
                  lanes := ps.map (fun p =>
                    (p.1, m.d, (x.pack.thread p.1).operand m.b m.size, (x.pack.thread p.1).operand m.c m.size)) }
              let ws : List AtomWait := if kind = 2 then ps.map (fun p => access p.2.pa [p]) else
                (distinct (ps.map (fun p => p.2.pa))).map (fun pa => access pa (ps.filter (fun p => p.2.pa = pa)))
              let t := if kind = 0 then t.count (Reg.dbgSimtAtoms c) ws.length else t
              match x.finish t (fun _ th => { th with wait := .access, acq := m.acquire, since := t.time, waitPc := x.pc }) with
              | .ok u => .ok ((ws.foldl (fun u w => u.sendAtom (c / 8) w) u).pump)
              | r => r
  | .coach c =>
    s.coachRun c [m.d, m.a, m.b, m.c] fun l k t =>
      if !m.legal kind || !([m.d, m.a, m.b, m.c].all scalarOk) then .fault Stat.illegal 0
      else
        let a := k.reg m.a
        match t.dataXlate l (l.xreq write true false) a m.size with
        | .inr f => t.coachDataFault c l a f
        | .inl p =>
          if region p then .fault Stat.atomRegion 0
          else
            let go (t : State) : CEff :=
              let t := (t.tlbUse c l.part a).drainCoach c
              let t := if kind = 2 then t else
                let t := t.l1WriteBack c (p.pa / 128)
                t.setCore c ((t.core c).l1Drop (p.pa / 128))
              let n := 2 ^ (8 * m.size)
              let w : AtomWait := { who := .coach c, kind := kind, pa := p.pa, size := m.size, aop := m.aop, asked := false,
                                    lanes := [(0, m.d, k.reg m.b % n, k.reg m.c % n)] }
              let k := (t.core c).coach
              let t := t.setCoach c { k.advance with wait := .access, acq := m.acquire, since := t.time }
              .ok ((t.sendAtom (c / 8) w).pump)
            if m.release then t.coachAfterRelease c m.scope go else go t

def execAtom (e : Eng) (w : BitVec 64) (s : State) : Res := s.atomic e w 0

def execLdx (e : Eng) (w : BitVec 64) (s : State) : Res := s.atomic e w 1

def execStx (e : Eng) (w : BitVec 64) (s : State) : Res := s.atomic e w 2

end Sys2Proof.Machine
end

