-- ==== Sys2Proof/Machine/CoherenceEvents.lean ====
section
/-! DEFINITION. The coherence family: delivery of each message of R186, hold ends, timeouts, the directory probe, and
the memory events of chapter 09 that need no register write. -/

namespace Sys2Proof.Machine

/-- A message a row names arrives, as it was sent where it is in flight (R186). -/
def State.receive (s : State) (b : Msg) (src : Option Nat) : State :=
  if !s.alive then s
  else match s.arrive b src with
    | none => s
    | some (t, m) => (t.act m).getD s

/-- A request of agent `req`, 31 the PCIe host port, to a line's home (R182, R187, R193). -/
def State.request' (s : State) (kind home line req data : Nat) (bytes : List (Nat × Byte)) : Res :=
  onUnit (home < 20 && (req ≤ 20 || (req = 31 && (kind = 4 || kind = 5)))) <|
    .next (s.receive { Msg.plain 0 kind line req home true with req := req, data := data % 2 ^ 1024, bytes := bytes } (some req))

/-- RdS at the home (R193). -/
def execRds (home line req : Nat) (s : State) : Res := s.request' 0 home line req 0 []
/-- RdX at the home (R193). -/
def execRdx (home line req : Nat) (s : State) : Res := s.request' 1 home line req 0 []
/-- Upg at the home (R193). -/
def execUpg (home line req : Nat) (s : State) : Res := s.request' 2 home line req 0 []
/-- ClaimZ at the home (R177, R193). -/
def execClaimz (home line req : Nat) (s : State) : Res := s.request' 3 home line req 0 []
/-- RdCur at the home (R193, R194). -/
def execRdcur (home line req : Nat) (s : State) : Res := s.request' 4 home line req 0 []
/-- WrNC at the home: offsets below 128 (R193, R194). -/
def execWrnc (home line req : Nat) (bytes : List (Nat × BitVec 8)) (s : State) : Res :=
  s.request' 5 home line req 0 (bytes.filter (fun b => b.1 < 128))
/-- PutM at the home, with the line (R191, R193). -/
def execPutm (home line req data : Nat) (s : State) : Res := s.request' 6 home line req data []
/-- PutO at the home, with the line (R191, R193). -/
def execPuto (home line req data : Nat) (s : State) : Res := s.request' 7 home line req data []

/-- A forward of a line's home reaches an agent (R188, R189, R192); its answer is put in flight. -/
def State.forwarded' (s : State) (kind agent line req : Nat) : Res :=
  onUnit (agent ≤ 20) <|
    .next (s.receive { Msg.plain 1 kind line ((s.homeOf line).getD 0) agent false with req := req } none)

/-- FwdS at an agent (R188, R189, R192). -/
def execFwds (agent line req : Nat) (s : State) : Res := s.forwarded' 8 agent line req
/-- FwdX at an agent (R188, R189, R192). -/
def execFwdx (agent line req : Nat) (s : State) : Res := s.forwarded' 9 agent line req
/-- FwdCur at an agent (R188, R192). -/
def execFwdcur (agent line req : Nat) (s : State) : Res := s.forwarded' 10 agent line req
/-- Inv at an agent (R188, R189, R192). -/
def execInv (agent line req : Nat) (s : State) : Res := s.forwarded' 11 agent line req
/-- Recall at an agent (R184, R188, R192). -/
def execRecall (agent line : Nat) (s : State) : Res := s.forwarded' 12 agent line 0

/-- A response or ack reaches an agent, 31 the PCIe host port. -/
def State.answered (s : State) (b : Msg) (src : Option Nat) : Res :=
  onUnit (b.dst ≤ 20 || b.dst = 31) <| .next (s.receive b src)

/-- A response or ack reaches a home. -/
def State.homeAnswered (s : State) (b : Msg) : Res := onUnit (b.dst < 20) <| .next (s.receive b (some b.src))

/-- DataG: the line from memory with its grant (R187, R192). -/
def execDatag (agent line data install acks : Nat) (s : State) : Res :=
  s.answered { Msg.plain 2 13 line ((s.homeOf line).getD 0) agent false with
    data := data % 2 ^ 1024, install := install, acks := acks } none

/-- Grant: data comes from elsewhere or is not needed (R187, R192). -/
def execGrant (agent line install acks : Nat) (s : State) : Res :=
  s.answered { Msg.plain 2 14 line ((s.homeOf line).getD 0) agent false with install := install, acks := acks } none

/-- Data: the line from its owner, or from memory after FwdMiss (R187, R192). Single-bit errors met on its way, in the arrays
of the agent or its cores, are corrected and counted; an uncorrectable one, in an array or in the message's protection, is a
coherence failure with cause UE (R181, R196). The errors of accesses without a message of their own are told here too (DESIGN
CHOICE, log 80). -/
def execData (agent line src data : Nat) (mark : DataMark) (s : State) : Res :=
  let b : Msg := { Msg.plain 2 15 line src agent false with data := data % 2 ^ 1024, flag := mark.dirty }
  match mark.err with
  | .none => s.answered b (some src)
  | .corrected n => State.answered (if s.alive && agent < 20 then s.countSat (Reg.cchCe agent) n else s) b (some src)
  | .uncorrectable =>
    onUnit (agent ≤ 20 || agent = 31) <|
      guarded s.alive s (s.fatalStop { FatalInfo.of 3 with agent := agent, mclass := 2, addr := 128 * line })

/-- FwdMiss: the home reads memory, which is current, and sends Data with DIRTY 0 (R188); an error in state O. -/
def execFwdmiss (home line src : Nat) (s : State) : Res := s.homeAnswered (Msg.plain 2 16 line src home true)

/-- RecallData: the dirty line is written to memory and the answer counted (R184). -/
def execRecalldata (home line src data : Nat) (s : State) : Res :=
  s.homeAnswered { Msg.plain 2 17 line src home true with data := data % 2 ^ 1024 }

/-- WbAck: the write-back buffer is freed (R191, R192). -/
def execWback (agent line : Nat) (stale : Bool) (s : State) : Res :=
  s.answered { Msg.plain 2 18 line ((s.homeOf line).getD 0) agent false with flag := stale } none

/-- DoneNC: a non-caching write has been performed (R187, R194). -/
def execDonenc (agent line : Nat) (s : State) : Res :=
  s.answered (Msg.plain 2 19 line ((s.homeOf line).getD 0) agent false) none

/-- InvAck, to a requester or to the home of a recall (R184, R187). -/
def execInvack (toHome : Bool) (dst line src : Nat) (s : State) : Res :=
  if toHome then s.homeAnswered (Msg.plain 3 20 line src dst true)
  else s.answered (Msg.plain 3 20 line src dst false) (some src)

/-- CompAck: the transaction is complete, the directory takes its next state and held requests go on (R187, R193). -/
def execCompack (home line src : Nat) (dirty : Bool) (s : State) : Res :=
  s.homeAnswered { Msg.plain 3 21 line src home true with req := src, flag := dirty }

/-- HOLD_TIME_END (R189). -/
def execHoldTimeEnd (agent line : Nat) (s : State) : Res :=
  onUnit (agent ≤ 20) <|
    guarded (s.alive && (match s.line agent line with | some l => decide (l.hold = 1) | none => false)) s (s.endHold agent line)

/-- A message owed for 1 ms, or no heartbeat for 1 ms: coherence failure with cause SILENT (R196, R197). -/
def execAgentSilentTimeout (agent line cls dt : Nat) (s : State) : Res :=
  onUnit (agent ≤ 20 && cls < 4) <|
    let t := s.tick dt
    guarded s.alive t (t.fatalStop { FatalInfo.of 2 with agent := agent, mclass := cls, addr := 128 * line })

/-- The bridge link layer exhausts its retries, each of them counted, how many is not stated: coherence failure with cause BRIDGE
(R196, R197, R199; DESIGN CHOICE, log 16). -/
def execBridgeRetriesExhausted (agent cls pa : Nat) (s : State) : Res :=
  onUnit (agent ≤ 20 && cls < 4) <|
    guarded (s.alive && !s.oneDie) s ((s.accrue [Reg.cchBridgeRetry]).fatalStop
      { FatalInfo.of 4 with agent := agent, mclass := cls, addr := pa })

/-- The result of a directory probe (R199): a resident store address, or a line without an entry, reads HIT 0. -/
def State.probe (s : State) (line : Nat) : Nat :=
  let done := 2 ^ 41
  match s.homeOf line with
  | none => done
  | some h =>
    match s.dirEntry h line with
    | none => done
    | some e =>
      done + 2 ^ 40 + (if e.txn.isSome then 2 ^ 39 else 0) + 2 ^ 37 * (e.st % 4) +
        (if e.st = 2 || e.st = 3 then 2 ^ 32 * (e.owner % 32) else 0) + e.sharers % 2 ^ 32

/-- A write to CCH_DIR_PROBE (R199). -/
def State.dirProbe (s : State) (v : Nat) : State :=
  let pa := v % 2 ^ 48
  s.setReg Reg.cchDirResult (if s.inDram pa then s.probe (pa / 128) else 2 ^ 41)

/-- The resident store patrol, or a read: corrected words counted; an uncorrectable word is module-fatal (R204). -/
def execRsPatrol (corrected : Nat) (bad : Option Nat) (s : State) : Res := powered s <|
  let s := s.countSat Reg.cchRsCe corrected
  match bad with
  | none => .next s
  | some pa =>
    match s.sliceOf pa with
    | none => .fault .noSuchUnit
    | some k =>
      let s := { s with pmap := { s.pmap with badWords := s.pmap.badWords ++ [pa / 8 * 8] } }
      .next (s.fatalStop { FatalInfo.of 5 with agent := k, addr := pa })

/-- A slice or an LPDDR5X unit has been written with zeros; its CLEARING bit clears. A clearing that a reset meets starts
again after step 3 of the reset (R221). -/
def execClearingComplete (slice : Bool) (n : Nat) (s : State) : Res := powered s <|
  if 1 ≤ s.boot.resetStep && s.boot.resetStep ≤ 3 then .next s
  else if slice then
    onUnit (n < 20) <|
      guarded (s.pmap.clearSlices.contains n) s
        { s with pmap := { s.pmap with clearSlices := s.pmap.clearSlices.filter (· ≠ n) },
                 rstore := Mem.zero s.rstore (rsBase + n * 0x4000000) 0x3000000 }
  else
    onUnit (n < s.nUnits) <|
      guarded (s.pmap.clearUnits.contains n) s
        { s with pmap := { s.pmap with clearUnits := s.pmap.clearUnits.filter (· ≠ n) },
                 dram := Mem.zero s.dram (n * 0x40000000) 0x40000000 }

/-- A channel has become hot (R207): CCH_CHAN_HOT shows it, alarm CHAN_HOT carries the mask. -/
def execChannelHot (channel : Nat) (s : State) : Res := powered s <|
  onUnit (channel < s.nChannels) <|
    let s := s.setRegFld Reg.cchChanHot channel 1 1
    .next (s.alarm 13 (s.reg Reg.cchChanHot) true)

/-- A channel has been below both limits for 64 ms (R207). -/
def execChannelCool (channel dt : Nat) (s : State) : Res := powered s <|
  onUnit (channel < s.nChannels) <|
    let s := (s.tick dt).setRegFld Reg.cchChanHot channel 1 0
    .next (if s.reg Reg.cchChanHot = 0 then s.alarmOff 13 else s)

end Sys2Proof.Machine
end

