-- ==== Sys2Proof/Machine/Metering.lean ====
section
/-! DEFINITION. Energy metering and signed receipts (12_energy_metering.md: R284 to R306): the attribution of a frame,
receipts, ledger blocks, the HSS reservation, receipt rings, receipt notes and group receipts. -/

namespace Sys2Proof.Machine

/-! ### The split of R289 -/

/-- Divide a whole by weights, exactly; `fb` is the place of the fallback consumer. -/
def split (total : Nat) (w : List Nat) (fb : Nat) : List Nat :=
  let w := if w.sum = 0 then (List.range w.length).map (fun i => if i = fb then 1 else 0) else w
  let big := max w.sum 1
  let part := w.map (fun x => total * x / big)
  let frac := w.map (fun x => total * x % big)
  let left := total - part.sum
  let rank (i f : Nat) : Nat := (frac.zipIdx.filter (fun g => f < g.1 || (f = g.1 && g.2 < i))).length
  (part.zip frac).zipIdx.map (fun p => p.1.1 + (if rank p.2 p.1.2 < left then 1 else 0))

/-- Category of a rail: 0 compute, 1 memory, 2 link, 3 host; VAUX has none (R283). -/
def railCat (r : Nat) : Nat := if r ≤ 4 then 0 else if r ≤ 8 then 1 else if r = 9 then 2 else if r = 10 then 3 else 4

/-- The static pool among the consumers (R289). -/
def staticPool : Nat := 131081

/-- The sensors invalid in a frame, for any of the three reasons; rails 1 and 3 of a Xiari 2-C are always valid (R283,
R284). -/
def State.invalidMask (s : State) (rec : FrameRecord) : Nat :=
  let m := (rec.saturated ||| rec.outOfRange ||| rec.badCheck) % 2 ^ 13
  if s.oneDie then setFld (setFld m 1 1 0) 3 1 0 else m

/-- The inlet energy of a frame in eu: the sum of the products v × i × 0.5 µs of its corrected samples, of mV and mA, a
part of an eu dropped (R282; the units and the rounding are a DESIGN CHOICE, log 84). -/
def State.inletEnergy (s : State) (rec : FrameRecord) : Nat :=
  (rec.samples.map (fun x => Config.volts s.meter.calOk x.1 * Config.amps s.meter.calOk rec.shunt x.2)).sum * 512 / 1000000

/-- The conversion loss at a summed rail energy: the curve's value to the nearest eu, a tie going down (R284). -/
def State.conversionLoss (s : State) (sum : Nat) : Nat :=
  let v := Config.lossCurve s.meter.calOk sum
  (2 * v.1 + v.2) / (2 * (v.2 + 1))

/-- The counts of a frame: those of the sites that the model counts, and of the others (R288). -/
def State.activity (s : State) (rec : FrameRecord) : List Activity :=
  s.meter.acts.map (fun a => { idx := a.1 / 64, event := a.1 % 64 / 2, die := a.1 % 2, n := a.2 }) ++ rec.counts

/-- The static model of a rail: each present cluster, channel, port and die at the frame's temperature and the rail's voltage
(R288). -/
def State.staticEnergy (s : State) (rec : FrameRecord) (r : Nat) : Nat :=
  let units : List (Nat × Nat) := ((List.range s.nClusters).filter s.clusterOn).map (fun k => (0, k)) ++
    (List.range (if s.oneDie then 32 else 64)).map (fun k => (1, k)) ++ (setBits s.units.ports 16).map (fun k => (2, k)) ++
    (List.range (if s.oneDie then 1 else 2)).map (fun k => (3, k))
  (units.map (fun u => Config.leakage s.meter.calOk u.1 u.2 r rec.temp (nth 0 rec.mv r))).sum

/-- The modelled energy of a consumer on a rail: each count times its coefficient; the static model, with all of rail 11, for
the static pool (R288, R290). -/
def State.modelled (s : State) (rec : FrameRecord) (x r : Nat) : Nat :=
  if x = staticPool then s.staticEnergy rec r
  else (((s.activity rec).filter (fun a => a.idx = x && (siteRails a.event a.die).contains r)).map (fun a =>
    a.n * Config.coefficient s.meter.calOk a.event r)).sum

/-- Whether the calibration has expired by the frame's day (R285, R293, R309). -/
def frameExpired (rec : FrameRecord) : Bool := Config.calExpiry.toNat < rec.day

/-- What a frame gives each consumer (R290): the meter indices charged, each with its energy, its four categories and
its share of the static pool; the accounts' overhead, spread and unrequested energy; rails and inlet. -/
structure Attribution where
  idx : List (Nat × Nat × List Nat × Nat)
  ovh : List Nat
  spread : List Nat
  unreq : List Nat
  rails : List Nat
  inlet : Nat
  deriving DecidableEq, Repr

/-- Weight of a partition in the static pool (R291). -/
def State.staticWeight (s : State) (p : Nat) : Nat :=
  if s.carved p then 16 * (setBits (s.pClusters p) 20).length + (setBits (s.pUnits p) 512).length else 0

/-- The attribution of a frame (R290, R291; R306 after a module-fatal stop). -/
def State.attribution (s : State) (rec : FrameRecord) : Attribution :=
  let xs := (Tab.keys s.meter.idx).filter (fun x => (s.activity rec).any (fun e => e.idx = x))
  let k := xs.length
  let all := xs ++ (List.range 8).map unrequested ++ [moduleIndex, staticPool]
  let inv := s.invalidMask rec
  let q := (List.range 12).map (fun r => all.map (fun x => s.modelled rec x r))
  let m := (List.range 12).map (fun r =>
    if bitOf inv r then (nth [] q r).sum else if s.oneDie && (r = 1 || r = 3) then 0 else nth 0 rec.rails r)
  let inlet := if bitOf inv 12 then m.sum + s.conversionLoss m.sum else s.inletEnergy rec
  let a := (m.zip q).map (fun x => split x.1 x.2 (k + 9))
  let t := if s.meter.stopped = 2 then (List.range (k + 10)).map (fun i => if i = k + 8 then inlet else 0)
           else split inlet ((List.range (k + 10)).map (fun i => (a.map (fun l => nth 0 l i)).sum)) (k + 9)
  let cat (i : Nat) : List Nat :=
    split (nth 0 t i)
      ((List.range 4).map (fun c => ((a.zipIdx.filter (fun l => railCat l.2 = c)).map (fun l => nth 0 l.1 i)).sum)) 0
  let share := split (nth 0 t (k + 9)) ((List.range 8).map s.staticWeight ++ [0]) 8
  let part (x : Nat) : Nat := match s.meter.idx.look x with | some e => e.part | none => 8
  let mine (p i : Nat) : Nat := if part (nth 0 xs i) = p then nth 0 t i else 0
  let spreads (p : Nat) : Bool := s.entry (0x6100 + p) 5 = 1 && (List.range k).any (fun i => mine p i != 0)
  let give := (List.range 8).map (fun p =>
    if spreads p then split (nth 0 share p) ((List.range k).map (mine p)) 0 else List.replicate k 0)
  { idx := xs.zipIdx.map (fun x =>
      (x.1, nth 0 t x.2, (if nth 0 t x.2 = 0 then [0, 0, 0, 0] else cat x.2), (give.map (fun g => nth 0 g x.2)).sum)),
    ovh := (List.range 9).map (fun p => nth 0 t (k + p) + (if p < 8 && spreads p then 0 else nth 0 share p)),
    spread := (List.range 9).map (fun p => if p < 8 && spreads p then nth 0 share p else 0),
    unreq := (List.range 9).map (fun p => nth 0 t (k + p)), rails := m, inlet := inlet }

/-- Accuracy class of a frame (R293). -/
def State.frameClass (s : State) (rec : FrameRecord) : Nat :=
  if bitOf (s.invalidMask rec) 12 || !s.meter.calOk then 3 else if s.invalidMask rec != 0 || frameExpired rec then 2 else 1

/-! ### Frames (R286, R290, R294) -/

/-- Element-wise sum. -/
def addLists (a b : List Nat) : List Nat := (a.zip b).map (fun p => p.1 + p.2)

/-- Sums of two spans of frames, the earlier first. -/
def MeterSums.join (a b : MeterSums) : MeterSums :=
  { first := a.first, time := a.time, eIn := a.eIn + b.eIn, eReq := a.eReq + b.eReq, ovh := addLists a.ovh b.ovh,
    spread := addLists a.spread b.spread, unreq := addLists a.unreq b.unreq, rails := addLists a.rails b.rails,
    invalid := a.invalid ||| b.invalid, cls := max a.cls b.cls, carved := a.carved ||| b.carved }

/-- A frame's sums. -/
def State.frameSums (s : State) (rec : FrameRecord) (a : Attribution) : MeterSums :=
  { first := s.meter.cur.first, time := s.meter.cur.time, eIn := a.inlet,
    eReq := (a.idx.map (fun x => x.2.1 + x.2.2.2)).sum, ovh := a.ovh, spread := a.spread, unreq := a.unreq,
    rails := a.rails, invalid := s.invalidMask rec, cls := s.frameClass rec,
    carved := bitsOf ((List.range 8).map s.carved) }

/-- Charge a frame to a meter index that has no receipt yet. -/
def MeterIdx.charge (x : MeterIdx) (cls energy : Nat) (cats : List Nat) (stat : Nat) : MeterIdx :=
  { x with cls := if x.frameClose.isNone then max x.cls cls else x.cls, energy := x.energy + energy + stat,
           cats := addLists x.cats cats, stat := x.stat + stat }

/-- Close every open request ABORTED (R306): its slot is FREE, no queue is attached. -/
def State.abortRequests (s : State) : State :=
  let close (x : MeterIdx) : MeterIdx :=
    if x.closed.isSome then x
    else { x with closed := some (Stat.aborted, s.time), spread := s.entry (0x6100 + x.part) 5 = 1 }
  { s with reqs := [], queues := s.queues.map (fun q => (q.1, { q.2 with cur := none, opened := [] })),
           meter := { s.meter with idx := s.meter.idx.map (fun x => (x.1, close x.2)) } }

/-- Receipts of requests whose slots became FREE in the frame are finalised (R294). -/
def Meter.finalise (m : Meter) : Meter :=
  { m with idx := m.idx.map (fun x =>
      (x.1, if x.2.closed.isSome && x.2.frameClose.isNone then { x.2 with frameClose := some m.frame } else x.2)) }

/-- The frame boundary: the next frame begins, its counts from zero; a hundred that ended awaits its block. -/
def Meter.turn (m : Meter) (time : Nat) : Meter :=
  let m := { m with frame := wrap64 (m.frame + 1), frameTime := time, stopped := if m.stopped = 0 then 0 else 2, acts := [] }
  if m.frame % 100 = 0 then
    { m with due := m.due ++ [(m.cur, m.frame - 1, time)], cur := MeterSums.zero m.frame time }
  else m

/-- Raise or clear the sensor and calibration alarms of a frame (R284, R285, R369). -/
def State.meterAlarms (s : State) (rec : FrameRecord) : State :=
  let mask := s.invalidMask rec
  let s := if mask = 0 then s.alarmOff 11
           else if mask = s.reg Reg.mtrSensor then s else s.alarm 11 mask true
  let s := s.setReg Reg.mtrSensor mask
  if frameExpired rec && !s.meter.calExpired && s.meter.calOk then s.alarm 10 2 true else s

/-- MTR registers of a frame (R310, R311). -/
def State.meterRegs (s : State) (a : Attribution) : State :=
  let s := (s.count Reg.mtrEIn a.inlet).setReg Reg.mtrFrame (wrap64 (s.meter.frame + 1))
  let s := a.rails.zipIdx.foldl (fun s r => s.count (Reg.mtrERail r.2) r.1) s
  let part (x : Nat) : Nat := match s.meter.idx.look x with | some e => e.part | none => 8
  (List.range 8).foldl (fun s p =>
    let used := ((a.idx.filter (fun x => part x.1 = p)).map (fun x => x.2.1 + x.2.2.2)).sum
    (s.count (Reg.mtrEnergy p) (used + nth 0 a.ovh p)).count (Reg.mtrOvh p) (nth 0 a.ovh p)) s

/-- The end of a frame. -/
def State.frameEnd (s : State) (rec : FrameRecord) : State :=
  let a := s.attribution rec
  let sums := s.frameSums rec a
  let cls := s.frameClass rec
  let s := (s.meterAlarms rec).meterRegs a
  let charge (x : Nat × MeterIdx) : Nat × MeterIdx :=
    match a.idx.find? (fun y => y.1 = x.1) with
    | some (_, t, c, g) => (x.1, x.2.charge cls t c g)
    | none => (x.1, x.2.charge cls 0 [0, 0, 0, 0] 0)
  let m := s.meter
  let s := { s with meter := { m with idx := m.idx.map charge, cur := m.cur.join sums, inputMv := rec.inputMv,
                                      calExpired := frameExpired rec } }
  let s := if m.stopped = 1 then s.abortRequests else s
  { s with meter := s.meter.finalise.turn s.time }

/-! ### Receipts (R293, R295) -/

/-- Uncertainty of an energy in a class: ceil(ENERGY × p) + c (R293). -/
def uncertainty (cls energy : Nat) : Nat :=
  if cls = 1 then (energy * 15 + 999) / 1000 + 20480000
  else if cls = 2 then (energy * 5 + 99) / 100 + 51200000
  else (energy * 15 + 99) / 100 + 204800000

/-- An energy field saturates at 2^64 - 1. -/
def sat64 (v : Nat) : Nat := min v (2 ^ 64 - 1)

/-- Version of the firmware that runs; 0 when it came from neither slot. -/
def State.fwVer (s : State) : Nat :=
  match (if s.boot.running = 0 then s.boot.slotA else if s.boot.running = 1 then s.boot.slotB else none) with
  | some v => v.1
  | none => 0

/-- Calibration record version; 0 where it failed (R285). -/
def State.calVer (s : State) : Nat := if s.meter.calOk then Config.calVer.toNat else 0

/-- Module number in the group, 0 for a module with no group. -/
def State.moduleNo (s : State) : Nat := if s.links.valid then s.links.coord % 64 else 0

/-- The metering certificate: the identity key's signatures of its bytes 0 to 171 were made at the factory (R299, R381). -/
def meterCert : List Byte :=
  let b := layout 172 [(0, 4, 1), (4, 16, Config.serial.toNat), (20, 97, leNat (Crypto.pubOf (Crypto.keyOf 0))),
    (117, 52, leNat (Crypto.hssPub 0))]
  b ++ Crypto.sign 1 b ++ exactly 3532 Config.meterHss

/-- SHA-256 of the metering certificate (R299). -/
def deviceId : Nat := leNat (Crypto.sha256 meterCert)

/-- The 192 B receipt of a meter index (R295). -/
def State.receipt (s : State) (x : MeterIdx) : List Byte :=
  let st := (x.closed.getD (0, 0)).1
  let tClose := (x.closed.getD (0, 0)).2
  let un := uncertainty x.cls (sat64 x.energy)
  let sat := ([x.energy, x.stat, un] ++ x.cats).any (fun v => 2 ^ 64 ≤ v)
  let flags := bit (bitOf x.reqid 63) + 2 * bit x.spread + 4 * bit sat + 8 * bit x.tstep
  layout 192 ([(0, 1, 1), (1, 1, 1), (2, 1, st), (3, 1, x.cls), (4, 2, flags), (6, 1, s.moduleNo), (7, 1, x.part),
    (8, 8, x.reqid), (16, 4, x.tenant), (20, 2, x.slot), (24, 4, s.meter.boot), (28, 4, x.packets), (32, 8, x.tOpen),
    (40, 8, tClose), (48, 8, x.frameOpen), (56, 8, x.frameClose.getD 0), (64, 8, sat64 x.energy),
    (104, 8, sat64 x.stat), (112, 8, sat64 un), (120, 4, s.fwVer), (124, 4, s.calVer), (128, 32, deviceId)] ++
    x.cats.zipIdx.map (fun c => (72 + 8 * c.2, 8, sat64 c.1)))

/-! ### The Merkle tree of RFC 6962 (R297) -/

/-- Hash of a leaf and of a node. -/
def leafHash (leaf : List Byte) : List Byte := Crypto.sha256 (0x00#8 :: leaf)
def nodeHash (l r : List Byte) : List Byte := Crypto.sha256 (0x01#8 :: (l ++ r))

/-- The largest power of two below `n` (n ≥ 2). -/
def splitPoint (n : Nat) : Nat := ((List.range 18).reverse.find? (fun k => 2 ^ k < n)).elim 1 (fun k => 2 ^ k)

/-- The tree hash of a list of leaf hashes, by levels left. -/
def treeHash : Nat → List (List Byte) → List Byte
  | 0, _ => []
  | _, [] => []
  | _, [h] => h
  | f + 1, l => nodeHash (treeHash f (l.take (splitPoint l.length))) (treeHash f (l.drop (splitPoint l.length)))

/-- The audit path of leaf `i`, lowest level first. -/
def auditPath : Nat → Nat → List (List Byte) → List (List Byte)
  | 0, _, _ => []
  | _, _, [] => []
  | _, _, [_] => []
  | f + 1, i, l =>
    let k := splitPoint l.length
    if i < k then auditPath f i (l.take k) ++ [treeHash f (l.drop k)]
    else auditPath f (i - k) (l.drop k) ++ [treeHash f (l.take k)]

/-- Levels that hold a block of at most 262,144 leaves. -/
def treeLevels : Nat := 19

/-! ### Receipt notes and group receipts (R304, R305) -/

/-- The receipt anchor: the module 0x6000.0B names, else the lowest-numbered anchor known (DESIGN CHOICE, log 25). -/
def State.receiptAnchor (s : State) : Option Nat :=
  let named := s.entry 0x6000 0x0B
  if named ≠ 0xFF then some (named % 64)
  else
    ((List.range 64).filter (fun m => (s.pcie.link && m = s.moduleNo) || s.anchors.contains m)).head?

/-- The 64 data bytes of a NOTE message; the spec names its fields, their places are the model's. -/
def noteBytes (n : NoteMsg) : List Byte :=
  layout 64 [(0, 1, n.module), (1, 1, n.status), (2, 1, n.cls), (4, 4, n.boot), (8, 8, n.block), (16, 8, n.energy),
    (24, 8, n.uncert), (32, 32, n.hash)]

/-- The note a NOTE message carries. -/
def noteOf (m : MsgIn) : NoteMsg :=
  let f (o k : Nat) : Nat := leNat ((m.data.drop o).take k)
  { reqid := m.reqid, tenant := m.tenant, module := f 0 1, boot := f 4 4, block := f 8 8, hash := f 32 32,
    status := f 1 1, cls := f 2 1, energy := f 16 8, uncert := f 24 8 }

/-- Insert a note after those of its module number and below. -/
def noteInsert (n : NoteMsg) : List NoteMsg → List NoteMsg
  | [] => [n]
  | a :: l => if a.module ≤ n.module then a :: noteInsert n l else n :: a :: l

/-- The bytes of a group receipt over legs in module order. -/
def groupReceiptBytes (k : NoteKey) (legs : List NoteMsg) : List Byte :=
  let any (st : Nat) : Bool := legs.any (fun n => n.status = st)
  let st := if any Stat.aborted then Stat.aborted else if any Stat.droppedLate then Stat.droppedLate else Stat.ok
  let cls := legs.foldl (fun c n => max c n.cls) 0
  layout (64 + 48 * legs.length) ([(0, 1, 3), (1, 1, 1), (2, 1, st), (3, 1, legs.length), (4, 1, cls), (6, 2, k.seq),
    (8, 8, k.reqid), (16, 4, k.tenant), (24, 8, sat64 (legs.map (fun n => n.energy)).sum),
    (32, 8, sat64 (legs.map (fun n => n.uncert)).sum)] ++
    legs.zipIdx.flatMap (fun n =>
      let o := 64 + 48 * n.2
      [(o, 1, n.1.module), (o + 1, 1, n.1.status), (o + 2, 1, n.1.cls), (o + 4, 4, n.1.boot), (o + 8, 8, n.1.block),
       (o + 16, 32, n.1.hash)]))

/-- The key of a request and tenant among those the anchor knows. -/
def NoteKey.is (k : NoteKey) (reqid tenant : Nat) : Bool := k.reqid = reqid && k.tenant = tenant

/-- A partition of this module with a request of the key, the lowest meter index deciding among several (DESIGN CHOICE, log 57). -/
def State.keyPart (s : State) (reqid tenant : Nat) : Option Nat :=
  (s.meter.idx.find? (fun x => x.2.reqid = reqid && x.2.tenant = tenant)).map (fun x => x.2.part)

/-- Issue the group receipt of a key: at most 64 legs; notes left over begin the next one. It goes to the partition that
had an open request of the key until now (R305). -/
def State.groupIssue (s : State) (k : NoteKey) : State :=
  let notes := k.notes.foldr noteInsert []
  let part := k.part.orElse (fun _ => s.keyPart k.reqid k.tenant)
  let leaf := (s.meter.frame, part, groupReceiptBytes k (notes.take 64))
  let k' : NoteKey := { k with seq := (k.seq + 1) % 2 ^ 16, notes := notes.drop 64, first := s.time }
  { s with meter := { s.meter with groupLeaves := s.meter.groupLeaves ++ [leaf],
                                   keys := s.meter.keys.map (fun x => if x.is k.reqid k.tenant then k' else x) } }

/-- Keys that hold notes. -/
def Meter.held (m : Meter) : List NoteKey := m.keys.filter (fun k => !k.notes.isEmpty)

/-- The key whose first note is oldest. -/
def State.oldestKey (s : State) : Option NoteKey :=
  s.meter.held.foldl (fun a k => match a with
    | some b => if s.since b.first < s.since k.first then some k else some b
    | none => some k) none

/-- The anchor takes a note in. -/
def State.noteIn (s : State) (n : NoteMsg) (part : Option Nat) : State :=
  let known := s.meter.keys.find? (fun k => k.is n.reqid n.tenant)
  let fresh := match known with | some k => k.notes.isEmpty | none => true
  let s := if fresh && 65536 ≤ s.meter.held.length then
      (match s.oldestKey with | some k => s.groupIssue k | none => s)
    else s
  let part := part.orElse (fun _ => s.keyPart n.reqid n.tenant)
  let add (k : NoteKey) : NoteKey :=
    if k.is n.reqid n.tenant then
      { k with notes := if k.notes.contains n then k.notes else k.notes ++ [n],
               first := if k.notes.isEmpty then s.time else k.first, part := k.part.orElse (fun _ => part) }
    else k
  let keys := if known.isSome then s.meter.keys.map add
    else s.meter.keys ++
      [{ reqid := n.reqid, tenant := n.tenant, part := part, first := s.time, seq := 0, notes := [n] }]
  { s with meter := { s.meter with keys := keys } }

/-- Send a note to the receipt anchor, which may be this module. -/
def State.sendNote (s : State) (n : NoteMsg) (part : Option Nat) : State :=
  match s.receiptAnchor with
  | none => s
  | some a =>
    if a = s.moduleNo then
      { s with meter := { s.meter with notes := s.meter.notes.erase n } }.noteIn n part
    else s.sendMsg { SentMsg.mk0 a 4 0 with reqid := n.reqid, tenant := n.tenant, req := true, data := noteBytes n }

/-- Send the note of a signed receipt and hold it until it is acknowledged; a full store discards and counts it. -/
def State.newNote (s : State) (n : NoteMsg) (part : Nat) : State :=
  if 65536 ≤ s.meter.notes.length then s.count Reg.mtrNoteLost 1
  else { s with meter := { s.meter with notes := s.meter.notes ++ [n] } }.sendNote n (some part)

/-- NOTE_RESEND: a note whose message is no longer under way is sent again. -/
def execNoteResend (i dt : Nat) (s : State) : Res := powered s <|
  let s := s.tick dt
  match s.meter.notes.drop i with
  | n :: _ =>
    let underWay := s.links.sent.any (fun m => m.kind = 4 && m.reqid = n.reqid && m.tenant = n.tenant && m.data = noteBytes n)
    guarded (!underWay) s (s.sendNote n none)
  | [] => .next s

/-- GROUP_RECEIPT: the first block that begins at least GROUP_WAIT after the key's first note issues its receipt. -/
def execGroupReceipt (reqid tenant dt : Nat) (s : State) : Res := powered s <|
  let s := s.tick dt
  match s.meter.held.find? (fun k => k.is reqid tenant) with
  | some k =>
    guarded (s.entry 0x6000 0x0C * 1000000 + s.since s.meter.cur.time ≤ s.since k.first) s (s.groupIssue k)
  | none => .next s

/-! ### Ledger blocks (R296, R298 to R301) -/

/-- A leaf of a block with its kind in a ring entry and the ring it goes to (8: the host's). -/
structure Leaf where
  kind : Nat
  ring : Nat
  body : List Byte
  deriving DecidableEq, Repr

/-- Insert a receipt by FRAME_CLOSE, then SLOT. -/
def receiptInsert (x : MeterIdx) : List MeterIdx → List MeterIdx
  | [] => [x]
  | y :: l =>
    let before := (y.frameClose.getD 0) < (x.frameClose.getD 0) ||
      ((y.frameClose.getD 0) = (x.frameClose.getD 0) && y.slot ≤ x.slot)
    if before then y :: receiptInsert x l else x :: y :: l

/-- Whether a receipt is finalised in a frame up to `last`. -/
def MeterIdx.dueBy (x : MeterIdx) (last : Nat) : Bool := match x.frameClose with | some f => f ≤ last | none => false

/-- The receipts of a block, in order. -/
def Meter.receiptsBy (m : Meter) (last : Nat) : List MeterIdx :=
  ((m.idx.map Prod.snd).filter (fun x => x.dueBy last)).foldr receiptInsert []

/-- How many group receipts a block of at most 262,144 leaves still takes; the others go into the next one (R296; DESIGN
CHOICE, log 84). -/
def State.groupRoom (s : State) (d : MeterSums) (last : Nat) : Nat :=
  262144 - (2 + (setBits d.carved 8).length + (s.meter.receiptsBy last).length)

/-- The leaves of the block that is due, in the order of R296. -/
def State.leaves (s : State) (d : MeterSums) (last eOpen : Nat) : List Leaf :=
  let span := [(8, 8, d.first), (16, 8, last)]
  let summary := layout 256 ([(0, 1, 2), (1, 1, 1), (4, 2, d.invalid), (6, 1, d.cls), (24, 8, sat64 d.eIn),
    (32, 8, sat64 d.eReq), (40, 8, sat64 eOpen)] ++ span ++ d.ovh.zipIdx.map (fun e => (48 + 8 * e.2, 8, sat64 e.1)) ++
    d.rails.zipIdx.map (fun e => (120 + 8 * e.2, 8, sat64 e.1)))
  let overhead (a : Nat) : Leaf :=
    { kind := 3, ring := a,
      body := layout 64 ([(0, 1, 4), (1, 1, 1), (2, 1, a), (24, 8, sat64 (nth 0 d.ovh a)),
        (32, 8, sat64 (nth 0 d.spread a)), (40, 8, sat64 (nth 0 d.unreq a))] ++ span) }
  [{ kind := 5, ring := 8, body := summary }] ++ (setBits d.carved 8).map overhead ++ [overhead 8] ++
    (s.meter.receiptsBy last).map (fun x => { kind := 1, ring := x.part, body := s.receipt x }) ++
    ((s.meter.groupLeaves.filter (fun g => g.1 ≤ last)).take (s.groupRoom d last)).map (fun g =>
      { kind := 4, ring := g.2.1.getD 8, body := g.2.2 })

/-- Whether a ring is configured (R309). -/
def State.ringBase (s : State) (r : Nat) : Nat := if r < 8 then s.entry (0x6100 + r) 1 else s.entry 0x6000 8
def State.ringLog (s : State) (r : Nat) : Nat := if r < 8 then s.entry (0x6100 + r) 2 else s.entry 0x6000 9

/-- Bytes of a ring entry. -/
def RingEntry.size (e : RingEntry) : Nat := 32 + e.body.length + 32 * e.path.length

/-- Bytes that wait in the backlog area. -/
def Meter.backlogBytes (m : Meter) : Nat := (m.backlog.map (fun l => (l.map RingEntry.size).sum)).sum

/-- The entries a block puts into a ring (R302); a partition or host with no ring gets none. -/
def State.blockEntries (s : State) (body : List Byte) (leaves : List Leaf) (r : Nat) : List RingEntry :=
  if s.ringBase r = 0 then []
  else
    let hashes := leaves.map (fun l => leafHash l.body)
    { kind := 2, leaf := 0, block := s.meter.block, body := body, path := [] } ::
      (leaves.zipIdx.filter (fun l => l.1.ring = r)).map (fun l =>
        { kind := l.1.kind, leaf := l.2, block := s.meter.block, body := l.1.body, path := auditPath treeLevels l.2 hashes })

/-- Whether an HSS index is available (R301). -/
def Meter.hssReady (m : Meter) : Bool := m.hssQ < m.hssEnd && m.hssQ < 2 ^ 40

/-- The header of a block (R298). -/
def State.blockHeader (s : State) (d : MeterSums) (last endTime n root : Nat) : List Byte :=
  let flags := bit (s.meter.block = 0) + 2 * bit (2 ≤ d.cls) + 4 * bit (d.first + 100 ≤ last)
  layout 192 [(0, 2, 1), (2, 2, flags), (4, 4, n), (8, 4, s.meter.boot), (12, 1, s.moduleNo), (16, 8, s.meter.block),
    (24, 8, d.first), (32, 8, last), (40, 8, d.time), (48, 8, endTime), (56, 4, s.fwVer), (60, 4, s.calVer),
    (64, 32, deviceId), (96, 32, leNat s.meter.prev), (128, 32, root), (160, 8, s.meter.hssQ)]

/-- The note of a receipt of a group request. -/
def State.noteFor (s : State) (block : Nat) (x : MeterIdx) : NoteMsg :=
  { reqid := x.reqid, tenant := x.tenant, module := s.moduleNo, boot := s.meter.boot, block := block,
    hash := leNat (leafHash (s.receipt x)), status := (x.closed.getD (0, 0)).1, cls := x.cls,
    energy := sat64 x.energy, uncert := sat64 (uncertainty x.cls (sat64 x.energy)) }

/-- Build and sign the block that is due, unless its entries find no room in the backlog area. -/
def State.buildBlock (s : State) (d : MeterSums) (last endTime : Nat) : State :=
  let recs := s.meter.receiptsBy last
  let eOpen := s.meter.eOpen + d.eReq - (recs.map (fun x => x.energy)).sum
  let leaves := s.leaves d last eOpen
  let root := leNat (treeHash treeLevels (leaves.map (fun l => leafHash l.body)))
  let head := s.blockHeader d last endTime leaves.length root
  let body := head ++ Crypto.sign 0 head ++ Crypto.hss 0 s.meter.hssQ head
  let entries := (List.range 9).map (s.blockEntries body leaves)
  let add := (entries.map (fun l => (l.map RingEntry.size).sum)).sum
  let late := s.meter.groupLeaves.filter (fun g => g.1 ≤ last)
  if 2 ^ 28 < s.meter.backlogBytes + add then
    let s := { s with meter := { s.meter with blocked := true } }
    if bitOf s.dict.alarmActive 12 then s else s.alarm 12 0 true
  else
    let n := s.meter.block
    let notes := recs.filterMap (fun x => if bitOf x.reqid 63 then some (s.noteFor n x, x.part) else none)
    let q := s.meter.hssQ + 1
    let m := { s.meter with
      idx := s.meter.idx.filter (fun x => !x.2.dueBy last), eOpen := eOpen, block := n + 1,
      due := if s.meter.blocked then [] else s.meter.due.drop 1, blocked := false, prev := Crypto.sha256 head,
      groupLeaves := late.drop (s.groupRoom d last) ++ s.meter.groupLeaves.filter (fun g => last < g.1), hssQ := q,
      hssPending := s.meter.hssPending || s.meter.hssEnd - q = 256,
      backlog := (s.meter.backlog.zip entries).map (fun b => b.1 ++ b.2) }
    let s := (({ s with meter := m }).setReg Reg.mtrBlock n).alarmOff 12
    let s := if 2 ^ 40 - q < 2 ^ 20 && !bitOf s.dict.alarmActive 9 then s.alarm 9 (2 ^ 40 - q) true else s
    notes.foldl (fun s x => s.newNote x.1 x.2) s

/-- The frames the next block covers, with the last frame and the device time of its end: the oldest hundred, or every frame
not yet covered once a block has been held (R296, R303). -/
def Meter.nextSpan (m : Meter) : Option (MeterSums × Nat × Nat) :=
  match m.due with
  | [] => none
  | d :: rest => some (if m.blocked then rest.foldl (fun a b => (a.1.join b.1, b.2)) d else d)

/-- LEDGER_BLOCK: a hundred frames have ended; with no HSS index available the block is held (R301). -/
def State.ledgerBlock (s : State) : State :=
  match s.meter.nextSpan with
  | some (d, last, endTime) =>
    if s.boot.off then s
    else if s.meter.hssReady then s.buildBlock d last endTime
    else { s with meter := { s.meter with blocked := true } }
  | none => s

/-! ### The HSS reservations (R301, R382) -/

/-- Write the reservations that are due, of the metering and of the identity key: the next 1,024 indices, or an alarm and a
retry. One write serves both (DESIGN CHOICE, log 56). -/
def State.reserve (s : State) (ok : Bool) : State :=
  let m := s.meter
  if ok then
    State.alarmOff { s with meter := { m with
      hssEnd := m.hssEnd + (if m.hssPending then 1024 else 0), identEnd := m.identEnd + (if m.identPending then 1024 else 0),
      hssPending := false, identPending := false, hssFailed := false } } 8
  else State.alarm { s with meter := { m with hssFailed := true } } 8 0 true

/-- Whether a reservation is due. -/
def Meter.reserving (m : Meter) : Bool := m.hssPending || m.identPending

/-! ### Delivery (R302, R303) -/

/-- HEAD and TAIL of a ring. -/
def ringHead (r : Nat) : Nat := if r < 8 then Reg.mtrRingHead r else Reg.mtrHostHead
def ringTail (r : Nat) : Nat := if r < 8 then Reg.mtrRingTail r else Reg.mtrHostTail

/-- The bytes of a ring entry whose count is `n`. -/
def State.entryBytes (s : State) (r n : Nat) (e : RingEntry) : List Byte :=
  layout 32 [(0, 1, e.kind), (1, 1, 1 - n / 2 ^ s.ringLog r % 2), (2, 1, e.path.length), (4, 4, e.leaf),
    (8, 8, e.block), (16, 4, s.meter.boot), (20, 2, e.body.length)] ++ e.body ++ (e.path.map (exactly 32)).flatten

/-- Write bytes of an entry: through the partition's page map in the ring's context, or to a PCIe address; the marshal
writes as the Starter's agent does. -/
def State.ringPut (s : State) (r va : Nat) (bytes : List Byte) : State ⊕ Nat :=
  if r < 8 then s.writePart 20 r (s.entry (0x6100 + r) 3) va bytes else .inl (s.hostPut va bytes)

/-- The first waiting entry goes into its ring: bytes 16 onward, then bytes 0 to 15; after a block's last entry the
ring's vector is raised. A failure disables the ring. -/
def State.ringWrite (s : State) (r : Nat) (e : RingEntry) (rest : List RingEntry) : State :=
  let n := s.reg (ringHead r)
  let va := s.ringBase r + 4096 * (n % 2 ^ s.ringLog r)
  let bytes := s.entryBytes r n e
  let wrote := match s.ringPut r (va + 16) (bytes.drop 16) with
    | .inl t => t.ringPut r va (bytes.take 16)
    | .inr x => .inr x
  match wrote with
  | .inl t =>
    let t := t.setReg (ringHead r) ((n + 1) % 2 ^ 32)
    let t := { t with meter := { t.meter with backlog := setNth t.meter.backlog r rest } }
    let done := match rest with | f :: _ => f.block != e.block | [] => true
    if r < 8 && done then t.raise (t.fnOf r) (t.entry (0x6100 + r) 4) else t
  | .inr reason =>
    let t := { s with meter := { s.meter with ringOn := setFld s.meter.ringOn r 1 0, ringFault := setFld s.meter.ringFault r 1 1 } }
    t.partRec r 0x14 [va, reason]

/-- An entry waits and its ring is on and has room: it goes in. -/
def State.ringStep (s : State) (ring : Nat) : State :=
  let room := (s.reg (ringHead ring) + 2 ^ 32 - s.reg (ringTail ring)) % 2 ^ 32 < 2 ^ s.ringLog ring
  let on := ring = 8 || bitOf s.meter.ringOn ring
  match nth [] s.meter.backlog ring with
  | e :: rest => if !s.boot.off && on && room && s.ringBase ring != 0 && (ring = 8 || s.alive) then s.ringWrite ring e rest else s
  | [] => s

/-- What a write of MTR_RING_CMD does: 1 enables the ring and clears RING_FAULT. -/
def State.ringCmd (s : State) (p value : Nat) : State :=
  if bitOf value 0 then
    { s with meter := { s.meter with ringOn := setFld s.meter.ringOn p 1 1, ringFault := setFld s.meter.ringFault p 1 0 } }
  else s

/-- MTR_RING_CMD. -/
def execMtrRingCmd (fn p value : Nat) (s : State) : Res := s.byOwner fn p (fun s => s.ringCmd p value)

end Sys2Proof.Machine
end

