-- ==== Sys2Proof/Machine/Links.lean ====
section
/-! DEFINITION. Cartal ports: training, the link layer, authentication, discovery and quarantine
(13_cartal_links.md: R314 to R326, R334, R341 to R343, R347). -/

namespace Sys2Proof.Machine

/-! ### Ports that come and go (R315, R320, R343) -/

/-- The bytes of a beacon (R324). -/
def beaconBytes (b : BeaconMsg) : List Byte :=
  layout 56 [(0, 1, 1), (1, 1, 1), (2, 1, b.port), (3, 1, b.variant), (4, 4, b.units), (8, 4, b.groupId), (12, 4, b.boot),
    (16, 16, b.serial), (32, 16, b.root), (48, 1, b.coord % 64 + 2 ^ 6 * bit b.settled + 2 ^ 7 * bit b.valid),
    (49, 1, bit b.anchor), (50, 2, b.links)] ++ exactly 48 b.nonce ++ exactly 97 b.eph ++
    layout 7 [(3, 2, b.cert.length)] ++ b.cert

/-- A port's beacon, with the nonce and the ephemeral key of its link (R324). -/
def State.beaconOf (s : State) (k : Nat) : BeaconMsg :=
  { port := k, variant := s.units.variant, units := s.optionalUnits, groupId := s.entry 0x5000 1, boot := s.meter.boot,
    serial := Config.serial.toNat, root := s.links.root, coord := if s.links.valid then s.links.coord % 64 else 0,
    settled := s.links.settled, valid := s.links.valid, anchor := s.pcie.link, links := s.linksUp,
    nonce := (s.port k).nonce, eph := Crypto.pubOf (s.port k).priv, cert := s.identCert, certOk := true }

/-- Send a beacon on a port: CTL flits without the header of R327, which has no KIND for them (DEDUCED, log 81). -/
def State.sendBeacon (s : State) (k : Nat) : State :=
  let b := beaconBytes (s.beaconOf k)
  let s := s.queueFlits moduleIndex k 0 8 64 0 b
  let x := s.port k
  s.setPort k { x with lastBeacon := s.time, sentBeacon := if x.sentBeacon.isEmpty then b else x.sentBeacon }

/-- Draw the nonce and the ephemeral key of a link that has trained; its beacons carry them (DEDUCED, log 81). -/
def State.drawKeys (s : State) (k : Nat) : State :=
  (s.setPort k { s.port k with nonce := exactly 48 (Config.nonce s.nextId), sentBeacon := [], seenBeacon := [],
                               priv := Crypto.privOf (Config.ephemeral s.nextId).toNat }).useId

/-- Ports that exchange beacons. -/
def State.beaconing (s : State) (k : Nat) : Bool :=
  let st := (s.port k).st
  !s.boot.off && (st = PortSt.auth || st = PortSt.up || st = PortSt.miswired)

/-- Alarms DISCOVERY, QUARANTINE and FLOOD hold while some port is MISWIRED, quarantined or flooded (R368). -/
def State.portAlarms (s : State) : State :=
  let none' (p : Port → Bool) : Bool := (List.range 16).all (fun k => !p (s.port k))
  let off (c : Nat) (b : Bool) (s : State) : State := if b then s.alarmOff c else s
  off 3 (none' (fun x => x.st = PortSt.miswired)) (off 5 (none' (fun x => x.st = PortSt.quarantined))
    (off 6 (none' (fun x => x.floodSince.isSome)) s))

/-- Messages that have waited for a route to their destination go where one has appeared (R320). -/
def State.sendWaitingMsgs (s : State) : State :=
  let l := s.links.sent.filter (fun m => m.unsent && (s.route m.dst).isSome)
  let sent := s.links.sent.map (fun m => if m.unsent && (s.route m.dst).isSome then { m with unsent := false } else m)
  l.foldl (fun s m => s.transmit m) { s with links := { s.links with sent := sent } }

/-- Follow a change of a port's state: routes, alarms, topology entries, messages that waited for a route, and a beacon on
every port where LINKS changed. -/
def State.topology (s before : State) : State :=
  let s := ((s.relink before).portAlarms).sendWaitingMsgs
  if s.linksUp = before.linksUp then s
  else ((List.range 16).filter s.beaconing).foldl (fun s k => s.sendBeacon k) s

/-- A port leaves its link: unacknowledged and queued flits are discarded, credits are full again (R343). -/
def State.linkDown (s : State) (k st : Nat) : State :=
  let x := s.port k
  (s.setPort k { x with st := st, since := s.time, step := 1, peer := none, finished := false, nonce := [], priv := 0,
                        sentBeacon := [], seenBeacon := [], txSeq := 0, rxSeq := 0xFFFF, replay := [], nakDue := false,
                        lastAck := s.time, credits := State.creditsAtReset, freed := List.replicate 8 0, transit := [],
                        held := [], queue := [], served := [], txKey := [], rxKey := [], keyFlits := 0,
                        floodSince := none, msgs := 0 }).topology s

/-- Times of a list that lie within the last `w` ns, and now. -/
def State.recent (s : State) (w : Nat) (l : List Nat) : List Nat := l.filter (fun t => s.since t < w) ++ [s.time]

/-- Serial of a port's peer, 0 where it has sent no beacon. -/
def State.peerSerial (s : State) (k : Nat) : Nat :=
  match (s.port k).peer with | some b => b.serial | none => 0

/-- Quarantine a port: DOWN for QUAR_TIME, doubled for each further quarantine of the same serial, at most an hour
(R342). -/
def State.quarantine (s : State) (k : Nat) : State :=
  let x := s.port k
  let serial := s.peerSerial k
  let n := if serial = x.quarSerial then x.quars + 1 else 1
  let secs := min 3600 (s.entry 0x5000 9 * 2 ^ (n - 1))
  let s := s.linkDown k PortSt.quarantined
  (s.setPort k { s.port k with quars := n, quarSerial := serial, quarLen := secs * 1000000000, badAuth := 0, attempts := 0,
                               tagFails := [], malformed := [], downs := [] }).alarm 5 k true

/-- A port retrains: from step 3 at once, or DOWN at the third time within 1 s, quarantined when that happens twice
within 60 s (R315, R318, R341). -/
def State.retrainPort (s : State) (k : Nat) : State :=
  let s := s.count (Reg.lnkRetrain k) 1
  let x := s.port k
  let l := s.recent 1000000000 x.retrains
  if l.length < 3 then
    let s := (s.setPort k { x with retrains := l }).linkDown k PortSt.training
    s.setPort k { s.port k with step := 3 }
  else
    let d := s.recent 60000000000 x.downs
    let s := s.setPort k { x with retrains := [], downs := d }
    if 2 ≤ d.length then s.quarantine k else s.linkDown k PortSt.down

/-! ### Training (R315) -/

/-- Whether a port may train: present, enabled, mated, its reference clock running, neither quarantined nor disabled
nor in the wait after three failed attempts. -/
def State.mayTrain (s : State) (k : Nat) : Bool :=
  let x := s.port k
  s.portOn k && bitOf (s.entry 0x5000 3) k && x.mated && s.boot.lkClk && !s.boot.off &&
  (x.st = PortSt.training || (x.st = PortSt.down && x.attempts < 3))

/-- A failed attempt; after three in a row the port waits DOWN. -/
def State.trainFail (s : State) (k : Nat) : State :=
  let x := s.port k
  let n := x.attempts + 1
  s.setPort k { x with attempts := n, st := if n < 3 then PortSt.training else PortSt.down, since := s.time, step := 1 }

/-- Whether a step is one of the port's attempt: a retrain begins at step 3. -/
def State.inAttempt (s : State) (k step : Nat) : Bool := (s.port k).step ≤ step && step ≤ 5

/-- LINK_TRAINING: an attempt succeeds with the stronger FEC mode of both ends (R317), and beacons follow (R322), or
fails. -/
def execLinkTraining (port : Nat) (result : TrainResult) (s : State) : Res :=
  onUnit (port < s.nPorts) <| guarded (s.mayTrain port) s <|
    match result with
    | .done fec =>
      ((s.setPort port { s.port port with st := PortSt.auth, since := s.time, attempts := 0, step := 1,
                                          fec := max (fec % 4) (s.entry 0x5000 2) }).drawKeys port).sendBeacon port
    | .failed step => if s.inAttempt port step then s.trainFail port else s

/-- Limits of the training steps in ns. -/
def trainLimit : Nat → Nat
  | 1 => 5000000 | 2 => 1000000 | 3 => 50000000 | 4 => 10000000 | _ => 1000000

/-- TRAINING_STEP_TIMEOUT. -/
def execTrainingStepTimeout (port step dt : Nat) (s : State) : Res :=
  let t := s.tick dt
  onUnit (port < s.nPorts) <|
    guarded (t.inAttempt port step && trainLimit step ≤ dt && t.mayTrain port) t (t.trainFail port)

/-- TRAINING_BACKOFF_END: 1 s after the third failed attempt. -/
def execTrainingBackoffEnd (port dt : Nat) (s : State) : Res := powered s <|
  let t := s.tick dt
  let x := t.port port
  onUnit (port < s.nPorts) <|
    guarded (x.st = PortSt.down && 3 ≤ x.attempts && 1000000000 ≤ t.since x.since) t
      (t.setPort port { x with attempts := 0, st := PortSt.training, since := t.time })

/-- LANE_LOCK_LOSS: a lane of a trained port loses lock. -/
def execLaneLockLoss (port : Nat) (s : State) : Res :=
  onUnit (port < s.nPorts) <| guarded (s.beaconing port) s (s.retrainPort port)

/-! ### Sending flits (R316, R318, R319, R323, R334) -/

/-- Class of a flit: VC × 2 + HOP. -/
def flitClass (head : Nat) : Nat := fld head 33 2 * 2 + fld head 35 1

/-- The first queued flit that holds for `p` and has a credit: its place and itself. -/
def Port.firstReady (x : Port) (p : QFlit → Bool) : Option (Nat × QFlit) :=
  let fits (f : QFlit) : Bool := nth 0 x.credits (flitClass f.head.toNat) != 0
  let firstOf (hop : Nat) : Option (Nat × QFlit) :=
    (x.queue.zipIdx.find? (fun f => p f.1 && fld f.1.head.toNat 35 1 = hop)).bind (fun f =>
      if fits f.1 then some (f.2, f.1) else none)
  match firstOf 0, firstOf 1 with
  | some a, some b => if a.1 < b.1 then some a else some b
  | some a, none => some a
  | none, b => b

/-- The next flit of a port: ACK, CTL, RED, then MSG by weighted round robin over the partitions and the transit
traffic; the round's counts after the choice (R334). -/
def Port.pick (x : Port) (weight : Nat → Nat) : Option (Nat × QFlit × List Nat) :=
  let vc (v : Nat) : Option (Nat × QFlit) := x.firstReady (fun f => f.vc = v)
  match (vc 3).orElse (fun _ => (vc 0).orElse (fun _ => vc 2)) with
  | some f => some (f.1, f.2, x.served)
  | none =>
    let served (l : List Nat) (g : Nat) : Nat := nth 0 l g
    let ready := (List.range 9).filterMap (fun g => (x.firstReady (fun f => f.vc = 1 && f.share = g)).map (fun f => (g, f)))
    let choose (l : List Nat) : Option (Nat × QFlit × List Nat) :=
      (ready.find? (fun r => served l r.1 < weight r.1)).map (fun r =>
        (r.2.1, r.2.2, (List.range 9).map (fun g => served l g + (if g = r.1 then 1 else 0))))
    (choose x.served).orElse (fun _ => choose [])

/-- Weight of a participant: LINK_SHARE of a partition, 64 for transit. -/
def State.linkWeight (s : State) (g : Nat) : Nat := if g < 8 then s.entry (0x4100 + g) 0x12 else 64

/-- Fields a flit takes as it leaves: SEQ, ACK, NAK, and the credits of one class with freed buffers. -/
def Port.linkFields (x : Port) (seq : Nat) : Nat × List Nat :=
  let c := ((List.range 8).find? (fun c => nth 0 x.freed c != 0)).getD 0
  let n := min 255 (nth 0 x.freed c)
  (seq + 2 ^ 16 * x.rxSeq + 2 ^ 32 * bit x.nakDue + 2 ^ 37 * c + 2 ^ 40 * n, setNth x.freed c (nth 0 x.freed c - n))

/-- Payload and tag of a flit: under the session keys, with the salt and the count of flits as nonce; in clear with tag 0
before they exist (R316, R323). -/
def Port.seal (x : Port) (head : Nat) (payload : List Byte) : List Byte :=
  if x.st = PortSt.auth then payload ++ List.replicate 8 0#8
  else
    let r := Crypto.gcm (x.txKey.take 32) (x.txKey.drop 32 ++ leBytes 8 x.keyFlits) (leBytes 8 head) payload
    r.1 ++ r.2.take 8

/-- The 256 bytes of a flit a port sends: header, payload and tag, CRC over bytes 0 to 247 (R316). -/
def Port.flitBytes (x : Port) (head : Nat) (payload : List Byte) : List Byte :=
  let b := leBytes 8 head ++ x.seal head payload
  b ++ leBytes 8 (Crypto.crc64 b)

/-- Send a flit or, with nothing to send, an idle flit; a flit's bytes stay in the replay buffer. -/
def State.sendFlit (s : State) (k : Nat) : State :=
  let x := s.port k
  match (if x.replay.length < 256 then x.pick s.linkWeight else none) with
  | some (i, f, served) =>
    let r := x.linkFields x.txSeq
    let b := x.flitBytes (f.head.toNat + r.1) f.payload
    let c := flitClass f.head.toNat
    let x' := { x with queue := x.queue.eraseIdx i, served := served, freed := r.2, nakDue := false,
                       txSeq := (x.txSeq + 1) % 2 ^ 16, replay := x.replay ++ [{ seq := x.txSeq, bytes := b, resends := 0 }],
                       lastAck := if x.replay.isEmpty then s.time else x.lastAck,
                       credits := setNth x.credits c (nth 0 x.credits c - 1), keyFlits := x.keyFlits + 1 }
    ((s.setPort k x').count (Reg.lnkTxFlits k) 1).emit (.flit k b)
  | none =>
    let r := x.linkFields ((x.txSeq + 2 ^ 16 - 1) % 2 ^ 16)
    (s.setPort k { x with freed := r.2, nakDue := false, keyFlits := x.keyFlits + 1 }).emit
      (.flit k (x.flitBytes (2 ^ 36 + r.1) (List.replicate 232 0#8)))

/-- Whether a second-hop buffer of an output port is free for a virtual channel (R319). -/
def State.hopRoom (s : State) (j vc : Nat) : Bool :=
  ((s.port j).queue.filter (fun f => f.vc = vc && bitOf f.head.toNat 35)).length < nth 0 State.creditsAtReset (2 * vc + 1)

/-- First-hop flits a port holds move to second-hop buffers of their output ports as far as these have room, in order by output
port and channel; each frees its buffer, one whose output port is not UP without going on (R319, R320). -/
def State.moveHeld (s : State) (k : Nat) : State :=
  let x := s.port k
  let free (s : State) (vc : Nat) : State :=
    let y := s.port k
    s.setPort k { y with freed := setNth y.freed (2 * vc) (nth 0 y.freed (2 * vc) + 1) }
  let r := x.held.foldl (fun (r : State × List (Nat × QFlit)) f =>
    let j := f.1
    let vc := f.2.vc
    if !r.1.portUp j then (free r.1 vc, r.2)
    else if r.1.hopRoom j vc && !r.2.any (fun g => g.1 = j && g.2.vc = vc) then
      let y := r.1.port j
      (free (r.1.setPort j { y with queue := y.queue ++ [f.2] }) vc, r.2)
    else (r.1, r.2 ++ [f])) (s, [])
  r.1.setPort k { r.1.port k with held := r.2 }

/-- Every port's held flits move on as far as they can. -/
def State.moveAll (s : State) : State :=
  ((List.range 16).filter (fun k => !(s.port k).held.isEmpty)).foldl (fun s k => s.moveHeld k) s

/-- FLIT_SEND: a trained port sends its next flit; host writes that wait become messages first (R339). -/
def execFlitSend (port : Nat) (s : State) : Res :=
  onUnit (port < s.nPorts) <| guarded (s.beaconing port) s ((s.flushHost.sendFlit port).moveAll)

/-- Resend every unacknowledged flit, the identical bytes; the eighth resend of one retrains the port (R318). -/
def State.resendFlits (s : State) (k : Nat) : State :=
  let x := s.port k
  if x.replay.isEmpty then s
  else
    let kept := x.replay.map (fun f => { f with resends := f.resends + 1 })
    let s := (s.setPort k { x with replay := kept, lastAck := s.time }).count (Reg.lnkReplay k) x.replay.length
    let s := x.replay.foldl (fun s f => s.emit (.flit k f.bytes)) s
    if kept.any (fun f => 8 ≤ f.resends) then s.retrainPort k else s

/-- REPLAY_TIMEOUT: no ACK for 2 µs. -/
def execReplayTimeout (port dt : Nat) (s : State) : Res :=
  let t := s.tick dt
  onUnit (port < s.nPorts) <|
    guarded (t.beaconing port && !(t.port port).replay.isEmpty && 2000 ≤ t.since (t.port port).lastAck) t (t.resendFlits port)

/-! ### Receiving flits (R316, R318 to R320) -/

/-- ACK, NAK and credits of an accepted flit. -/
def State.linkReturns (s : State) (k head : Nat) : State :=
  let x := s.port k
  let ack := fld head 16 16
  let rest := if x.replay.any (fun f => f.seq = ack) then (x.replay.dropWhile (fun f => f.seq != ack)).drop 1 else x.replay
  let c := fld head 37 3
  let cr := min (nth 0 State.creditsAtReset c) (nth 0 x.credits c + fld head 40 8)
  let moved := rest.length < x.replay.length
  let s := s.setPort k { x with replay := rest, credits := setNth x.credits c cr,
                                lastAck := if moved then s.time else x.lastAck }
  if bitOf head 32 then s.resendFlits k else s

/-- A discarded flit is answered with NAK. -/
def State.discardFlit (s : State) (k : Nat) : State := s.setPort k { s.port k with nakDue := true }

/-- The destination the first flit of a message names: that of its header (R327), or of an acknowledgement or CTL message; a
beacon goes to the end of the link. -/
def firstDst (vc : Nat) (payload : List Byte) : Nat :=
  if vc = 1 || vc = 2 then ((payload.drop 2).headD 0#8).toNat
  else if vc = 0 && payload.take 2 = [0x01#8, 0x01#8] then 64
  else Config.flitDst payload

/-- The output port of a first-hop flit in transit: found from the destination in a message's first flit, kept for the
rest of it. -/
def State.transitPort (s : State) (k : Nat) (head : Nat) (payload : List Byte) : Option Nat :=
  let x := s.port k
  if fld head 35 1 = 1 || x.st ≠ PortSt.up then none
  else if bitOf head 48 then
    let dst := firstDst (fld head 33 2) payload
    if dst = s.links.coord || 64 ≤ dst then none else s.portTo dst
  else x.transit.look (flitClass head)

/-- An accepted sequenced flit: it waits for a second-hop buffer of its output port, or sinks here, which frees its
buffer. -/
def State.takeFlit (s : State) (k head : Nat) (payload : List Byte) : State :=
  let x := s.port k
  let c := flitClass head
  let out := s.transitPort k head payload
  let transit := match out with
    | some j => if bitOf head 49 then x.transit.del c else Tab.put x.transit c j
    | none => x.transit.del c
  let x := { x with rxSeq := fld head 0 16, transit := transit }
  match out with
  | some j =>
    let s := (s.tally moduleIndex Site.flitsIn 0 1).tally moduleIndex Site.flitsOut 0 1
    let vc := fld head 33 2
    let h := flitHead vc true (bitOf head 48) (bitOf head 49) (bitOf head 50)
    let f : QFlit := { vc := vc, share := 8, dst := 64, seq := 0, head := BitVec.ofNat 64 h, payload := payload }
    s.setPort k { x with held := x.held ++ [(j, f)] }
  | none => s.setPort k { x with freed := setNth x.freed c (nth 0 x.freed c + 1) }

/-- Buffers of a class that are taken, or freed and not yet reported: a further flit of the class has come without credit when
these are all. -/
def Port.taken (x : Port) (c : Nat) : Nat :=
  nth 0 x.freed c + (x.held.filter (fun f => 2 * f.2.vc = c)).length

/-- A flit is accepted or discarded with NAK; a credit overrun or 16 tag failures in 1 s quarantine the port. Before the session
keys exist no tag is checked, and until a link is UP only CTL flits are taken (R316, R318, R326, R341). -/
def State.flitReceive (s : State) (k : Nat) (f : FlitIn) : State :=
  let head := f.header.toNat
  let x := s.port k
  let s := if f.corrected && x.fec ≠ 0 then s.count (Reg.lnkFecCorr k) 1 else s
  if !f.crcOk then (s.count (Reg.lnkCrcErr k) 1).discardFlit k
  else if x.st ≠ PortSt.up && !bitOf head 36 && fld head 33 2 ≠ 0 then s.discardFlit k
  else if !f.tagOk && x.st ≠ PortSt.auth then
    let l := s.recent 1000000000 x.tagFails
    let s := (s.count (Reg.lnkTagfail k) 1).setPort k { x with tagFails := l }
    if 16 ≤ l.length then s.quarantine k else s.discardFlit k
  else if bitOf head 36 then s.linkReturns k head
  else if fld head 0 16 ≠ (x.rxSeq + 1) % 2 ^ 16 then s.discardFlit k
  else if nth 0 State.creditsAtReset (flitClass head) ≤ x.taken (flitClass head) then
    (s.count (Reg.lnkCreditViol k) 1).quarantine k
  else ((s.takeFlit k head f.payload).count (Reg.lnkRxFlits k) 1).linkReturns k head

/-- FLIT_RECEIVE. -/
def execFlitReceive (port : Nat) (flit : FlitIn) (s : State) : Res :=
  onUnit (port < s.nPorts) <| guarded (s.beaconing port) s ((s.flitReceive port flit).moveAll)

/-! ### Discovery (R8, R324 to R326) -/

/-- Whether a serial is in DENY (R322). -/
def State.denied (s : State) (serial : Nat) : Bool :=
  serial != 0 && (List.range 16).any (fun i => fld (s.entry 0x5000 7) (128 * i) 128 = serial)

/-- UP peers with their beacons, by port. -/
def State.peers (s : State) : List (Nat × BeaconMsg) :=
  (List.range 16).filterMap (fun k => if s.portUp k then (s.port k).peer.map (fun b => (k, b)) else none)

/-- The peers that take part in discovery: those on ports with an offset, not on spares (R314, R325). -/
def State.seatPeers (s : State) : List (Nat × BeaconMsg) := s.peers.filter (fun p => (s.offset p.1).isSome)

/-- The lowest of a list of serials. -/
def lowest : List Nat → Option Nat
  | [] => none
  | a :: l => match lowest l with | some b => some (min a b) | none => some a

/-- The root a module that is not settled chooses. -/
def State.chooseRoot (s : State) : Nat :=
  let ps := s.seatPeers.map Prod.snd
  match lowest ((ps.filter (fun b => b.settled)).map (fun b => b.root)) with
  | some r => r
  | none => (lowest (Config.serial.toNat :: ps.flatMap (fun b => b.serial :: (if b.root = 0 then [] else [b.root])))).getD 0

/-- Form the coordinates from the UP peers' beacons, unless settled. -/
def State.discover (s : State) : State :=
  if s.links.settled then s
  else
    let root := s.chooseRoot
    let from' := (s.seatPeers.filter (fun p => p.2.root = root && p.2.valid)).findSome? (fun p =>
      (s.offset p.1).map (fun o => p.2.coord % 64 ^^^ o))
    let coord := if root = Config.serial.toNat then some 0 else from'
    let l := { s.links with root := root }
    let l := match coord with
      | some c => { l with coord := c, valid := true, coordSince := if l.valid && l.coord = c then l.coordSince else s.time }
      | none => l
    { s with links := l }.topology s

/-- Whether the link of a port breaks a rule of the group (R326). -/
def State.breaksGroup (s : State) (k : Nat) : Bool :=
  match (s.port k).peer with
  | none => false
  | some b =>
    let roots := (if s.links.settled then [s.links.root] else []) ++
      ((s.peers.map Prod.snd).filter (fun b => b.settled)).map (fun b => b.root)
    let clash := s.peers.any (fun p => p.2.settled && b.settled && p.2.coord % 64 = b.coord % 64 && p.2.serial < b.serial)
    let own := s.links.settled && b.settled && b.coord % 64 = s.links.coord && Config.serial.toNat < b.serial
    let off := match s.offset k with
      | some o => s.links.settled && b.settled && b.valid && b.coord % 64 ≠ s.links.coord ^^^ o
      | none => false
    off || clash || own || (b.settled && roots.any (fun r => r < b.root))

/-- A MISWIRED link carries no traffic. -/
def State.miswire (s : State) (k : Nat) : State :=
  ((s.setPort k { s.port k with st := PortSt.miswired, queue := [], since := s.time }).topology s).alarm 3 k true

/-- Take every UP link that breaks a rule out of use. -/
def State.judgeGroup (s : State) : State :=
  ((List.range 16).filter (fun k => s.portUp k && s.breaksGroup k)).foldl (fun s k => s.miswire k) s

/-- A refusal or a failed check of authentication: the port goes DOWN, quarantined at the third in a row (R322, R341). -/
def State.authFail (s : State) (k : Nat) : State :=
  let s := s.alarm 4 k false
  let n := (s.port k).badAuth + 1
  if 3 ≤ n then s.quarantine k
  else
    let s := s.linkDown k PortSt.down
    s.setPort k { s.port k with badAuth := n }

/-- Whether a peer's variant may join this module's group (R8). -/
def State.variantOk (s : State) (b : BeaconMsg) : Bool :=
  (b.variant = 3) = s.oneDie && 1 ≤ b.variant && b.variant ≤ 3

/-- The two first beacons of a link, that of the lower serial first (R322). -/
def Port.beacons (x : Port) : List Byte :=
  if Config.serial.toNat < (match x.peer with | some b => b.serial | none => 0) then x.sentBeacon ++ x.seenBeacon
  else x.seenBeacon ++ x.sentBeacon

/-- Key and salt of the sending and of the receiving direction, from the ECDH secret of the two ephemeral keys and the beacons'
hash; none where the peer's key is no point of the curve (R323). -/
def Port.derive (x : Port) (eph : List Byte) : Option (List Byte × List Byte) :=
  (Crypto.ecdh x.priv (exactly 97 eph)).map (fun z =>
    let okm := Crypto.sha3.hkdf z (Crypto.sha384 x.beacons) 72
    let low := decide (Config.serial.toNat < (match x.peer with | some b => b.serial | none => 0))
    let first := (okm.take 36, okm.drop 36)
    if low = Config.lowFirst then first else (first.2, first.1))

/-- A received beacon. The first of a link in AUTH is checked, its certificate before anything else, and answered with FINISH:
the identity key's signature over the SHA-384 of the two beacons, a CTL message (R322). -/
def State.beaconIn (s : State) (k : Nat) (b : BeaconMsg) : State :=
  let x := s.port k
  if x.st = PortSt.auth then
    if !x.seenBeacon.isEmpty then s.setPort k { x with peer := some b } else
    let s := s.setPort k { x with peer := some b, seenBeacon := beaconBytes b }
    if !s.variantOk b then (s.linkDown k PortSt.down).alarm 2 k true
    else
      let s := if (Tab.get AlarmRec.init s.dict.alarms 2).detail = k then s.alarmOff 2 else s
      if !b.certOk || s.denied b.serial || b.groupId ≠ s.entry 0x5000 1 then s.authFail k
      else (s.setPort k { s.port k with finished := true }).queueFlits moduleIndex k 0 8 64 0
        (exactly 232 (Config.ctlFlit 64 (Crypto.sign 1 (s.port k).beacons)))
  else
    let s' := s.setPort k { x with peer := some b }
    (((s'.topology s).discover).judgeGroup).oneUpdate s

/-- BEACON. -/
def execBeacon (port : Nat) (beacon : BeaconMsg) (s : State) : Res :=
  onUnit (port < s.nPorts) <| guarded (s.beaconing port) s (s.beaconIn port beacon)

/-- BEACON_SEND: every 1 ms until the module is settled, every 100 ms after. -/
def execBeaconSend (port dt : Nat) (s : State) : Res :=
  let t := s.tick dt
  let gap := if t.links.settled then 100000000 else 1000000
  onUnit (port < s.nPorts) <|
    guarded (t.beaconing port && gap ≤ t.since (t.port port).lastBeacon) t (t.sendBeacon port)

/-- Whether a peer's FINISH verifies under the EC_PUB of its certificate (R322, R381). -/
def Port.finishOk (x : Port) (sig : List Byte) : Bool :=
  match x.peer with
  | some b => Crypto.ecdsaOk ((b.cert.drop 24).take 97) (Crypto.sha384 x.beacons) sig
  | none => false

/-- The session keys a peer's FINISH opens, none where it does not verify or they cannot be derived. -/
def Port.sessionKeys (x : Port) (sig : List Byte) : Option (List Byte × List Byte) :=
  if x.finishOk sig then x.peer.bind (fun b => x.derive b.eph) else none

/-- FINISH: the peer's signature, r and s, verifies and the port is UP under fresh keys, or the port goes DOWN (R322, R323). -/
def execFinish (port : Nat) (sigR sigS : List Byte) (s : State) : Res := powered s <|
  let x := s.port port
  onUnit (port < s.nPorts) <| guarded (x.st = PortSt.auth && x.finished) s <|
    match x.sessionKeys (sigR ++ sigS) with
    | some k =>
      let t := s.setPort port { x with st := PortSt.up, since := s.time, badAuth := 0, keys := x.keys + 1, keyFlits := 0,
                                       keyTime := s.time, lastAck := s.time, txKey := k.1, rxKey := k.2 }
      (((t.topology s).discover).judgeGroup).oneUpdate s
    | none => s.authFail port

/-- AUTH_TIMEOUT: the exchange has not completed within 100 ms of step 5. -/
def execAuthTimeout (port dt : Nat) (s : State) : Res := powered s <|
  let t := s.tick dt
  onUnit (port < s.nPorts) <|
    guarded ((t.port port).st = PortSt.auth && 100000000 ≤ t.since (t.port port).since) t (t.authFail port)

/-- REKEY: fresh keys after 2^40 flits or 24 hours, from a fresh ECDH exchange with the peer's ephemeral key, from the SEQ both
ends agree; a key that is no point of the curve changes nothing (R323). -/
def execRekey (port : Nat) (msg : RekeyMsg) (s : State) : Res :=
  let x := s.port port
  let y := { x with priv := Crypto.privOf (Config.ephemeral s.nextId).toNat }
  onUnit (port < s.nPorts) <|
    guarded (s.portUp port && (2 ^ 40 ≤ x.keyFlits || 86400000000000 ≤ s.since x.keyTime) && msg.seq % 2 ^ 16 = x.txSeq) s
      (match y.derive msg.eph with
       | some k => (s.setPort port { y with keys := x.keys + 1, keyFlits := 0, keyTime := s.time, txKey := k.1,
                                            rxKey := k.2 }).useId
       | none => s)

/-- DISCOVERY_SETTLE: coordinates unchanged for DISC_SETTLE, and every valid peer names the root (R325). -/
def execDiscoverySettle (dt : Nat) (s : State) : Res := powered s <|
  let t := s.tick dt
  let l := t.links
  let agree := (t.seatPeers.filter (fun p => p.2.valid)).all (fun p => p.2.root = l.root)
  guarded (!l.settled && l.valid && t.entry 0x5000 0x0A * 1000000 ≤ t.since l.coordSince && agree) t
    ((({ t with links := { l with settled := true } }.topology t).judgeGroup).oneUpdate t)

/-! ### Commands of LNK_CMD and quarantine (R342, R347) -/

/-- A write of LNK_CMD. -/
def State.lnkCmd (s : State) (k v : Nat) : State :=
  if v % 4 = 1 then (if s.beaconing k || (s.port k).st = PortSt.training then s.retrainPort k else s)
  else if v % 4 = 2 then s.setPort k { s.port k with quars := 0 }
  else s

/-- RETRAIN: LNK_CMD 0b01. -/
def execRetrain (fn port : Nat) (s : State) : Res :=
  onUnit (port < s.nPorts) <| s.byFn fn (fn = 0) (fun s => s.lnkCmd port 1)

/-- UNQUARANTINE: LNK_CMD 0b10. -/
def execUnquarantine (fn port : Nat) (s : State) : Res :=
  onUnit (port < s.nPorts) <| s.byFn fn (fn = 0) (fun s => s.lnkCmd port 2)

/-- QUARANTINE_END: the port may train again. -/
def execQuarantineEnd (port dt : Nat) (s : State) : Res := powered s <|
  let t := s.tick dt
  let x := t.port port
  onUnit (port < s.nPorts) <|
    guarded (x.st = PortSt.quarantined && x.quarLen ≤ t.since x.since) t
      ((t.setPort port { x with st := PortSt.down, since := t.time }).portAlarms)

/-- QUARANTINE_COUNT_CLEAR: UP for one hour. -/
def execQuarantineCountClear (port dt : Nat) (s : State) : Res := powered s <|
  let t := s.tick dt
  let x := t.port port
  onUnit (port < s.nPorts) <|
    guarded (t.portUp port && 3600000000000 ≤ t.since x.since) t (t.setPort port { x with quars := 0 })

end Sys2Proof.Machine
end

