-- ==== Sys2Proof/Machine/Messages.lean ====
section
/-! DEFINITION. Cartal messages at their destination and their sender, handles, and lost modules
(13_cartal_links.md: R320, R321, R327 to R333, R335, R336, R338, R339, R341, R343, R348; R269). -/

namespace Sys2Proof.Machine

/-! ### Handles (R329, R335, R348) -/

/-- Results of LNK_H_STATUS. -/
def HRes.ok := 0
def HRes.range := 1
def HRes.state := 2
def HRes.badArg := 3
def HRes.full := 4
def HRes.busyIgnored := 5

/-- A command on the handle LNK_H_SEL names; the status carries the handle's kind. -/
def State.handleCmd (s : State) (p : Nat) (f : State → Nat → State × Nat) : State :=
  let o := Reg.lnkHStatus p
  if !s.alive then s
  else s.command o (fun s => s.setRegFld o 1 3 HRes.busyIgnored) (fun s =>
    let n := s.reg (Reg.lnkHSel p)
    if s.inRange p .handle n then
      let r := f s n
      r.1.settle.setReg o (2 * r.2 + 2 ^ 4 * (r.1.handle n).kind)
    else s.setReg o (2 * HRes.range))

/-- The arguments of a handle command. -/
def State.handleArgs (s : State) (p : Nat) : List Nat := (List.range 4).map (fun i => s.reg (Reg.lnkHData p i))

/-- Whether DATA2 names no baton, or one the partition's messages may signal. -/
def State.handleBatonOk (s : State) (p d : Nat) : Bool :=
  fld d 13 2 = 0 && d < 2 ^ 16 && (!bitOf d 15 || s.batonCheck p (fld d 0 13) none = Stat.ok)

/-- Whether the arguments register a receive queue. -/
def State.rqOk (s : State) (p : Nat) (a : List Nat) : Bool :=
  let d1 := nth 0 a 1
  nth 0 a 0 < 2 ^ 48 && nth 0 a 0 % 4096 = 0 && 4 ≤ fld d1 0 8 && fld d1 0 8 ≤ 16 && 6 ≤ fld d1 8 8 && fld d1 8 8 ≤ 16 &&
  fld d1 28 4 = 0 && d1 < 2 ^ 44 && s.inRange p .ctx (fld d1 16 12) && s.handleBatonOk p (nth 0 a 2)

/-- Whether the arguments register a window. -/
def State.windowOk (s : State) (p : Nat) (a : List Nat) : Bool :=
  let d1 := nth 0 a 1
  nth 0 a 0 < 2 ^ 48 && nth 0 a 0 % 4096 = 0 && fld d1 40 8 = 0 && d1 < 2 ^ 60 && s.inRange p .ctx (fld d1 48 12) &&
  s.handleBatonOk p (nth 0 a 2)

/-- The modules present in the group. -/
def State.groupMask (s : State) : Nat := s.links.reachable ||| 2 ^ s.moduleNo

/-- The members a shape gives: the group's modules of the own octet, of the own seat, or all (R335). -/
def State.membersOf (s : State) (shape : Nat) : Nat :=
  let own := s.moduleNo
  bitsOf ((List.range 64).map (fun m => bitOf s.groupMask m &&
    (if shape = 0 then m / 8 = own / 8 else if shape = 1 then m % 8 = own % 8 else true)))

/-- The lowest port to a member without the relay-reduction unit. -/
def State.relayLack (s : State) (members : Nat) : Option Nat :=
  (s.peers.find? (fun p => p.2.valid && bitOf members (p.2.coord % 64) && !bitOf p.2.units 0)).map Prod.fst

/-- Whether this module and every member whose beacon it has hold the relay-reduction unit (R335). -/
def State.relayUnits (s : State) (members : Nat) : Bool :=
  bitOf s.optionalUnits 0 && (s.relayLack members).isNone

/-- Whether the arguments register a collective but for the units of its members. -/
def State.collArgsOk (s : State) (p : Nat) (a : List Nat) : Bool :=
  let d1 := nth 0 a 1
  let len := fld d1 0 17
  nth 0 a 0 < 2 ^ 48 && nth 0 a 0 % 64 = 0 && 64 ≤ len && len ≤ 65536 && len % 64 = 0 && fld d1 17 15 = 0 &&
  fld d1 32 2 ≤ 2 && fld d1 34 2 = 0 && fld d1 36 2 ≤ 2 && fld d1 38 10 = 0 && d1 < 2 ^ 60 &&
  s.inRange p .ctx (fld d1 48 12) && s.handleBatonOk p (nth 0 a 2) && nth 0 a 3 = s.membersOf (fld d1 36 2)

/-- Whether the arguments register a collective. -/
def State.collOk (s : State) (p : Nat) (a : List Nat) : Bool := s.collArgsOk p a && s.relayUnits (nth 0 a 3)

/-- A collective across a member without the unit is refused with an alarm (R326). -/
def State.collAlarm (s : State) (p n : Nat) (a : List Nat) : State :=
  match s.relayLack (nth 0 a 3) with
  | some k => if (s.handle n).kind = 0 && s.collArgsOk p a && bitOf s.optionalUnits 0 then s.alarm 3 k false else s
  | none => s

/-- Register a free handle as a kind. -/
def State.register (s : State) (p n kind : Nat) (ok full : Bool) : State × Nat :=
  if (s.handle n).kind ≠ 0 then (s, HRes.state)
  else if !ok then (s, HRes.badArg)
  else if full then (s, HRes.full)
  else (s.setHandle n { Handle.init with kind := kind, data := s.handleArgs p, part := p, epoch := if kind = 3 then 1 else 0 },
        HRes.ok)

/-- Registered collectives. -/
def State.collectives (s : State) : Nat := (s.links.handles.filter (fun h => h.2.kind = 3)).length

/-- RELEASE: a collective in use fails first (R338). -/
def State.release (s : State) (n : Nat) : State × Nat :=
  if (s.handle n).kind = 0 then (s, HRes.state)
  else ((s.collFail n 5).setHandle n Handle.init, HRes.ok)

/-- READ: the registration, zeros for a free handle. -/
def State.handleReadBack (s : State) (p n : Nat) : State × Nat :=
  ((s.handle n).data.zipIdx.foldl (fun s d => s.setReg (Reg.lnkHData p d.2) d.1) s, HRes.ok)

/-- A write of LNK_H_CMD. -/
def State.handleWrite (s : State) (p v : Nat) : State :=
  match v % 8 with
  | 1 => s.handleCmd p (fun s n => s.register p n 1 (s.rqOk p (s.handleArgs p)) false)
  | 2 => s.handleCmd p (fun s n => s.register p n 2 (s.windowOk p (s.handleArgs p)) false)
  | 3 => s.handleCmd p (fun s n =>
      let a := s.handleArgs p
      (s.collAlarm p n a).register p n 3 (s.collOk p a) (256 ≤ s.collectives))
  | 4 => s.handleCmd p (fun s n => s.release n)
  | 5 => s.handleCmd p (fun s n => s.handleReadBack p n)
  | _ => s

/-- REGISTER_RQ. -/
def execRegisterRq (fn p : Nat) (s : State) : Res := s.byOwner fn p (fun s => s.handleWrite p 1)
/-- REGISTER_WINDOW. -/
def execRegisterWindow (fn p : Nat) (s : State) : Res := s.byOwner fn p (fun s => s.handleWrite p 2)
/-- REGISTER_COLL. -/
def execRegisterColl (fn p : Nat) (s : State) : Res := s.byOwner fn p (fun s => s.handleWrite p 3)
/-- HANDLE_RELEASE. -/
def execHandleRelease (fn p : Nat) (s : State) : Res := s.byOwner fn p (fun s => s.handleWrite p 4)
/-- HANDLE_READ. -/
def execHandleRead (fn p : Nat) (s : State) : Res := s.byOwner fn p (fun s => s.handleWrite p 5)

/-- Fields of a receive queue (R329). -/
def Handle.ringLog (h : Handle) : Nat := fld (nth 0 h.data 1) 0 8
def Handle.slotLog (h : Handle) : Nat := fld (nth 0 h.data 1) 8 8

/-- A write of LNK_RQ_DB: entries consumed, by the acceptance rule of STR_DB_CQHEAD (R227, R330). -/
def State.rqDoorbell (s : State) (p v : Nat) : State :=
  let n := v % 2 ^ 13
  let c := v / 2 ^ 32 % 2 ^ 32
  let h := s.handle n
  if !s.alive then s
  else if !s.inRange p .handle n || h.kind ≠ 1 then s.count (Reg.strDbIgnored p) 1
  else if (h.received + 2 ^ 32 - c) % 2 ^ 32 ≤ 2 ^ h.ringLog then s.setHandle n { h with consumed := c }
  else s.count (Reg.strDbIgnored p) 1

/-- LNK_RQ_DB. -/
def execLnkRqDb (fn p value : Nat) (s : State) : Res := s.byOwner fn p (fun s => s.rqDoorbell p value)

/-! ### Messages that arrive (R321, R327, R332, R341) -/

/-- The partition that receives a message: that of its handle, or of its fence. -/
def State.msgPart (s : State) (m : MsgIn) : Option Nat :=
  match m.kind with
  | 0 | 1 | 3 => if (s.handle m.handle).kind = 0 then none else some (s.handle m.handle).part
  | 2 => s.partOf .fence (fld m.param 32 18)
  | _ => none

/-- The meter index that receiving a message is charged to: of the open requests with its REQID and tenant in the receiving
partition, the one that started first; else that partition's unrequested index; the module's without a partition (R288). -/
def State.receiptIndex (s : State) (m : MsgIn) : Nat :=
  match s.msgPart m with
  | none => moduleIndex
  | some p =>
    let mine := s.meter.idx.filter (fun x =>
      m.req && x.2.closed.isNone && x.2.part = p && x.2.reqid = m.reqid && x.2.tenant = m.tenant)
    match mine.foldl (fun (a : Option (Nat × MeterIdx)) x => match a with
      | none => some x
      | some y => if s.since y.2.tOpen < s.since x.2.tOpen then some x else some y) none with
    | some x => x.1
    | none => unrequested p

/-- Count a message of a port's peer in its window of 1 ms, and its flits for the meter index it is charged to; a window without
refusals ends a flood. -/
def State.countMsg (s : State) (k : Nat) (m : MsgIn) : State :=
  let s := s.tally (s.receiptIndex m) Site.flitsIn 0 ((40 + m.data.length + 231) / 232)
  let x := s.port k
  if s.since x.window < 1000000 then s.setPort k { x with msgs := x.msgs + 1 }
  else
    let calm := x.msgs ≤ s.entry 0x5000 8 || 2000000 ≤ s.since x.window
    let s := s.setPort k { x with msgs := 1, window := s.time, floodSince := if calm then none else x.floodSince }
    if calm && x.floodSince.isSome then s.portAlarms else s

/-- Whether the peer has exceeded PEER_MSG_LIMIT in its window. -/
def State.flooding (s : State) (k : Nat) : Bool := s.entry 0x5000 8 < (s.port k).msgs

/-- A message refused for its rate: counted, with an alarm after 100 ms of refusals. -/
def State.rateRefuse (s : State) (k : Nat) : State :=
  let s := s.count (Reg.lnkRateRefused k) 1
  let x := s.port k
  let t := x.floodSince.getD s.time
  let s := s.setPort k { x with floodSince := some t }
  if 100000000 ≤ s.since t && !bitOf s.dict.alarmActive 6 then s.alarm 6 k true else s

/-- Count a refused or malformed message; 1,000 in 1 s quarantine the port. -/
def State.refused (s : State) (k handle : Nat) : State :=
  let s := match s.partOf .handle handle with
    | some p => s.count (Reg.lnkRxRefused p) 1
    | none => s.count (Reg.lnkRateRefused k) 1
  let x := s.port k
  let l := s.recent 1000000000 x.malformed
  let s := s.setPort k { x with malformed := l }
  if 1000 ≤ l.length then s.quarantine k else s

/-- Acknowledge a message with its result, on ACK flits (R321). -/
def State.acknowledge (s : State) (m : MsgIn) (r : Nat) : State := s.sendAck m.src m.seq r

/-- A message has its result: the next number of its source is expected. -/
def State.settleMsg (s : State) (m : MsgIn) (r : Nat) : State :=
  { s with links := { s.links with recvSeq := Tab.set 0 s.links.recvSeq m.src ((m.seq + 1) % 2 ^ 32),
                                   results := s.links.results ++ [(m.src, m.seq, r)] } }

/-- The result given to a message before. -/
def State.givenResult (s : State) (m : MsgIn) : Nat :=
  match s.links.results.reverse.find? (fun r => r.1 = m.src && r.2.1 = m.seq) with
  | some r => r.2.2
  | none => 0

/-- Perform a message in sequence order: `f` performs it and gives its result. -/
def State.takeMsg (s : State) (k : Nat) (m : MsgIn) (f : State → State × Nat) : State :=
  let s := s.countMsg k m
  let far := (m.seq + 2 ^ 32 - Tab.get 0 s.links.recvSeq m.src) % 2 ^ 32
  if far ≠ 0 then (if bitOf (far - 1) 31 then s.acknowledge m (s.givenResult m) else s)
  else if m.reserved || 6 < m.kind then ((s.settleMsg m 2).acknowledge m 2).refused k m.handle
  else if m.abort && m.kind ≠ 1 then s.settleMsg m 0
  else if s.flooding k then (s.rateRefuse k).acknowledge m 1
  else
    let r := f s
    let t := r.1
    if r.2 = 1 then t.acknowledge m 1
    else
      let t := t.settleMsg m r.2
      let t := if m.abort then t else t.acknowledge m r.2
      if r.2 = 2 then t.refused k m.handle else t

/-- A message command: the port is UP, the module has not stopped (R197), and the message is this module's and of the command's
kind, or of a reserved kind, which has no command of its own. -/
def State.onMsg (s : State) (port kind : Nat) (m : MsgIn) (f : State → State × Nat) : Res :=
  onUnit (port < s.nPorts) <|
    guarded (s.portUp port && s.alive && (m.kind = kind || 6 < m.kind) &&
        (m.abort || (m.dst = s.links.coord && m.data.length = m.len)))
      s (s.takeMsg port m f).settle

/-- Signal a handle's baton with count 1 where BV is set. -/
def State.handleSignal (s : State) (port : Nat) (h : Handle) (src : Nat) : State :=
  let d := nth 0 h.data 2
  if bitOf d 15 then (s.batonSignal (fld d 0 13) 1 (peerActor port h.part src) none).1 else s

/-- A SEND goes into the next slot of its receive queue (R330, R332). -/
def State.sendIn (s : State) (port : Nat) (m : MsgIn) : State × Nat :=
  let h := s.handle m.handle
  let p := h.part
  if h.kind ≠ 1 || !bitOf (nth 0 h.data 3) m.src || 2 ^ h.slotLog < m.len + 32 then (s, 2)
  else if 2 ^ h.ringLog ≤ (h.received + 2 ^ 32 - h.consumed) % 2 ^ 32 then (s, 1)
  else
    let n := h.received
    let va := h.base + 2 ^ h.slotLog * (n % 2 ^ h.ringLog)
    let ids := layout 16 [(0, 8, if m.req then m.reqid else 0), (8, 4, if m.req then m.tenant else 0)]
    let head := layout 16 [(0, 1, 1 - n / 2 ^ h.ringLog % 2), (1, 1, m.src), (2, 1, m.srcPart), (4, 4, m.len), (8, 8, m.param)]
    let a := s.writeAll 20 p h.ctx (va + 16) (ids ++ m.data)
    let b := match a.2.2 with
      | none => a.1.writeAll 20 p h.ctx va head
      | some _ => a
    match b.2.2 with
    | some _ => (b.1.countPf p, 3)
    | none =>
      let t := (b.1.setHandle m.handle { h with received := (n + 1) % 2 ^ 32 }).count (Reg.lnkRxMsgs p) 1
      let t := t.handleSignal port h m.src
      let d1 := nth 0 h.data 1
      (if bitOf d1 43 then t.raise (t.fnOf p) (fld d1 32 11) else t, 0)

/-- SEND. -/
def execSend (port : Nat) (msg : MsgIn) (s : State) : Res := s.onMsg port 0 msg (fun s => s.sendIn port msg)

/-- The DMA engine that performs a partition's RWRITEs: of its lowest cluster (DESIGN CHOICE, log 31). -/
def State.rxDma (s : State) (p : Nat) : Nat := ((List.range 20).find? (fun k => bitOf (s.pClusters p) k)).getD 20

/-- An RWRITE goes into its window; its baton is signalled once it is written whole (R331). -/
def State.rwriteIn (s : State) (port : Nat) (m : MsgIn) : State × Nat :=
  let h := s.handle m.handle
  if h.kind ≠ 2 || !bitOf (nth 0 h.data 3) m.src || fld (nth 0 h.data 1) 0 40 < m.param + m.len then (s, 2)
  else
    let r := s.writeAll (s.rxDma h.part) h.part h.ctx (h.base + m.param) m.data
    match r.2.2 with
    | some _ => (r.1.countPf h.part, 3 + 8 * r.2.1)
    | none => if m.abort then (r.1, 0) else ((r.1.count (Reg.lnkRxMsgs h.part) 1).handleSignal port h m.src, 0)

/-- A relay raises an import fence of its source, or is ignored and counted, as one that reaches a fence in error is
(R269, R277). -/
def State.relayIn (s : State) (port : Nat) (m : MsgIn) : State × Nat :=
  let g := fld m.param 32 18
  let v := leNat (m.data.take 8)
  let f := s.fence g
  match s.partOf .fence g with
  | none => (s, 0)
  | some p =>
    let new := max (v % 2 ^ 63) f.value + 2 ^ 63 * bit (inError v)
    if f.st = 1 && f.imported && f.source = m.src && !inError f.value && new ≠ f.value then (s.fencePut g new (peerActor port p m.src), 0)
    else (s.count (Reg.strRelayIgnored p) 1, 0)

/-- FENCE_RELAY. -/
def execFenceRelay (port : Nat) (msg : MsgIn) (s : State) : Res := s.onMsg port 2 msg (fun s => s.relayIn port msg)

/-- NOTE: the receipt anchor's marshal takes the note in (R305, R333). -/
def execNote (port : Nat) (msg : MsgIn) (s : State) : Res :=
  s.onMsg port 4 msg (fun s => if msg.len = 64 then (s.noteIn (noteOf msg) none, 0) else (s, 2))

/-- A HOSTWRITE at the host anchor: a posted write, or, with no data, an interrupt of the physical function (R339); a
module that is no anchor is not ready for it. -/
def State.hostWriteIn (s : State) (m : MsgIn) : State × Nat :=
  if !s.pcie.link then (s, 1)
  else if m.data.isEmpty then (s.raise 0 (m.param % 2 ^ 11), 0)
  else (s.emit (.pwrite m.param m.data), 0)

/-- HOSTWRITE. -/
def execHostwrite (port : Nat) (msg : MsgIn) (s : State) : Res := s.onMsg port 6 msg (fun s => s.hostWriteIn msg)

/-- Whether a message of a collective is a piece long: of elements, or of a GROUP's partial sums. -/
def Handle.lenOk (h : Handle) (n : Nat) : Bool :=
  n = h.piece || h.shape = 2 && n = h.piece / elemBytes h.collType * wideBytes h.collType

/-- A contribution or sum of a collective: kept for the current or the next epoch; another epoch fails the use (R336). A refusal
is answered with result 1 or 2 under the number 0 of a REDUCE (R327, R332). -/
def State.reduceIn (s : State) (k : Nat) (m : MsgIn) : State :=
  let s := s.countMsg k m
  let h := s.handle m.handle
  if s.flooding k then (s.rateRefuse k).acknowledge m 1
  else if m.abort then s
  else if m.reserved || h.kind ≠ 3 || !bitOf h.members m.src || !h.lenOk m.data.length then
    (s.acknowledge m 2).refused k m.handle
  else if m.param = h.epoch || m.param = (h.epoch + 1) % 2 ^ 64 then
    let s := s.tally (s.receiptIndex m) Site.reduced 0 (m.data.length / elemBytes h.collType)
    ((s.setHandle m.handle (h.keep m.src m.param m.data)).count (Reg.lnkRxMsgs h.part) 1).collGo m.handle
  else s.collFail m.handle 6

/-- REDUCE. -/
def execReduce (port : Nat) (msg : MsgIn) (s : State) : Res :=
  onUnit (port < s.nPorts) <|
    guarded (s.portUp port && s.alive && msg.kind = 3 && msg.dst = s.links.coord && (msg.data.length = msg.len || msg.abort)) s
      (s.reduceIn port msg).settle

/-- The result lands: it is written at the registered address, up to the first page the member's packet finds stale
(R266), the use ends, the baton is signalled and the packet completes. -/
def State.reduceDone (s : State) (hd q n : Nat) (pieces : List (List Byte)) : State :=
  let h := s.handle hd
  let b := pieces.flatten
  let stamp := match (s.queue q).packets.look n with | some p => p.stamp | none => 0
  let whole := (((pagesOf h.base b.length).takeWhile (fun x => !s.staleRange h.part stamp x)).map Prod.snd).sum
  let r := s.writeAll 20 h.part h.ctx h.base (b.take whole)
  let t := r.1.setHandle hd (h.close ((h.epoch + 1) % 2 ^ 64))
  match r.2.2 with
  | some (reason, addr) => t.packetFault q n Stat.pageFault reason addr
  | none =>
    if whole < b.length then t.packetFault q n Stat.staleObject 0 (h.base + whole) else
    let a : Actor := { moduleActor h.part with agent := 5, unit := t.links.coord }
    let t := if bitOf (nth 0 h.data 2) 15 then (t.batonSignal (fld (nth 0 h.data 2) 0 13) 1 a none).1 else t
    let st := match (t.queue q).packets.look n with | some p => p.status | none => 0
    t.completePacket q n st

/-- REDUCE_RESULT. -/
def execReduceResult (handle : Nat) (s : State) : Res := powered s <|
  onUnit (handle < 8192) <|
    let h := s.handle handle
    match h.packet, h.result s.links.coord with
    | some (q, n), some pieces => .next (s.reduceDone handle q n pieces).settle
    | _, _ => .next s

/-- COLL_TIMEOUT: contributions have not arrived within COLL_TIMEOUT of the member's packet start (R338). -/
def execCollTimeout (handle dt : Nat) (s : State) : Res := powered s <|
  let t := s.tick dt
  onUnit (handle < 8192) <|
    let h := t.handle handle
    match h.since with
    | some since => guarded ((h.result t.links.coord).isNone && t.entry 0x5000 6 * 1000 ≤ t.since since) t (t.collFail handle 5).settle
    | none => .next t

/-! ### Acknowledgements and resends (R321, R332) -/

/-- The message under way to a module with a number. -/
def State.sentMsg (s : State) (dst seq : Nat) : Option SentMsg :=
  s.links.sent.find? (fun m => m.dst = dst && m.seq = seq && m.kind ≠ 3)

/-- Take a message off the list of those without a result. -/
def State.unsend (s : State) (dst seq : Nat) : State :=
  { s with links := { s.links with sent := s.links.sent.filter (fun m => !(m.dst = dst && m.seq = seq && m.kind ≠ 3)) } }

/-- Replace a message under way. -/
def State.setSent (s : State) (m : SentMsg) : State :=
  { s with links := { s.links with sent := s.links.sent.map (fun x =>
      if x.dst = m.dst && x.seq = m.seq && x.kind ≠ 3 then m else x) } }

/-- A failed HOSTWRITE waits for a host anchor again, with every later one to the same module, which none has performed, in order
before those that wait already (R339, R344). -/
def State.takeBack (s : State) (dst : Nat) : State :=
  let mine (m : SentMsg) : Bool := m.dst = dst && m.kind = 6
  let w := (s.links.sent.filter mine).map (fun m => (if m.data.isEmpty then legIrq m.param else m.param, m.data))
  { s with links := { s.links with sent := s.links.sent.filter (fun m => !mine m), hostWrites := w ++ s.links.hostWrites } }

/-- A message fails: its packet completes with LINK_ERROR; a leg's host write waits for another host anchor; a write
through the group window is dropped, counted and alarmed, a register command of it ends LOST (R340); a note stays to be repeated
(R304). -/
def State.failMsg (s : State) (m : SentMsg) (reason bytes : Nat) : State :=
  if m.kind = 6 then s.takeBack m.dst
  else
    let s := s.unsend m.dst m.seq
    match m.q with
    | some (q, n) => (s.setPacket q n (fun p => { p with moved := bytes })).linkError q n reason
    | none =>
      if m.kind = 5 then
        let op := gwOf m.param
        let s := if op.command then s.setReg (Reg.lnkGwRegstat m.dst) (2 * GwRes.lost) else s
        if op.writes then (s.count (Reg.lnkGwDrop 0) 1).alarm 7 m.dst false else s
      else s

/-- E2E_ACK: the result of a message. -/
def execE2eAck (dst seq result bytes : Nat) (s : State) : Res := powered s <|
  onUnit (dst < 64) <|
    match s.sentMsg dst seq with
    | none => .next s
    | some m =>
      if result = 0 then
        let t := s.unsend dst seq
        let t := match m.q with
          | some (q, n) => t.setPacket q n (fun p => { p with done := true })
          | none => if m.kind = 5 && (gwOf m.param).command && (gwOf m.param).writes then t.setReg (Reg.lnkGwRegstat dst) 0 else t
        let note (n : NoteMsg) : Bool := m.kind = 4 && n.reqid = m.reqid && n.tenant = m.tenant && noteBytes n = m.data
        .next ({ t with meter := { t.meter with notes := t.meter.notes.filter (fun n => !note n) } }).settle
      else if result = 1 then .next (s.setSent { m with notReady := true, sentAt := s.time })
      else if result = 2 then .next (s.failMsg m 2 0).settle
      else if result = 3 then .next (s.failMsg m 7 bytes).settle
      else .next s

/-- Send a message again from its start by the first route now available; flits of it still queued go. -/
def State.resend (s : State) (m : SentMsg) : State :=
  let mine (f : QFlit) : Bool := f.dst = m.dst && f.seq = m.seq && f.share != 8
  let ports := s.links.ports.map (fun p => (p.1, { p.2 with queue := p.2.queue.filter (fun f => !mine f) }))
  ({ s with links := { s.links with ports := ports } }.setSent m).transmit m

/-- E2E_RESEND_TIMEOUT: no acknowledgement after 50 µs; after 4 resends the message fails; while no route leads to the destination
nothing is sent and nothing counts (R320, R321). -/
def execE2eResendTimeout (dst seq dt : Nat) (s : State) : Res := powered s <|
  let t := s.tick dt
  onUnit (dst < 64) <|
    match t.sentMsg dst seq with
    | some m =>
      guarded (!m.notReady && 50000 ≤ t.since m.sentAt && (t.route dst).isSome) t
        (if m.resends < 4 then t.resend { m with resends := m.resends + 1, sentAt := t.time } else (t.failMsg m 4 0).settle)
    | none => .next t

/-- A partition's message sent again after result 1 counts in its LNK_RNR (R348). -/
def State.countRnr (s : State) (m : SentMsg) : State := if m.kind < 4 then s.count (Reg.lnkRnr m.part) 1 else s

/-- RNR_RESEND: a refused message goes again after 2 µs. -/
def execRnrResend (dst seq dt : Nat) (s : State) : Res := powered s <|
  let t := s.tick dt
  onUnit (dst < 64) <|
    match t.sentMsg dst seq with
    | some m =>
      guarded (m.notReady && 2000 ≤ t.since m.sentAt) t
        ((t.resend { m with notReady := false, resends := 0, sentAt := t.time }).countRnr m)
    | none => .next t

/-- RNR_LIMIT_EXPIRY: RNR_LIMIT passes before the message is accepted. -/
def execRnrLimitExpiry (dst seq dt : Nat) (s : State) : Res := powered s <|
  let t := s.tick dt
  onUnit (dst < 64) <|
    match t.sentMsg dst seq with
    | some m =>
      guarded (m.notReady && t.entry 0x5000 5 * 1000 ≤ t.since m.startAt) t (t.failMsg m 3 0).settle
    | none => .next t

/-- A module unreachable for 1 ms is lost: its messages fail, import fences of it take bit 63, collectives with it fail
(R269, R320, R338). -/
def State.loseModule (s : State) (m : Nat) : State :=
  let s := { s with links := { s.links with lost := setFld s.links.lost m 1 1 } }
  let s := (s.links.sent.filter (fun x => x.dst = m)).foldl (fun s x => s.failMsg x 1 0) s
  let s := if bitOf (s.reg (Reg.lnkGwRegstat m)) 0 then s.setReg (Reg.lnkGwRegstat m) (2 * GwRes.lost) else s
  let fences := (s.fences.filter (fun f => f.2.st = 1 && f.2.imported && f.2.source = m && !inError f.2.value)).map Prod.fst
  let s := fences.foldl (fun s g =>
    s.fencePut g ((s.fence g).value + 2 ^ 63) (moduleActor ((s.partOf .fence g).getD 0))) s
  let colls := (s.links.handles.filter (fun h => h.2.kind = 3 && bitOf h.2.members m && h.2.packet.isSome)).map Prod.fst
  (colls.foldl (fun s h => s.collFail h 1) s).settle

/-- PEER_LOST. -/
def execPeerLost (m dt : Nat) (s : State) : Res := powered s <|
  let t := s.tick dt
  onUnit (m < 64) <|
    guarded (t.unreachable m && !bitOf t.links.lost m && !(t.links.valid && m = t.links.coord)) t (t.loseModule m)

/-! ### Device time of a leg (R339) -/

/-- Device time is set: open requests and the trace buffers note it (R295, R399), periodic queues follow it; the current
frame's start moves along, so that frame boundaries stay (R286). -/
def State.setTime (s : State) (v : Nat) : State :=
  let old := s.time
  let open' (x : MeterIdx) : MeterIdx := if x.closed.isNone then { x with tstep := true } else x
  let idx := s.meter.idx.map (fun (x : Nat × MeterIdx) => (x.1, open' x.2))
  let traces := (List.range 22).foldl (fun (t : Tab TraceBuf) b =>
    Tab.put t b { Tab.get TraceBuf.init t b with tstep := true }) s.traces
  let start := wrap64 (s.meter.frameTime + (wrap64 v + 2 ^ 64 - old))
  State.timeSet { s with time := wrap64 v, meter := { s.meter with idx := idx, frameTime := start }, traces := traces } old

/-- DEVICE_TIME_MESSAGE: it shows its sender to be an anchor; a leg takes its host anchor's device time plus half the measured
round trip. -/
def execDeviceTimeMessage (src time rtt : Nat) (s : State) : Res := powered s <|
  let hear (s : State) : State := { s with links := { s.links with heard := Tab.put s.links.heard src s.time } }
  .next (if !s.pcie.link && (hear s).hostAnchor = some src then hear (s.setTime (time + rtt / 2)) else hear s)

end Sys2Proof.Machine
end

