-- ==== Sys2Proof/Machine/Traces.lean ====
section
/-! DEFINITION. Fault ring consumption, trace rings and their drain, instruction trace, and the freeze of the counters
(15_startup_security_faults.md: R396; 16_observability.md: R401 to R412, R416). -/

namespace Sys2Proof.Machine

/-! ### Rings of counts modulo 2^32 -/

/-- Whether a write of `t` to a ring's TAIL is accepted: it lies within `n` of HEAD and of TAIL (R396, R403). -/
def tailOk (head tail t n : Nat) : Bool := (head + 2 ^ 32 - t) % 2 ^ 32 ≤ n && (t + 2 ^ 32 - tail) % 2 ^ 32 ≤ n

/-- A write of HIF_FLT_TAIL (R396). -/
def State.fltTail (s : State) (p v : Nat) : State :=
  if tailOk (s.reg (Reg.hifFltHead p)) (s.reg (Reg.hifFltTail p)) (v % 2 ^ 32) 64 then
    s.setReg (Reg.hifFltTail p) (v % 2 ^ 32)
  else s

/-- FLT_TAIL_WRITE. -/
def execFltTailWrite (fn p value : Nat) (s : State) : Res := s.byOwner fn p (fun s => s.fltTail p value)

/-! ### Trace rings (R402, R403, R416): 0 to 7 the partitions', 8 the host's -/

def trBase (r : Nat) : Nat := if r < 8 then Reg.dbgTrBase r else Reg.dbgHtrBase
def trCfg (r : Nat) : Nat := if r < 8 then Reg.dbgTrCfg r else Reg.dbgHtrCfg
def trHead (r : Nat) : Nat := if r < 8 then Reg.dbgTrHead r else Reg.dbgHtrHead
def trTail (r : Nat) : Nat := if r < 8 then Reg.dbgTrTail r else Reg.dbgHtrTail
def trStatus (r : Nat) : Nat := if r < 8 then Reg.dbgTrStatus r else Reg.dbgHtrStatus

/-- LOG2 of a ring, and its context for a partition's. -/
def State.trLog (s : State) (r : Nat) : Nat := fld (s.reg (trCfg r)) 0 5
def State.trCtx (s : State) (r : Nat) : Nat := fld (s.reg (trCfg r)) 16 12

/-- Whether a ring is ON. -/
def State.trOn (s : State) (r : Nat) : Bool := bitOf (s.reg (trStatus r)) 0

/-- Whether a ring has room. -/
def State.trRoom (s : State) (r : Nat) : Bool :=
  (s.reg (trHead r) + 2 ^ 32 - s.reg (trTail r)) % 2 ^ 32 < 2 ^ s.trLog r

/-- Write a record into a ring that is ON and has room; a failure turns the ring OFF and leaves `false` (R403, R404). -/
def State.trPut (s : State) (r : Nat) (bytes : List Byte) : State × Bool :=
  let n := s.reg (trHead r)
  let va := s.reg (trBase r) + 64 * (n % 2 ^ s.trLog r)
  let head (t : State) : State :=
    let n := (n + 1) % 2 ^ 32
    let t := t.setReg (trHead r) n
    if r < 8 && n % 2 ^ t.trLog r = 2 ^ (t.trLog r - 1) then t.raiseField r (t.reg (Reg.dbgTrVec r)) else t
  if r < 8 then
    match s.writePart 20 r (s.trCtx r) va bytes with
    | .inl t => (head t, true)
    | .inr reason => ((s.setReg (trStatus r) 2).partRec r 0x16 [va, reason], false)
  else (head (s.hostPut (va % 2 ^ 64) bytes), true)

/-- The rings a record goes to: its partition's, and the host's with SYNC_ALL or for records of the module itself. -/
def State.trTargets (s : State) (bytes : List Byte) : List Nat :=
  let p := ((bytes.drop 11).headD 0#8).toNat
  let host := s.trOn 8 && (p = 0xFF || bitOf (s.reg Reg.dbgHtrCfg) 8)
  (if p < 8 && s.trOn p then [p] else []) ++ (if host then [8] else [])

/-- Drain a buffer's records in order until one must wait for room. -/
def State.drain (s : State) (b : Nat) : Nat → State
  | 0 => s
  | fuel + 1 =>
    let t := s.buffer b
    match t.recs with
    | [] => s
    | r :: rest =>
      let off := match t.held with | some h => !s.trOn h | none => false
      if off then s
      else match (s.trTargets r).find? (fun h => !s.trRoom h) with
        | some h => s.setBuffer b { t with held := some h, since := leNat (r.take 8) }
        | none =>
          let x := (s.trTargets r).foldl (fun (x : State × Option Nat) h =>
            match x.2 with
            | some _ => x
            | none => (let y := x.1.trPut h r; (y.1, if y.2 then none else some h))) (s, none)
          match x.2 with
          | some h => x.1.setBuffer b { x.1.buffer b with held := some h, since := leNat (r.take 8) }
          | none => (x.1.setBuffer b { x.1.buffer b with recs := rest, held := none }).drain b fuel

/-- Whether a buffer exists: the clusters' and the service stops' of the dies. -/
def State.bufferOk (s : State) (b : Nat) : Bool := b < s.nClusters || b = 20 || (b = 21 && !s.oneDie)

/-- TRACE_DRAIN: a buffer holds 128 records, or its oldest has waited DRAIN_US. -/
def execTraceDrain (buffer dt : Nat) (s : State) : Res := powered s <|
  let t := s.tick dt
  onUnit (s.bufferOk buffer) <|
    let x := t.buffer buffer
    guarded (128 ≤ x.recs.length || (!x.recs.isEmpty && t.entry 0x2300 3 * 1000 ≤ t.since x.since)) t
      (t.drain buffer x.recs.length)

/-! ### Instruction trace (R406 to R408) -/

/-- A held record of the last run: the test programs' control flow is not stated, its fields are free values. -/
def State.itraceRec (s : State) (i : Nat) : List Byte :=
  let b := (List.range 64).map (fun j => BitVec.ofNat 8 ((Config.free (s.itrace.seed + 8 * i + j / 8)).toNat / 2 ^ (8 * (j % 8))))
  overlay (overlay b 8 [0x10#8]) 11 [0xFF#8]

/-- A COPY in progress sends held records while the host ring is ON and has room. -/
def State.itraceGo (s : State) : Nat → State
  | 0 => s
  | fuel + 1 =>
    match s.itrace.copy with
    | none => s
    | some i =>
      let old := s.itrace.count - min s.itrace.count 1048576
      if s.itrace.count ≤ old + i then { s with itrace := { s.itrace with copy := none } }
      else if s.trOn 8 && s.trRoom 8 then
        let t := (s.trPut 8 (s.itraceRec (old + i))).1
        State.itraceGo { t with itrace := { t.itrace with copy := some (i + 1) } } fuel
      else s

/-- A write of DBG_ITR_CMD. -/
def State.itraceCmd (s : State) (v : Nat) : State :=
  if bitOf v 0 then State.itraceGo { s with itrace := { s.itrace with copy := some 0 } } (2 ^ s.trLog 8 + 1) else s

/-- ITRACE_COPY. -/
def execItraceCopy (fn : Nat) (s : State) : Res := s.byFn fn (fn = 0) (fun s => s.itraceCmd 1)

/-! ### Ring registers -/

/-- A write of a ring's TAIL; a COPY that waits for room goes on. -/
def State.trTailWrite (s : State) (r v : Nat) : State :=
  if tailOk (s.reg (trHead r)) (s.reg (trTail r)) (v % 2 ^ 32) (2 ^ s.trLog r) then
    let s := s.setReg (trTail r) (v % 2 ^ 32)
    if r = 8 then s.itraceGo (2 ^ s.trLog 8 + 1) else s
  else s

/-- ENABLE checks the configuration and turns the ring ON with HEAD and TAIL 0, or leaves it OFF with BAD_CFG. -/
def State.trEnable (s : State) (r : Nat) : State :=
  let cfg := s.reg (trBase r) % 4096 = 0 && 6 ≤ s.trLog r && s.trLog r ≤ 20 &&
    (r = 8 || (s.inRange r .ctx (s.trCtx r) && (s.ctx (s.trCtx r)).st = .live))
  if cfg then ((s.setReg (trHead r) 0).setReg (trTail r) 0).setReg (trStatus r) 1
  else s.setReg (trStatus r) (4 + 2 * fld (s.reg (trStatus r)) 1 1)

/-- A write of DBG_TR_CMD or DBG_HTR_CMD. -/
def State.trCmd (s : State) (r v : Nat) : State :=
  if v % 4 = 1 then s.trEnable r
  else if v % 4 = 2 then s.setRegFld (trStatus r) 0 1 0
  else s

/-- A ring's register command by a function: a partition's by its function, the host's by the physical function. -/
def State.byRing (s : State) (fn r : Nat) (f : State → State) : Res :=
  onUnit (r ≤ 8) <| s.byFn fn (if r < 8 then actsFor fn r else fn = 0) f

/-- TRACE_TAIL_WRITE. -/
def execTraceTailWrite (fn ring value : Nat) (s : State) : Res := s.byRing fn ring (fun s => s.trTailWrite ring value)

/-- TRACE_RING_ENABLE. -/
def execTraceRingEnable (fn ring : Nat) (s : State) : Res := s.byRing fn ring (fun s => s.trCmd ring 1)

/-- TRACE_RING_DISABLE. -/
def execTraceRingDisable (fn ring : Nat) (s : State) : Res := s.byRing fn ring (fun s => s.trCmd ring 2)

/-! ### Freeze (R409 to R412) -/

/-- Holders of a freeze. -/
inductive Holder where
  | reg
  | pin
  | group (origin id : Nat)
  deriving DecidableEq, Repr

/-- Take a holder. -/
def Freeze.take (f : Freeze) : Holder → Freeze
  | .reg => { f with reg := true }
  | .pin => { f with pin := true }
  | .group o i => { f with group := some (o, i) }

/-- Whether the freeze belongs to the module's own holders. -/
def Holder.own : Holder → Bool
  | .group _ _ => false
  | _ => true

/-- Send FREEZE or UNFREEZE to every reachable module on CTL, with FREEZE_GROUP_TX set (R412). -/
def State.freezeSend (s : State) (op : Nat) : State :=
  if s.entry 0x2300 1 = 1 then
    let b := layout 16 [(0, 1, 0x10), (1, 1, 1), (2, 1, op), (3, 1, s.moduleNo), (4, 4, s.freeze.id), (8, 8, s.freeze.time)]
    (setBits s.links.reachable 64).foldl (fun s m => s.sendCtl m b) s
  else s

/-- A holder is taken: the first starts the freeze, copies every counter, those of cycles counted up to it, and writes
FREEZE records; a later one is counted. -/
def State.freezeTake (s : State) (h : Holder) : State :=
  if s.frozen then ({ s with freeze := s.freeze.take h }).count Reg.dbgFreezeRepeat 1
  else
    let s := s.accrue s.countingNow
    let f := { s.freeze with copy := some s.regs, id := (s.freeze.id + 1) % 2 ^ 32, time := s.time, own := h.own }
    let s := { s with freeze := f.take h }
    let s := ((List.range 22).filter s.bufferOk).foldl (fun s b =>
      s.trace b (TraceRec.mk0 0x06 7 0xFF 0xFF 0 s.freeze.id)) s
    if h.own then s.freezeSend 1 else s

/-- After a release: a freeze no holder holds ends. -/
def State.freezeCheck (s : State) : State :=
  if s.frozen || s.freeze.copy.isNone then s
  else
    let s := { s with freeze := { s.freeze with copy := none } }
    if s.freeze.own then s.freezeSend 2 else s

/-- A write of DBG_FREEZE_CMD: FREEZE takes the register holder, UNFREEZE releases every holder. -/
def State.freezeCmd (s : State) (v : Nat) : State :=
  if v % 4 = 1 then s.freezeTake .reg
  else if v % 4 = 2 then
    State.freezeCheck { s with freeze := { s.freeze with reg := false, pin := false, group := none } }
  else s

/-- FREEZE. -/
def execFreeze (fn : Nat) (s : State) : Res := s.byFn fn (fn = 0) (fun s => s.freezeCmd 1)

/-- UNFREEZE. -/
def execUnfreeze (fn : Nat) (s : State) : Res := s.byFn fn (fn = 0) (fun s => s.freezeCmd 2)

/-- FREEZE_IN_RISE: an edge less than 10 µs after the one before is ignored and counted. -/
def execFreezeInRise (dt : Nat) (s : State) : Res := powered s <|
  let t := s.tick dt
  let fast : Bool := match t.freeze.lastRise with | some l => t.since l < 10000 | none => false
  let u := { t with freeze := { t.freeze with high := true, lastRise := some t.time } }
  guarded (!t.freeze.high) t (if fast then u.count Reg.dbgFreezeBounce 1 else u.freezeTake .pin)

/-- FREEZE_IN_FALL: the pin holder is released and the mask lifts. -/
def execFreezeInFall (dt : Nat) (s : State) : Res := powered s <|
  let t := s.tick dt
  let u := { t with freeze := { t.freeze with high := false, masked := false, pin := false } }
  guarded t.freeze.high t ((if t.freeze.masked then u.alarmOff 18 else u).freezeCheck)

/-- FREEZE_IN_STUCK: high for more than 1 s masks the pin. -/
def execFreezeInStuck (dt : Nat) (s : State) : Res := powered s <|
  let t := s.tick dt
  let long : Bool := match t.freeze.lastRise with | some l => 1000000000 < t.since l | none => false
  guarded (t.freeze.high && !t.freeze.masked && long) t
    ((State.freezeCheck { t with freeze := { t.freeze with masked := true, pin := false } }).alarm 18 0 true)

/-- GROUP_FREEZE_MESSAGE: with FREEZE_GROUP_RX set, takes the group holder; while it is held, counted. -/
def execGroupFreezeMessage (origin id _time : Nat) (s : State) : Res := powered s <|
  .next (if s.entry 0x2300 2 = 1 then
      (if s.freeze.group.isSome then s.count Reg.dbgFreezeRepeat 1 else s.freezeTake (.group (origin % 64) (id % 2 ^ 32)))
    else s)

/-- GROUP_UNFREEZE_MESSAGE: the same ORIGIN and ID release the group holder; another is counted. -/
def execGroupUnfreezeMessage (origin id : Nat) (s : State) : Res := powered s <|
  .next (match s.freeze.group with
    | some h =>
      if h = (origin % 64, id % 2 ^ 32) then State.freezeCheck { s with freeze := { s.freeze with group := none } }
      else s.count Reg.dbgFreezeRepeat 1
    | none => s)

end Sys2Proof.Machine
end

