-- ==== Sys2Proof/Machine/Flags.lean ====
section
/-! DEFINITION. The value a BAR0 register reads as (R72, R100, R110, R153, R198, R254, R255, R278, R280, R310, R311, R347,
R375, R396, R416): status and flag registers computed from the state, every other from storage; the copy of a freeze. -/

namespace Sys2Proof.Machine

/-- Bits of a capability mask that lie in the variant's numbering. -/
def State.presentCores (s : State) : Nat := bitsOf ((List.range 160).map s.coreOn)
def State.presentClusters (s : State) : Nat := bitsOf ((List.range 20).map s.clusterOn)
def State.presentPorts (s : State) : Nat := bitsOf ((List.range 16).map s.portOn)

/-- HIF_CAP_TOPO with ANCHOR: the module has its PCIe port in use. -/
def State.capTopo (s : State) : Nat := s.topoWord + (if bitOf s.topoWord 13 then 2 ^ 12 * bit s.links.anchor else 0)

/-- Slots of HIF_CAP_SLOTS (R256). -/
def capSlots (i : Nat) : Nat :=
  nth 0 [Kind.ctx.slots, Kind.queue.slots, Kind.mobj.slots, Kind.fence.slots, Kind.baton.slots, Kind.req.slots] i

/-- A word of HIF_CAP as function `fn` reads it. -/
def State.capWord (s : State) (fn r : Nat) : Nat :=
  match r with
  | 0x00 => 1
  | 0x04 => s.units.variant
  | 0x08 => s.optionalUnits
  | 0x0C => s.units.capGen
  | 0x10 => s.presentClusters
  | 0x30 => 2 ^ s.nChannels - 1
  | 0x38 => s.presentPorts
  | 0x3C => if s.oneDie then 1 else 2
  | 0x40 => 2100
  | 0x44 => s.nUnits
  | 0x60 => s.capTopo
  | 0x68 => s.links.reachable
  | 0x70 => s.linksUp
  | 0x78 => if fn = 0 then 0xFF else fn - 1
  | _ => if 0x48 ≤ r ∧ r < 0x60 then capSlots ((r - 0x48) / 4) else 0

/-- The bytes of HIF_CAP: HIF_CAP_CORES at 0x18 is an array of 20 bytes. -/
def State.capBytes (s : State) (fn : Nat) : List Byte :=
  layout 0x80 ((([0x00, 0x04, 0x08, 0x0C, 0x10, 0x38, 0x3C, 0x40, 0x44, 0x60, 0x70, 0x78] : List Nat).map
      (fun r => (r, 4, s.capWord fn r))) ++
    [(0x18, 20, s.presentCores), (0x30, 8, s.capWord fn 0x30), (0x68, 8, s.capWord fn 0x68)] ++
    (List.range 6).map (fun i => (0x48 + 4 * i, 4, capSlots i)))

/-- MTX_LAP_STATUS. -/
def State.lapStatus (s : State) (c : Nat) : Nat :=
  match s.lapOn c with
  | some (l, x) => if s.lapState c = 0 then 0 else s.lapState c + 4 * bit x.paced + 16 * (l.next % l.len)
  | none => 0

/-- A register of a core's blocks, when it shows the core's state (R72, R100, R110, R153). MTX_LAP_REPLAY shows the replay
count once every command is dispatched, 0 once no launch runs (DESIGN CHOICE, log 40: R100 names a command at dispatch). -/
def State.coreFlag (s : State) (c r : Nat) : Option Nat :=
  let k := s.core c
  match r with
  | 0x0000 => some (bit (!k.array.issued.isEmpty) + 2 * bit k.array.bank + 4 * bit (!s.coreOn c) + 8 * bit k.array.stopped)
  | 0x0050 => some (s.lapStatus c)
  | 0x0058 => some (match s.lapOn c with | some (l, x) => if x.complete then 0 else l.next / l.len | none => 0)
  | 0x0060 => some k.stream.length
  | 0x4000 => some (k.packs.length + 2 ^ 7 * k.teams.length + 2 ^ 14 * bit (k.kernel.isSome && !k.teams.isEmpty))
  | 0x4040 => some k.coach.pc
  | 0x4048 => some k.coach.loops.length
  | _ => if 0x100 ≤ r ∧ r < 0x180 then some (k.slotWord (s.reg (Reg.mtxSlotSel c) % 256) ((r - 0x100) / 4)) else none

/-- CCH_STATUS of a cluster: requests waiting at its home, hold slots in use. -/
def State.cacheStatus (s : State) (k : Nat) : Nat := (s.dir k).waiting.length + 2 ^ 9 * (s.agent k).parkedCount

/-- STR_Q_HEAD and STR_Q_TAIL of a queue; a periodic queue's period number, and OFFSET and LENGTH of its list. -/
def Queue.headWord (x : Queue) : Nat := if x.periodic then x.period % 2 ^ 32 else x.head
def Queue.tailWord (x : Queue) : Nat := if x.periodic then x.list.2 % 2 ^ 16 + 2 ^ 16 * (x.list.1 % 2 ^ 16) else x.tail

/-- Code of a queue's state in STR_Q_STATUS. -/
def QState.code : QState → Nat
  | .disabled => 0 | .running => 1 | .stopped => 2 | .draining => 3

/-- STR_Q_INFO. -/
def Queue.infoWord (x : Queue) : Nat :=
  x.inFlight + 2 ^ 6 * bit x.cur.isSome + 2 ^ 7 * bit x.skip + 2 ^ 16 * x.cur.getD 0

/-- A register of a partition window, when it shows the partition's state (R254, R280, R310, R416). -/
def State.windowFlag (s : State) (p r : Nat) : Option Nat :=
  let q := s.queue (s.reg (Reg.strQSel p))
  let mine := s.inRange p .queue (s.reg (Reg.strQSel p))
  match r with
  | 0x0050 => some (s.reg (Reg.strQStatus p) % 16 + 16 * (if mine then q.st.code else 0))
  | 0x0058 => some (if mine then q.headWord else 0)
  | 0x005C => some (if mine then q.tailWord else 0)
  | 0x0060 => some (if mine then q.infoWord else 0)
  | 0x0138 => some (s.freeing p)
  | 0x0140 => some (Tab.get 0 s.enq p)
  | 0x2010 => some (fld s.meter.ringOn p 1 + 2 * fld s.meter.ringFault p 1)
  | 0x2020 => some (s.reqs.filter (fun x => x.2.st != 0 && s.partOf .req x.1 = some p)).length
  | 0x2028 => some (nth [] s.meter.backlog p).length
  | 0x4030 => some (s.reg (Reg.dbgTrStatus p) % 8 + 8 * bit s.frozen)
  | _ => none

/-- DBG_FREEZE_STATUS. -/
def State.freezeStatus (s : State) : Nat :=
  let f := s.freeze
  bit s.frozen + 2 * bit f.reg + 4 * bit f.pin + 8 * bit f.group.isSome + 16 * bit f.masked +
    2 ^ 8 * (match f.group with | some g => g.1 % 64 | none => 0)

/-- LNK_STATE and LNK_PEER_SERIAL of a port. -/
def State.portFlag (s : State) (k r : Nat) : Option Nat :=
  let x := s.port k
  match r with
  | 0x00 => some (x.st + (match x.peer with
      | some b => 2 ^ 3 * (b.coord % 64) + 2 ^ 9 * bit b.valid
      | none => 0) + 2 ^ 10 * (x.fec % 4) + 2 ^ 12 * (min x.quars 15))
  | 0x58 => some (match x.peer with | some b => b.serial % 2 ^ 64 | none => 0)
  | 0x60 => some (match x.peer with | some b => b.serial / 2 ^ 64 % 2 ^ 64 | none => 0)
  | _ => none

/-- HIF_PTM_STATUS: VALID, SETDONE, DRIFT, NO_PTM (R430, R432). -/
def State.ptmStatus (s : State) : Nat :=
  let fresh := match s.pcie.lastDialogue with
    | some t => s.since t ≤ 2 * 1000 * s.reg Reg.hifPtmInterval
    | none => false
  let e := s.reg Reg.hifPtmErr
  bit fresh + 2 * bit s.pcie.setRun + 4 * bit (10000 < min e (2 ^ 64 - e)) + 8 * fld (s.reg Reg.hifPtmStatus) 3 1

/-- A module-wide register that shows the module's state, by BAR0 offset. -/
def State.moduleFlag (s : State) (o : Nat) : Option Nat :=
  match o with
  | 0x8040 => some s.ptmStatus
  | 0x9058 => some s.boot.start
  | 0xB008 => some s.inFlight
  | 0xC000 => some s.meter.frame
  | 0xC070 => some s.meter.awaiting
  | 0xC0A0 => some (2 ^ 40 - s.meter.hssQ)
  | 0xD000 => some (s.power.mhz + 2 ^ 16 * s.power.capState)
  | 0xE008 => some s.freezeStatus
  | 0xE010 => some s.freeze.time
  | 0xE018 => some s.freeze.id
  | 0xE090 => some (s.itrace.count % 2 ^ 32)
  | _ => none

/-- Whether the unit whose block holds BAR0 offset `o` is present: blocks of absent units read as 0 (R422). -/
def State.blockOn (s : State) (o : Nat) : Bool :=
  match blockOf o with
  | some (.core, c, _) => s.coreOn c
  | some (.cluster, k, _) => s.clusterOn k
  | some (.port, k, _) => s.portOn k
  | _ => true

/-- The live value of the register at BAR0 offset `o` as function `fn` reads it. -/
def State.liveReg (s : State) (fn o : Nat) : Nat :=
  match blockOf o with
  | some (.hifCap, _, r) => s.capWord fn r
  | some (.core, c, r) => (s.coreFlag c r).getD (s.reg o)
  | some (.cluster, k, r) => if r = 0 then s.cacheStatus k else s.reg o
  | some (.port, k, r) => (s.portFlag k r).getD (s.reg o)
  | some (.window, p, r) => (s.windowFlag p r).getD (s.reg o)
  | _ => (s.moduleFlag o).getD (s.reg o)

/-- What a read of the register returns: 0 for an absent unit, the copy of a freeze for a counter, else the live value. -/
def State.seenReg (s : State) (fn : Nat) (row : RegRow) (o : Nat) : Nat :=
  if !s.blockOn o then 0
  else match row.counts, s.freeze.copy with
    | true, some c => (Tab.get (regReset o) c o).toNat
    | _, _ => s.liveReg fn o

end Sys2Proof.Machine
end

