-- ==== Sys2Proof/Machine/Carve.lean ====
section
/-! DEFINITION. The rules over the dictionary's staged values (R220, R258, R309, R346, R363, R364), what a change of them
does (R195, R221, R258, R365) and the check of the restored configuration store (R366). -/

namespace Sys2Proof.Machine

/-! ### Idle partitions (R364) -/

/-- Whether partition `p` is idle; one with no carve-out is. -/
def State.idle (s : State) (p : Nat) : Bool :=
  (s.pClusters p = 0 && s.pUnits p = 0 && s.mapUnits p = 0) ||
  ((s.partQueues p).all (fun q => q.2.st = .disabled && q.2.inFlight = 0) &&
   s.reqs.all (fun r => r.2.st = 0 || !s.inRange p .req r.1) &&
   s.ctxs.all (fun c => c.2.st != .aborting || !s.inRange p .ctx c.1) &&
   s.mobjs.all (fun m => m.2.st != 2 || !s.inRange p .mobj m.1) &&
   s.clearing p = 0 && s.links.sent.all (fun m => m.kind ≥ 4 || m.part != p) &&
   s.links.ports.all (fun x => x.2.queue.all (fun f => f.share != p)))

/-- Entry 0x4000.01 (IDLE). -/
def State.idleMask (s : State) : Nat := bitsOf ((List.range 8).map s.idle)

/-! ### The rules (R363) -/

/-- Code of an item status STATE: the manual's table of status codes gives it no number. -/
def istatusState : Nat := Config.istatusState.toNat

/-- Item status RANGE. -/
def istatusRange : Nat := 5

/-- Whether a value keeps to an entry's stated range: CORE_MHZ_MAX is a multiple of 100, ring bases are 4 KiB aligned, a
partition ring's is a device-virtual address. -/
def inRangeOf (i sub v : Nat) : Bool :=
  match dictRow i sub with
  | none => false
  | some r =>
    r.lo ≤ v && v ≤ r.hi &&
    (if i = 0x3000 && sub = 4 then v % 100 = 0 else true) &&
    (if 0x6100 ≤ i && i < 0x6108 && sub = 1 then v % 4096 = 0 && v < 2 ^ 48 else true) &&
    (if i = 0x6000 && sub = 8 then v % 4096 = 0 else true) &&
    (if i = 0x2000 && sub = 5 then v ≤ 7 || v = 0xFF else true)

/-- The values a check looks at. -/
abbrev Values := Nat → Nat → Nat

/-- The kinds of slots with their count in the table. -/
def allKinds : List Kind := [.ctx, .queue, .mobj, .fence, .baton, .req, .handle]

/-- Subentries of 0x4100 + p whose change asks for an idle partition. -/
def carveSubs : List Nat := [1, 2, 3, 4, 6, 7, 8, 9, 0xA, 0xB, 0xC, 0xD, 0xE, 0xF, 0x10, 0x11, 0x13, 0x14]

/-- A failing entry: index, subindex and item status. -/
abbrev CheckFail := Nat × Nat × Nat

/-- Failures of partition `p`'s entries against the earlier partitions and the module (R220, R258, R346); `old` are the
values in force. -/
def State.partFails (s : State) (v old : Values) (p : Nat) : List CheckFail :=
  let i := 0x4100 + p
  let e := v i
  let earlier := (List.range p).map (fun q => v (0x4100 + q))
  let fail (sub status : Nat) (b : Bool) : List CheckFail := if b then [(i, sub, status)] else []
  let absent := (List.range 32).any (fun k => bitOf (e 1) k && !s.clusterOn k)
  let badUnit := bitOf (e 2) 0 || 2 ^ s.nUnits ≤ e 2
  let meet (sub : Nat) : Bool := earlier.any (fun q => rangesMeet (e sub) (e (sub + 1)) (q sub) (q (sub + 1)))
  fail 1 istatusRange ((e 4 != 0 || e 2 != 0) && e 1 = 0) ++
  fail 1 istatusState absent ++
  fail 1 istatusRange (earlier.any (fun q => (q 1 &&& e 1) != 0)) ++
  fail 2 istatusRange (badUnit || earlier.any (fun q => (q 2 &&& e 2) != 0)) ++
  fail 3 istatusRange (s.nUnits < e 3 + e 4 || meet 3) ++
  allKinds.flatMap (fun k => fail k.sub istatusRange (k.slots < e k.sub + e (k.sub + 1) || meet k.sub)) ++
  (if s.idle p then [] else carveSubs.flatMap (fun sub => fail sub istatusState (e sub != old i sub)))

/-- A ring's context outside the partition's range, judged only with a ring base (R309). -/
def ringFails (v : Values) (p : Nat) : List CheckFail :=
  let c := v (0x6100 + p) 3
  let f := v (0x4100 + p) 6
  if v (0x6100 + p) 1 != 0 && !(f ≤ c && c < f + v (0x4100 + p) 7) then [(0x6100 + p, 3, istatusRange)] else []

/-- Every failure of the values, one item each, in ascending index order (R363). -/
def State.checkFails (s : State) (v old : Values) : List CheckFail :=
  let range := (storedEntries.filter (fun e => !inRangeOf e.1 e.2 (v e.1 e.2))).map (fun e => (e.1, e.2, istatusRange))
  (range.filter (fun f => f.1 < 0x4100)) ++
  ((List.range 8).flatMap (fun p => s.partFails v old p ++ range.filter (fun f => f.1 = 0x4100 + p))) ++
  (range.filter (fun f => f.1 = 0x5000 || f.1 = 0x6000)) ++
  ((List.range 8).flatMap (fun p => ringFails v p ++ range.filter (fun f => f.1 = 0x6100 + p))) ++
  (range.filter (fun f => 0x7000 ≤ f.1))

/-- Failures of the shadow set. -/
def State.shadowFails (s : State) : List CheckFail := s.checkFails s.staged s.entry

/-! ### The journal (R367) and the store (R366) -/

/-- KEY_ID of a principal: the first 8 bytes of SHA-256 of its public key. -/
def State.keyId (s : State) (i : Nat) : Nat := leNat ((Crypto.sha256 (leBytes 97 (s.entry (0x2100 + i) 1))).take 8)

/-- Journal a change. -/
def State.journal (s : State) (iface key i sub old new apply : Nat) : State :=
  s.journalPut { seq := 0, iface := iface, index := i, sub := sub, type := match dictRow i sub with | some r => r.type | none => 0,
                 apply := apply, time := 0, principal := key,
                 len := match dictRow i sub with | some r => r.bytes | none => 0, old := old, new := new }

/-- A change of an active value: journaled, and the configuration store is to be written. -/
def State.change (s : State) (iface key i sub v apply : Nat) : State :=
  let s := s.journal iface key i sub (s.entry i sub) v apply
  let s := s.setEntry i sub v
  { s with dict := { s.dict with storeState := if s.dict.storeState = 2 then 2 else 1 } }

/-- Release the shadow set: staged values equal the active ones, no owner. -/
def State.releaseShadow (s : State) : State :=
  { s with dict := { s.dict with shadow := [], owner := 0, state := 0 } }

/-! ### What an APPLY does (R195, R221, R258, R365) -/

/-- The partition that holds cluster `k`, unit `u`, map unit `m`, slot `n` under some values. -/
def ownerBit (v : Values) (sub n : Nat) : Option Nat := (List.range 8).find? (fun p => bitOf (v (0x4100 + p) sub) n)
def ownerRange (v : Values) (sub n : Nat) : Option Nat :=
  (List.range 8).find? (fun p => v (0x4100 + p) sub ≤ n && n < v (0x4100 + p) sub + v (0x4100 + p) (sub + 1))

/-- Write back and drop every copy of the lines of a condition, in every cache, directory and message (R195). -/
def State.purge (s : State) (inside : Nat → Bool) : State :=
  let s := s.agents.foldl (fun s a => (a.2.accepted.filter (fun x => inside x.line)).foldl (fun s x => s.force a.1 x.line) s) s
  let s := (s.heldLines.filter inside).foldl State.dropResident (s.saveLines inside)
  { s with agents := s.agents.map (fun a => (a.1, { a.2 with lines := a.2.lines.filter (fun l => !inside l.1),
                                                              accepted := a.2.accepted.filter (fun x => !inside x.line) })),
           dirs := s.dirs.map (fun d => (d.1, { d.2 with entries := d.2.entries.filter (fun e => !inside e.1),
                                                          waiting := d.2.waiting.filter (fun r => !inside r.line) })),
           net := s.net.filter (fun m => !inside m.line) }

/-- Offsets of the registers of a block that a condition picks, over its rows. -/
def blockRegs (base : Nat) (rows : List RegRow) (pick : RegRow → Bool) : List Nat :=
  (rows.filter pick).flatMap (fun r => (List.range r.count).map (fun i => base + r.off + i * r.stride))

/-- RS counters of a partition window between two offsets. -/
def windowCounters (p lo hi : Nat) : List Nat :=
  blockRegs (0x100000 + 0x10000 * p) rowsWindow (fun r => r.access = .rs && lo ≤ r.off && r.off < hi)
/-- RS counters of a core's and of a cluster's block. -/
def coreCounters (c : Nat) : List Nat := blockRegs (0x400000 + 0x8000 * c) rowsCore (fun r => r.access = .rs)
def clusterCounters (k : Nat) : List Nat := blockRegs (0x200000 + 0x8000 * k) rowsCluster (fun r => r.access = .rs)

/-- A core that moves to another partition: caches, tile store and health slots empty (R109, R174, R195, DEDUCED, log 33). -/
def Core.moved (k : Core) : Core :=
  { k with l1 := [], l1Tree := [], icache := CoachCache.init, dcache := CoachCache.init, tile := [], health := [], coach := Coach.init, stream := [], lap := none }

/-- Free the slots that change owner. -/
def State.freeSlots (s : State) (moved : Kind → Nat → Bool) : State :=
  { s with ctxs := s.ctxs.filter (fun x => !moved .ctx x.1), queues := s.queues.filter (fun x => !moved .queue x.1),
           mobjs := s.mobjs.filter (fun x => !moved .mobj x.1), fences := s.fences.filter (fun x => !moved .fence x.1),
           batons := s.batons.filter (fun x => !moved .baton x.1), reqs := s.reqs.filter (fun x => !moved .req x.1),
           links := { s.links with handles := s.links.handles.filter (fun x => !moved .handle x.1) } }

/-- The registers an APPLY resets: counters of partitions, clusters and cores whose share changes. -/
def State.applyCounters (s : State) (old new : Values) : State :=
  let differs (p : Nat) (subs : List Nat) : Bool := subs.any (fun k => old (0x4100 + p) k != new (0x4100 + p) k)
  let part (p : Nat) : List Nat :=
    (if differs p [1, 2, 3, 4] then windowCounters p 0x1000 0x2000 else []) ++
    (if differs p [8, 9] then windowCounters p 0 0x100 else []) ++
    (if differs p [6, 7, 8, 9, 0xA, 0xB, 0xC, 0xD, 0xE, 0xF, 0x10, 0x11] then windowCounters p 0x100 0x1000 else []) ++
    (if differs p [0x13, 0x14] then windowCounters p 0x3000 0x4000 else []) ++
    (if differs p [1] then windowCounters p 0x4000 0x5000 else [])
  let clusters := (List.range 20).filter (fun k => ownerBit old 1 k != ownerBit new 1 k)
  s.resetRegs ((List.range 8).flatMap part ++ clusters.flatMap clusterCounters ++
    clusters.flatMap (fun k => (List.range 8).flatMap (fun c => coreCounters (8 * k + c))))

/-- Entries of map units that change owner are written with V = 0, and translations through them are gone (R215, R221). -/
def State.moveMaps (s : State) (old new : Values) : State :=
  let moved (m : Nat) : Bool := ownerRange old 3 m != ownerRange new 3 m
  let lost := (List.range 8).filter (fun p => [1, 2, 3, 4].any (fun k => old (0x4100 + p) k != new (0x4100 + p) k))
  { s with pmap := { s.pmap with entries := s.pmap.entries.filter (fun e => !moved (e.1 / 32768)),
                                 tlb := s.pmap.tlb.filter (fun t => !lost.contains t.2.1) } }

/-- PORT_ENABLE: a port whose bit is cleared goes down DISABLED, one whose bit is set may train (R345, R347). -/
def State.enablePorts (s : State) (old new : Nat) : State :=
  (List.range 16).foldl (fun s k =>
    if bitOf old k && !bitOf new k then s.linkDown k PortSt.disabled
    else if !bitOf old k && bitOf new k && (s.port k).st = PortSt.disabled then s.linkDown k PortSt.down
    else s) s

/-- The effects of new values in force in place of `old`; the entries have their new values already. -/
def State.applied (s before : State) : State :=
  let old := before.entry
  let new := s.entry
  let slices := (List.range 20).filter (fun k => ownerBit old 1 k != ownerBit new 1 k)
  let units := (List.range s.nUnits).filter (fun u => ownerBit old 2 u != ownerBit new 2 u)
  let parts := (List.range 8).filter (fun p => [1, 2].any (fun k => old (0x4100 + p) k != new (0x4100 + p) k))
  let inside (line : Nat) : Bool := match ownerBit old 2 (line / 2 ^ 23) with
    | some p => parts.contains p
    | none => (ownerBit new 2 (line / 2 ^ 23)).isSome && units.contains (line / 2 ^ 23)
  let purged := before.purge inside
  let s := { s with agents := purged.agents, dirs := purged.dirs, net := purged.net, dram := purged.dram,
                    rstore := purged.rstore }
  let s := slices.foldl (fun s k => (List.range 8).foldl (fun s i =>
    s.setCore (8 * k + i) (s.core (8 * k + i)).moved) s) s
  let s := { s with pmap := { s.pmap with
    clearSlices := s.pmap.clearSlices ++ slices.filter (fun k => s.clusterOn k && !s.pmap.clearSlices.contains k)
    clearUnits := s.pmap.clearUnits ++ units.filter (fun u => !s.pmap.clearUnits.contains u) } }
  let s := (s.moveMaps old new).freeSlots (fun k n => ownerRange old k.sub n != ownerRange new k.sub n)
  (s.applyCounters old new).enablePorts (old 0x5000 3) (new 0x5000 3)

/-- Every RW-S entry whose staged value differs, ascending. -/
def State.stagedChanges (s : State) : List (Nat × Nat × Nat) :=
  (storedEntries.filter (fun e => s.staged e.1 e.2 != s.entry e.1 e.2)).map (fun e => (e.1, e.2, s.staged e.1 e.2))

/-- Commit the shadow set at one instant: APPLY_COUNT advances, each changed entry is journaled (R365 step 4, R367). -/
def State.commit (s : State) : State :=
  let n := (s.dict.applyCount + 1) % 2 ^ 32
  let iface := bit (s.dict.applySrc = 0xFFFF)
  let t := { s with dict := { s.dict with applyCount := n } }
  let t := s.stagedChanges.foldl (fun t c => t.change iface s.dict.applyKey c.1 c.2.1 c.2.2 n) t
  t.releaseShadow.applied s

/-! ### The check of the restored store (R366) -/

/-- Every entry of an index takes its default, journaled with interface 2. -/
def State.restoreIndex (s : State) (i : Nat) : State :=
  (storedEntries.filter (fun e => e.1 = i && s.entry e.1 e.2 != s.dflt e.1 e.2)).foldl
    (fun s e => s.change 2 0 e.1 e.2 (s.dflt e.1 e.2) 0) s

/-- Indices reset until the check passes; each round resets the lowest failing index. -/
def State.restoreFails (s : State) : Nat → State × List Nat
  | 0 => (s, [])
  | fuel + 1 =>
    match s.checkFails s.entry s.entry with
    | [] => (s, [])
    | f :: _ =>
      let r := State.restoreFails (s.restoreIndex f.1) fuel
      (r.1, f.1 :: r.2)

/-- Check the store against the capability table: failing indices take their defaults, with a record in each partition's
ring and alarm CONFIG_STORE. -/
def State.checkStore (s : State) : State :=
  let r := s.restoreFails 64
  let parts := r.2.filter (fun i => (0x4100 ≤ i && i < 0x4108) || (0x6100 ≤ i && i < 0x6108))
  if r.2.isEmpty then s
  else
    let t := parts.foldl (fun t i => t.partRec (i % 8) 0x15 [i]) (r.1.applied s)
    let low := match parts.map (· % 8) with
      | [] => 0xFF
      | l => (List.range 8).find? (fun p => l.contains p) |>.getD 0xFF
    { t with boot := { t.boot with configReset := true } }.alarm 20 low false

end Sys2Proof.Machine
end

