-- ==== Sys2Proof/Machine/Pdu.lean ====
section
/-! DEFINITION. Answers to Ralxon requests: over the segment a PDU leaves the module, through the mailbox the PDU stands in
HIF_MBX_RSP (R350 to R353, R376). -/

namespace Sys2Proof.Machine

/-- Status codes (R353). -/
def DSt.ok := 0
def DSt.busy := 1
def DSt.noEntry := 2
def DSt.access := 3
def DSt.type := 4
def DSt.range := 5
def DSt.auth := 6
def DSt.locked := 7
def DSt.notChecked := 8
def DSt.checkFailed := 9
def DSt.applyFailed := 10
def DSt.badPdu := 11
def DSt.seq := 12
def DSt.tooBig := 13
def DSt.part := 14
def DSt.applyPending := 15

/-- Operations (R353). -/
def Op.read := 0x01
def Op.write := 0x02
def Op.check := 0x03
def Op.apply := 0x04
def Op.discard := 0x05
def Op.journal := 0x06
def Op.hello := 0x10
def Op.auth := 0x11
def Op.close := 0x12

/-- Longest PDU of a source: 4,096 B for the mailbox, else an Ethernet payload less the tag of a session (R349, R350). -/
def pduLimit : Source → Nat
  | .mailbox => 4096
  | .session _ _ _ _ => 1500 - 16
  | .segment _ _ _ => 1500

/-- A response stands in the mailbox: BUSY clears, DONE is set, the vector is raised if enabled (R376). -/
def State.mailboxAnswer (s : State) (op status retry : Nat) (items : List (Item × Nat)) : State :=
  let bytes := pduBytes op 1 status 0 s.mbxSeq retry items
  let s := { s with mbxRsp := Mem.write s.mbxRsp 0 bytes }
  let s := s.setReg Reg.hifMbxStatus (2 + 4 * bytes.length)
  let irq := s.reg Reg.hifMbxIrq
  if bitOf irq 15 then s.raise 0 (fld irq 0 11) else s

/-- Answer a request: in the mailbox; in a frame to the node that sent it; within a session with its number and tag (R351,
R359). -/
def State.respond (s : State) (src : Source) (op status retry : Nat) (items : List (Item × Nat)) : State :=
  match src with
  | .mailbox => s.mailboxAnswer op status retry items
  | .segment _ mac seq => s.emit (.frame mac (framed (pduBytes op 1 status 0 seq retry items)))
  | .session _ n seq _ =>
    match s.dict.sessions.look n with
    | some k => s.emit (k.frame (pduBytes op 1 status n seq retry items))
    | none => s

/-- The item that names a failing entry. -/
def failItem (f : CheckFail) : Item × Nat := ({ index := f.1, sub := f.2.1, type := 0, data := [] }, f.2.2)

/-- Answer with failing items, or TOO_BIG where they do not fit (R353). -/
def State.respondFails (s : State) (src : Source) (op status : Nat) (fails : List CheckFail) : State :=
  let items := fails.map failItem
  if pduLimit src < 24 + itemsLen items then s.respond src op DSt.tooBig 0 [] else s.respond src op status 0 items

/-- Answer the APPLY that is pending, to its source if that is still there (R365, R374). -/
def State.answerApply (s : State) (status : Nat) (fails : List CheckFail) : State :=
  let n := s.dict.applySrc
  if n = 0xFFFF then s.respondFails .mailbox Op.apply status fails
  else match s.dict.sessions.look n with
    | some k => if k.opened then s.respondFails (.session ⟨.own, none⟩ n s.dict.applySeq true) Op.apply status fails else s
    | none => s

/-- A pending APPLY fails: SHADOW_STATE returns to DIRTY, the shadow set and its owner stay (R365, R374). -/
def State.failApply (s : State) (fails : List CheckFail) : State :=
  if s.dict.state = 3 then
    State.answerApply { s with dict := { s.dict with state := 1 } } DSt.applyFailed fails
  else s

/-- Whether the session that sent the pending APPLY has closed. -/
def State.applicantGone (s : State) : Bool :=
  s.dict.applySrc != 0xFFFF && (s.dict.sessions.look s.dict.applySrc).isNone

/-- The pending APPLY at its frame boundary: checked again, and committed whole or not at all. -/
def State.applyBoundary (s : State) : State :=
  match s.shadowFails with
  | [] => s.commit.answerApply DSt.ok []
  | fails =>
    let t := s.failApply fails
    if s.applicantGone then t.releaseShadow else t

end Sys2Proof.Machine
end

