-- ==== Sys2Proof/Machine/Boot.lean ====
section
/-! DEFINITION. Power-up, module reset and power-down (R377 to R390, R398, R413, R434 to R436, R444, R448), the power cap,
droop and thermal control (R370 to R373), and the fatal causes of supply, heat and marshal (R395). -/

namespace Sys2Proof.Machine

/-! ### START_STATE (R377) -/

/-- Codes of START_STATE. -/
def Start.rom := 0x01
def Start.memory := 0x04
def Start.ready := 0x07
def Start.resetting := 0x08
def Start.fatal := 0x09
def Start.poweringDown := 0x0A
def Start.noFirmware := 0x81
def Start.railFault := 0x82
def Start.trainFail := 0x83
def Start.unitFail := 0x84
def Start.overTemp := 0x85

/-! ### Self-test and the capability table (R384, R385) -/

/-- Cores a self-test finds absent: those that fail and those of failed clusters. -/
def absentCores (t : SelfTest) (n : Nat) : List Nat :=
  (List.range n).filter (fun c => bitOf t.cores c || bitOf t.clusters (c / 8))

/-- The table written by a self-test: every unit in the numbering but the fused clusters and those that failed. -/
def State.presence (s : State) (t : SelfTest) : Units :=
  { s.units with
    clusters := bitsOf ((List.range s.nClusters).map (fun k => !s.fusedOff.contains k && !bitOf t.clusters k))
    cores := bitsOf ((List.range s.nCores).map (fun c => !bitOf t.cores c))
    ports := bitsOf ((List.range s.nPorts).map (fun k => !bitOf t.ports k))
    capGen := 0 }

/-- Whether the self-test stops start-up: another unit failed, or a die has no present cluster. -/
def State.unitFail (s : State) (t : SelfTest) : Bool :=
  let u := (s.presence t).clusters
  t.other || u % 2 ^ 10 = 0 || (!s.oneDie && u / 2 ^ 10 = 0)

/-- Run the self-test: presence, the alarm of each core newly found absent, the instruction trace of the run. -/
def State.selfTest (s : State) (t : SelfTest) : State :=
  let before := absentCores s.boot.selftest s.nCores
  let found := absentCores t s.nCores
  let run : ITrace := { seed := s.freeCtr + 1, count := s.freeVal 32, copy := none }
  let s := { s with units := s.presence t, boot := { s.boot with selftest := t }, itrace := run,
                    freeCtr := s.freeCtr + 1 + 8 * 1048576 }
  let s := if found.isEmpty then s.alarmOff 1 else s
  (found.filter (fun c => !before.contains c)).foldl (fun s c => s.alarm 1 c true) s

/-! ### Module reset (R386, R387) -/

/-- Offsets of module-wide registers that a module reset returns to their reset values: those of the caches and of the
Starter, and the count of fatal causes; CCH_CHAN_HOT shows the channels as they are (DEDUCED, log 50). -/
def resetWide : List Nat :=
  (blockRegs 0xA000 rowsCch (fun r => r.off != 0x300)) ++ (blockRegs 0xB000 rowsStr (fun _ => true)) ++ [Reg.hifFltFatalCnt]

/-- Whether a register keeps its value over a module reset: the module-wide ones but those above, and the metering
registers of the partition windows (R306, R310). -/
def keepsOver (o : Nat) : Bool :=
  match blockOf o with
  | some (.window, _, r) => 0x2000 ≤ r && r < 0x3000
  | some (.core, _, _) | some (.cluster, _, _) | some (.port, _, _) | some (.group, _, _) => false
  | _ => !resetWide.contains o

/-- A port after a reset: DOWN, or DISABLED where PORT_ENABLE says so, its cable as it is. -/
def State.resetPort (s : State) (k : Nat) : Port :=
  { Port.init with mated := (s.port k).mated, since := s.time,
                   st := if bitOf (s.entry 0x5000 3) k then PortSt.down else PortSt.disabled }

/-- Zero the 512 B block of a bad word. -/
def zeroBlock (m : Mem) (pa : Nat) : Mem := Mem.zero m (pa / 512 * 512) 512

/-- Empty caches and directories, each LFSR with a seed drawn for this reset or power-up (R178, R184). -/
def State.seeded (s : State) : State :=
  let e := 128 * s.epoch
  { s with agents := (List.range 21).map (fun k => (k, { Agent.init k with lfsr := seedOf (e + k) })),
           dirs := (List.range 20).map (fun k => (k, { Dir.init k with lfsr := seedOf (e + 32 + k) })) }

/-- Step 3: the cores, caches, Starter and Cartal ports are reset (R387). -/
def State.resetUnits (s : State) : State :=
  let s := s.seeded
  let links := { Links.init with ports := (List.range 16).map (fun k => (k, s.resetPort k)),
                                 reachedAt := [(64, s.time)] }
  { s with
    regs := s.regs.filter (fun p => keepsOver p.1)
    busy := []
    rstore := s.pmap.badWords.foldl zeroBlock s.rstore
    pmap := { s.pmap with entries := [], tlb := [] }
    net := [], cores := [], launches := [], queues := [], enq := [], ctxs := [], mobjs := [], fences := []
    batons := [], reqs := [], links := links, rings := [], traces := [] }

/-- Steps 4 to 6: self-test, the links train again, the carve-outs are checked, READY. -/
def State.resetEnd (s : State) : State :=
  let t := s.boot.test
  let s := s.selfTest t
  let s := { s with boot := { s.boot with resetStep := 0, cool := false, fatal := 0, recovered := true },
                    meter := { s.meter with stopped := 0 } }
  let s := s.alarmOff 0
  if s.unitFail t then { s with boot := { s.boot with start := Start.unitFail } }
  else
    let s := (s.failApply []).checkStore
    { s with boot := { s.boot with start := Start.ready }, links := { s.links with reachedAt := [(64, s.time)], anchor := s.pcie.link } }

/-- Whether a reset waits for the dies to cool: until every die reads at most THERM_LIMIT − 10 °C (R388). -/
def State.hot (s : State) : Bool := s.boot.cool && ((s.entry 0x3000 6 : Int) - 10) * 16 < s.power.tempMax

/-- Go on with a reset: step 2 waits until the block of the closed requests is signed (R306), step 3 until RESET_N is high
and the dies have cooled. -/
def State.resetGo (s : State) : State :=
  if s.boot.start ≠ Start.resetting || s.boot.off then s
  else
    let s := if s.boot.resetStep = 2 && s.meter.awaiting = 0 then
        let t := s.resetUnits
        { t with boot := { t.boot with resetStep := 3 } }
      else s
    if s.boot.resetStep = 3 && !s.boot.resetNLow && !s.hot then s.resetEnd else s

/-- Whether a module reset may start (R388). -/
def State.mayReset (s : State) : Bool :=
  !s.boot.off && !([1, 2, Start.noFirmware, Start.railFault, Start.poweringDown].contains s.boot.start)

/-- The stop of step 1: all work is discarded, every queue DISABLED, a freeze ends, a pending APPLY fails (R374, R417). What has
been performed stays: lines dirty in a cache go to memory (R168, R387). -/
def State.resetStop (s : State) : State :=
  let s := s.saveLines (fun _ => true)
  let s := (State.freezeCheck { s with freeze := { s.freeze with reg := false, pin := false, group := none } })
  let s := { s with freeze := { s.freeze with id := 0, time := 0 } }
  ({ s.discardWork with queues := [] }.failApply []).abortRequests

/-- Start a module reset. -/
def State.moduleReset (s : State) (t : SelfTest) : State :=
  if !s.mayReset then s
  else if s.boot.start = Start.resetting then State.resetGo { s with boot := { s.boot with test := t } }
  else
    let cool := s.boot.fatal = 7 || s.boot.fatal = 8 || s.boot.start = Start.overTemp
    let s := (s.count32 Reg.hifResets 1).resetStop
    State.resetGo { s with boot := { s.boot with start := Start.resetting, resetStep := 2, test := t, cool := cool } }

/-- What a write of HIF_RESET does. -/
def State.hifResetWrite (s : State) (v : Nat) (t : SelfTest) : State := if bitOf v 0 then s.moduleReset t else s

/-- HIF_RESET. -/
def execHifReset (fn value : Nat) (test : SelfTest) (s : State) : Res :=
  s.byFn fn (fn = 0) (fun s => s.hifResetWrite value test)

/-- RESET_N low for `ns`: below 100 ns not registered, below 10 µs counted, else a module reset, and the pin stays low
until its release (R413, R443). -/
def execResetN (ns : Nat) (test : SelfTest) (s : State) : Res :=
  .next (if ns < 100 then s
    else if ns < 10000 then (if s.boot.off then s else s.count Reg.dbgResetGlitch 1)
    else State.moduleReset { s with boot := { s.boot with resetNLow := true } } test)

/-! ### Power-up (R377, R390, R435) -/

/-- What start-up begins with: module flash, pins and cables, the free values and identifiers drawn. A start-up after
recovery mode is no power-up of its own (R379). -/
def State.fromFlash (s : State) : State :=
  let r := State.reset
  let m := s.meter
  State.seeded { r with
    units := { s.units with capGen := 0 }
    boot := { r.boot with slotA := s.boot.slotA, slotB := s.boot.slotB, running := s.boot.running, svnMin := s.boot.svnMin,
                          resetNLow := s.boot.resetNLow, hpClk := s.boot.hpClk, lkClk := s.boot.lkClk }
    freeze := { r.freeze with high := s.freeze.high }
    dict := { r.dict with active := s.dict.store, store := s.dict.store, applyCount := s.dict.applyCount }
    power := r.power
    meter := { Meter.init with boot := if s.boot.start = Start.rom then m.boot else (m.boot + 1) % 2 ^ 32, hssQ := m.hssEnd, hssEnd := m.hssEnd, identQ := m.identEnd, identEnd := m.identEnd, hssPending := true, identPending := true }
    links := { r.links with ports := (List.range 16).map (fun k => (k, { Port.init with mated := (s.port k).mated })) }
    fatal := s.fatal, nextId := s.nextId, freeCtr := s.freeCtr, out := s.out, pending := s.pending }

/-- Step 2 has not run: no reservation is due (R301, R377). -/
def State.unreserved (s before : State) : State :=
  let m := before.meter
  { s with meter := { s.meter with hssQ := m.hssQ, hssEnd := m.hssEnd, identQ := m.identQ, identEnd := m.identEnd,
                                   hssPending := false, identPending := false } }

/-- The slot the ROM boots: the accepted one of higher VERSION, slot A on equal VERSION (R378). -/
def bootSlot : Option (Nat × Nat) → Option (Nat × Nat) → Option Nat
  | some a, some b => some (if a.1 < b.1 then 1 else 0)
  | some _, none => some 0
  | none, some _ => some 1
  | none, none => none

/-- Steps 5 to 7 of start-up: self-test, links, the check of the store, release. -/
def State.startEnd (s : State) : State :=
  let t := s.boot.test
  let s := s.selfTest t
  if s.unitFail t then { s with boot := { s.boot with start := Start.unitFail } }
  else
    let s := s.checkStore
    { s with boot := { s.boot with start := Start.ready }, links := { s.links with reachedAt := [(64, s.time)], anchor := s.pcie.link } }

/-- Start-up from step 1, with what each step finds; RESET_N low holds it before step 5 (R413). -/
def State.startUp (s : State) (r : PowerUpResult) : State :=
  let before := s
  let s := { s.fromFlash with time := r.ns }
  let s := { s with boot := { s.boot with slotA := r.slotA, slotB := r.slotB, test := r.test, calDefault := !r.calOk },
                    meter := { s.meter with calOk := r.calOk } }
  let stop (c : Nat) : State := { s with boot := { s.boot with start := c } }
  match bootSlot r.slotA r.slotB with
  | none => (stop Start.noFirmware).unreserved before
  | some k =>
    let s := { s with boot := { s.boot with running := k } }
    let s := if r.calOk then s else s.alarm 10 1 true
    let s := s.reserve r.reserved
    let stop (c : Nat) : State := { s with boot := { s.boot with start := c } }
    if !r.railsOk then stop Start.railFault
    else if !r.trainOk then stop Start.trainFail
    else if r.overTemp then stop Start.overTemp
    else if s.boot.resetNLow then stop Start.memory
    else s.startEnd

/-- Whether step 1 may begin: the module is off and the input has been away since (R435), or recovery mode has ended. -/
def State.mayBoot (s : State) : Bool := (s.boot.off && s.boot.armed) || (s.boot.start = Start.rom && !s.boot.off)

/-- POWER_UP. -/
def execPowerUp (result : PowerUpResult) (s : State) : Res := guarded s.mayBoot s (s.startUp result)

/-- The failure state of a step's overrun: steps 2 and 6 go on, step 7 names none (R377). -/
def overrunState : Nat → Option Nat
  | 1 => some Start.noFirmware | 3 => some Start.railFault | 4 => some Start.trainFail | 5 => some Start.unitFail
  | _ => none

/-- STARTUP_STEP_TIMEOUT: the start-up that begins stops in the failure state of the step that overran; how long the steps
before it took is a free value. -/
def execStartupStepTimeout (step : Nat) (s : State) : Res :=
  match overrunState step with
  | none => .next s
  | some c =>
    let t := { s.fromFlash with time := s.freeVal 64, freeCtr := s.freeCtr + 1 }
    let t := if step = 1 then t.unreserved s else t.reserve true
    guarded s.mayBoot s { t with boot := { t.boot with start := c } }

/-- RESET_N_RELEASE: a held reset passes its step 3, a held start-up goes on with step 5. -/
def execResetNRelease (s : State) : Res :=
  let s := { s with boot := { s.boot with resetNLow := false } }
  .next (if s.boot.start = Start.memory && !s.boot.off then s.startEnd else s.resetGo)

/-! ### Power-down (R389, R435, R436, R448) -/

/-- Steps 3 and 4: every packet still running ends ABORTED with its record, store queues drain, every dirty line is written
back, host writes go out. -/
def State.endAll (s : State) : State :=
  let s := s.queues.foldl (fun s q => s.abortQueue q.1) s
  let s := (List.range 160).foldl (fun s c => ((s.drainCoach c).l1WriteAll c).1) s
  let s := s.purge (fun _ => true)
  let s := s.queues.foldl (fun s q => (q.2.packets.filter (fun p => p.2.st = .started)).foldl (fun s p =>
    match (s.queue q.1).packets.look p.1 with
    | some x =>
      if x.st ≠ .started then s
      else if pOpcode x.raw = 0x20 || pOpcode x.raw = 0x21 then (s.dmaFinish q.1 p.1 x).1
      else s.completePacket q.1 p.1 (if x.status = 0 then Stat.aborted else x.status)
    | none => s) s) s
  ((s.purge (fun _ => true)).discardWork).flushHost

/-- Deliver the entries of a ring while it is on and has room. -/
def State.deliver (s : State) (r : Nat) : Nat → State
  | 0 => s
  | n + 1 => State.deliver (s.ringStep r) r n

/-- Every entry of every configured ring is delivered. -/
def State.delivered (s : State) : Bool := (List.range 9).all (fun r => s.ringBase r = 0 || (nth [] s.meter.backlog r).isEmpty)

/-- Step 6: the links and the PCIe link go down, the rails are removed. -/
def State.powerOff (s : State) : State :=
  { s with boot := { s.boot with off := true, armed := false, pdStep := 6 }, pcie := { s.pcie with link := false },
           links := { s.links with ports := s.links.ports.map (fun p => (p.1, { p.2 with st := PortSt.down, peer := none })) } }

/-- Go on with a power-down: step 2 lasts while packets run and grace is left, step 5 until every receipt is signed and
delivered and the reservations and the configuration are written to flash (R168, R306, R389); a write of the configuration that
failed once is not waited for (DESIGN CHOICE, log 85). -/
def State.pdGo (s : State) : State :=
  if s.boot.start ≠ Start.poweringDown || s.boot.off then s
  else
    let exceeded := s.inFlight = 0 || s.boot.pdGrace * 1000000 ≤ s.since s.boot.pdSince
    let s := if s.boot.pdStep = 2 && exceeded then
        let t := s.endAll.abortRequests
        { t with boot := { t.boot with pdStep := 5 } }
      else s
    if s.boot.pdStep = 5 && s.meter.awaiting = 0 then
      let s := (List.range 9).foldl (fun s r => s.deliver r (nth [] s.meter.backlog r).length) s
      if s.delivered && !s.meter.reserving && s.dict.storeState ≠ 1 then s.powerOff else s
    else s

/-- Begin a power-down with a grace in ms; work that a fault or a reset has stopped already has none left to end. -/
def State.powerDown (s : State) (grace : Nat) (fail : Bool) : State :=
  if s.boot.off then s
  else
    let mhz := if fail then 700 else s.power.mhz
    let s := { s with power := { s.power with mhz := mhz } }
    if s.boot.start = Start.poweringDown then
      if fail then State.pdGo { s with boot := { s.boot with pdGrace := 0, pdFail := true } } else s
    else
      let working := s.boot.start = Start.ready
      let t := if working then s else s.abortRequests
      State.pdGo { t with boot := { t.boot with start := Start.poweringDown, pdStep := if working then 2 else 5,
                                                pdSince := s.time, pdGrace := grace, pdFail := fail, resetStep := 0 } }

/-- POWER_DOWN_GRACE_EXPIRY: the grace has run out, or every started packet has completed. -/
def execPowerDownGraceExpiry (dt : Nat) (s : State) : Res := .next (s.tick dt).pdGo

/-- INPUT_UNDERVOLTAGE: below 57 V for 1 ms. -/
def execInputUndervoltage (dt : Nat) (s : State) : Res :=
  let t := s.tick dt
  guarded (1000000 ≤ dt) t (t.powerDown 0 true)

/-- INPUT_OVERVOLTAGE: above 84 V for 50 µs. -/
def execInputOvervoltage (us : Nat) (s : State) : Res :=
  let t := s.tick (us * 1000)
  guarded (50 ≤ us) t (t.powerDown 0 true)

/-- INPUT_VOLTAGE_MARGINAL: the input's mean voltage over the frame enters or leaves the bands next to its operating
range. -/
def execInputVoltageMarginal (mv : Nat) (s : State) : Res :=
  let band := (57000 ≤ mv && mv < 60000) || (78000 < mv && mv ≤ 84000)
  let good := 60000 ≤ mv && mv ≤ 78000
  let t := { s with boot := { s.boot with margin := band } }
  guarded (!s.boot.off) s
    (if band && !s.boot.margin then t.alarm 22 mv true
     else if good && s.boot.margin then t.alarmOff 22
     else s)

/-- INPUT_REMOVED: below 20 V for 100 ms; whatever ran is lost, and a restart is armed. -/
def execInputRemoved (dt : Nat) (s : State) : Res :=
  let t := s.tick dt
  let u := if t.boot.off then t else t.powerOff
  guarded (100000000 ≤ dt) t { u with boot := { u.boot with armed := true, start := Start.poweringDown } }

/-- LEDGER_BLOCK: a hundred frames have ended, and an HSS index is available; a reset or a power-down that waits for the
block goes on. -/
def execLedgerBlock (s : State) : Res := powered s <| .next s.ledgerBlock.resetGo.pdGo

/-- FRAME_END: at a boundary of the metering time base, while the module has power; a pending APPLY takes effect in this
instant, before the next frame begins its work (R286, R290, R307, R365). -/
def execFrameEnd (rec : FrameRecord) (s : State) : Res :=
  guarded (!s.boot.off) s
    (let t := s.frameEnd rec
     if t.dict.state = 3 then t.applyBoundary else t)

/-- HSS_RESERVATION_WRITE: a reservation is due; a power-down that waits for it goes on. -/
def execHssReservationWrite (ok : Bool) (s : State) : Res := powered s <|
  guarded (s.meter.reserving && !s.meter.hssFailed) s (s.reserve ok).pdGo

/-- HSS_RESERVATION_RETRY: a failed write is retried after 10 ms. -/
def execHssReservationRetry (ok : Bool) (dt : Nat) (s : State) : Res := powered s <|
  guarded (s.meter.reserving && s.meter.hssFailed && 10000000 ≤ dt) (s.tick dt) ((s.tick dt).reserve ok).pdGo

/-- RECEIPT_RING_WRITE: a waiting entry goes into its ring; a power-down that waits for the delivery goes on. -/
def execReceiptRingWrite (ring : Nat) (s : State) : Res := onUnit (ring ≤ 8) <| .next (s.ringStep ring).pdGo

/-! ### Power cap and droop (R370, R371) -/

/-- The ceiling of the core and cluster clock: CORE_MHZ_MAX less the thermal reduction, not below the floor; the floor once
a power-fail start has begun (R436, R448). -/
def State.ceiling (s : State) : Nat :=
  if s.boot.start = Start.poweringDown && s.boot.pdFail then 700
  else max 700 (s.entry 0x3000 4 - 100 * s.power.thermDrop)

/-- One tick of the power cap: mean inlet powers in mW. -/
def State.capTick (s : State) (p100 p10m : Nat) : State :=
  let w := s.power
  let peak := s.entry 0x3000 2 * 1000
  let sus := s.entry 0x3000 1 * 1000
  let ceil := s.ceiling
  let atPeak := 95 * peak < 100 * p100
  let exceeded := if atPeak then w.overNs else if sus < p100 then w.overNs + 10000 else 0
  let m := if atPeak then max (w.mhz - 400) 700
           else if sus < p100 && (s.entry 0x3000 3 - 200) * 1000 ≤ exceeded then max (w.mhz - 100) 700 else w.mhz
  let slow := sus < p10m && 100000 ≤ s.since w.lastDown
  let m := if slow then max (m - 100) 700 else m
  let rise := 100 * p100 < 95 * sus && 100 * p10m < 98 * sus && 1000000 ≤ s.since w.lastChange
  let m := min (if rise then m + 100 else m) ceil
  let limiting := m < ceil
  let floorHit := m = 700 && sus < p100
  let cap := bit (sus < p100 || sus < p10m) + 2 * bit atPeak + 4 * bit (w.thermDrop != 0) + 8 * bit (m = 700)
  let s := { s with power := { w with mhz := m, overNs := exceeded, lastDown := if slow then s.time else w.lastDown,
                                      lastChange := if m = w.mhz then w.lastChange else s.time, capState := cap,
                                      limitSince := if limiting then w.limitSince else s.time } }
  let s := (s.setReg Reg.pwrP100 (p100 % 2 ^ 32)).count Reg.pwrLimitNs (if limiting then 10000 else 0)
  let s := s.count Reg.pwrThermNs (if w.thermDrop = 0 then 0 else 10000)
  let s := if !floorHit then s.alarmOff 15
           else if bitOf s.dict.alarmActive 15 then s else s.alarm 15 (p100 / 1000) true
  if !limiting then s.alarmOff 14
  else if 1000000000 ≤ s.since s.power.limitSince && !bitOf s.dict.alarmActive 14 then s.alarm 14 (sus / 1000) true
  else s

/-- POWER_CAP_TICK: every 10 µs. -/
def execPowerCapTick (p100 p10m : Nat) (s : State) : Res :=
  let t := s.tick 10000
  guarded (!s.boot.off) t (t.capTick p100 p10m)

/-- Key of an island. -/
def islandKey (kind island : Nat) : Nat := 1024 * kind + island % 1024

/-- DROOP_DETECT: the event is counted by island kind; stretching changes no result. -/
def execDroopDetect (kind island : Nat) (s : State) : Res :=
  onUnit (kind < 6) <|
    let k := islandKey kind island
    guarded (!s.boot.off && !s.power.droop.contains k) s
      ({ s with power := { s.power with droop := s.power.droop ++ [k] } }.count (Reg.pwrDroopEvt kind) 1)

/-- DROOP_RECOVER: the full clock is back after `ns` of stretching; alarm DROOP once an island has been stretched in more
than 1% of a frame. -/
def execDroopRecover (kind island ns : Nat) (s : State) : Res := powered s <|
  onUnit (kind < 6) <|
    let k := islandKey kind island
    let t := s.tick ns
    let w := t.power
    let l := if w.stretchFrame = t.meter.frame then w.stretch else []
    let before := Tab.get 0 l k
    let u := { t with power := { w with droop := w.droop.filter (· ≠ k), stretch := Tab.set 0 l k (before + ns),
                                        stretchFrame := t.meter.frame } }
    let u := u.count (Reg.pwrStretchNs kind) ns
    guarded (w.droop.contains k) t (if before ≤ 10000 && 10000 < before + ns then u.alarm 17 kind false else u)

/-! ### Heat and the other fatal causes (R372, R395) -/

/-- THERMAL_TICK: the ceiling falls by a step each 1 ms at THERM_LIMIT, and rises by one each 10 ms at 3 °C below; a reset
that waits for the dies to cool may go on. Temperatures in 1/16 °C. -/
def State.thermalTick (s : State) (hottest : Int) : State :=
  let w := s.power
  let limit : Int := (s.entry 0x3000 6 : Nat)
  let fall := limit * 16 ≤ hottest && 1000000 ≤ s.since w.lastTherm && w.thermDrop < 14
  let rise := hottest ≤ (limit - 3) * 16 && 10000000 ≤ s.since w.lastTherm && w.thermDrop ≠ 0
  let drop := if fall then w.thermDrop + 1 else if rise then w.thermDrop - 1 else w.thermDrop
  let s := { s with power := { w with tempMax := hottest, thermDrop := drop,
                                      lastTherm := if fall || rise then s.time else w.lastTherm } }
  let s := { s with power := { s.power with mhz := min s.power.mhz s.ceiling } }
  let s := s.setReg Reg.pwrTempMax (wrapInt 16 hottest)
  let s := if drop = 0 then s.alarmOff 16
           else if bitOf s.dict.alarmActive 16 then s else s.alarm 16 (wrapInt 64 (hottest / 16)) true
  s.resetGo

/-- THERMAL_TICK. -/
def execThermalTick (hottest : Int) (dt : Nat) (s : State) : Res :=
  let t := s.tick dt
  guarded (!s.boot.off) t (t.thermalTick hottest)

/-- A module-fatal cause of the supply, heat or marshal: from the release on; a start-up failure state stays. -/
def State.fatalCause (s : State) (i : FatalInfo) : State :=
  if Start.ready ≤ s.boot.start && s.boot.start ≤ Start.poweringDown && !s.boot.off then
    let t := s.fatalStop i
    if t.boot.start = Start.poweringDown then
      if s.boot.pdStep ≤ 2 then State.pdGo { t.abortRequests with boot := { t.boot with pdStep := 5 } } else t
    else t
  else s

/-- THERMAL_TRIP: a sensor (die × 32 + sensor) reads 115 °C; during start-up OVERTEMP. -/
def execThermalTrip (sensor : Nat) (temp : Int) (s : State) : Res :=
  onUnit (sensor < (if s.oneDie then 32 else 64)) <|
    guarded (115 * 16 ≤ temp && !s.boot.off) s
      (let s := { s with power := { s.power with tempMax := max s.power.tempMax temp } }
       if s.boot.start = Start.memory then { s with boot := { s.boot with start := Start.overTemp } }
       else s.fatalCause { FatalInfo.of 8 with sensor := sensor, temp := wrapInt 16 s.power.tempMax })

/-- REGULATOR_FAULT: a rail outside ±5% of its setpoint for 100 µs. -/
def execRegulatorFault (rail : Nat) (s : State) : Res :=
  onUnit (rail < 12) <| .next (s.fatalCause { FatalInfo.of 7 with rail := rail })

/-- MARSHAL_WATCHDOG: no metering frame closed for 50 ms; receipts not signed at the stop are lost, metering resumes. -/
def execMarshalWatchdog (dt : Nat) (s : State) : Res :=
  let t := s.tick dt
  let u := t.fatalCause (FatalInfo.of 9)
  let m := { u.meter with idx := [], frameTime := t.time }
  guarded (50000000 ≤ t.since s.meter.frameTime && !s.boot.off && s.boot.fatal = 0) t { u with meter := m, reqs := [] }

end Sys2Proof.Machine
end

