-- ==== Sys2Proof/Machine/Ralxon.lean ====
section
/-! DEFINITION. The Ralxon operations on the dictionary: sources and roles, READ, WRITE, the shadow set, the journal,
sessions, firmware, attestation and the mailbox (R349 to R368, R376, R379 to R383). -/

namespace Sys2Proof.Machine

/-! ### Sources (R350, R358 to R362) -/

/-- The number of a source in SHADOW_OWNER. -/
def sourceCode : Source → Nat
  | .mailbox => 0xFFFF
  | .session _ n _ _ => n
  | .segment _ _ _ => 0

/-- The role of a source: the mailbox is ADMIN, a session has its principal's ROLE. -/
def State.role (s : State) : Source → Nat
  | .mailbox => 3
  | .session _ n _ _ =>
    match s.dict.sessions.look n with
    | some k => s.entry (0x2100 + k.principal) 2
    | none => 0
  | .segment _ _ _ => 0

/-- Roles an operation may need (R357). -/
def Role.read := 1
def Role.operate := 2
def Role.admin := 3

/-- Interface and principal of a source in the journal (R367). -/
def sourceIface : Source → Nat
  | .mailbox => 1
  | _ => 0
def State.sourceKey (s : State) : Source → Nat
  | .mailbox => 2 ^ 64 - 1
  | .session _ n _ _ =>
    match s.dict.sessions.look n with
    | some k => s.keyId k.principal
    | none => 0
  | .segment _ _ _ => 0

/-- Whether the marshal answers on the segment: from step 2 on, and in recovery mode (R377, R379). -/
def State.segmentOn (s : State) : Bool := !s.boot.off && s.boot.start ≠ Start.rom
/-- Recovery mode. -/
def State.recovery (s : State) : Bool := s.boot.start = Start.noFirmware

/-- Whether a MAC address is ignored after three failures. -/
def State.lockedOut (s : State) (mac : Nat) : Bool := s.dict.lockouts.any (fun l => l.1 = mac)

/-- Whether a frame is for the module (R349): to its own MAC address, or a HELLO to the broadcast address. -/
def frameHeard (f : Frame) (op : Nat) : Bool :=
  match f.via with
  | .own => true
  | .broadcast => f.bad.getD op = Op.hello
  | .other => false

/-- A request that cannot be parsed is answered BAD_PDU and has no effect (R353). -/
def State.parsed (s : State) (src : Source) (f : Frame) (g : State → State) : State :=
  match f.bad with
  | some op => s.respond src op DSt.badPdu 0 []
  | none => g s

/-- Take a request in: the mailbox while it is not BUSY; a session whose tag verifies and whose SEQ advances; a node of the
segment (R349, R353, R358 to R361, R376). In recovery mode only the segment is heard, and only for what `recover` says. The
tag and SEQ of a session's request come before its PDU is parsed, which is then accepted (DEDUCED, log 71). -/
def State.takeRequest (s : State) (src : Source) (op : Nat) (recover : Bool) (f : State → State) : Res :=
  match src with
  | .mailbox => guarded (s.barOn && !bitOf (s.reg Reg.hifMbxStatus) 0) s (f (s.setReg Reg.hifMbxStatus 1))
  | .segment fr mac _ =>
    guarded (frameHeard fr op && s.segmentOn && !s.lockedOut mac && (!s.recovery || recover && fr.bad.isNone)) s (s.parsed src fr f)
  | .session fr n seq ok =>
    match s.dict.sessions.look n with
    | none => .next s
    | some k =>
      if !frameHeard fr op || !s.segmentOn || s.recovery || !k.opened || !ok || s.lockedOut k.mac then .next s
      else if seq < k.nextSeq then .next (s.respond src (fr.bad.getD op) DSt.seq 0 [])
      else
        let k := { k with nextSeq := seq + 1, since := s.time }
        .next (State.parsed { s with dict := { s.dict with sessions := Tab.put s.dict.sessions n k } } src fr f)

/-- A request that needs a role. -/
def State.byRole (s : State) (src : Source) (op role : Nat) (f : State → State) : Res :=
  s.takeRequest src op false fun s => if s.role src < role then s.respond src op DSt.auth 0 [] else f s

/-! ### Values of entries (R354, R357) -/

/-- The SELFTEST entry (R385). -/
def selftestBytes (t : SelfTest) : List Byte := layout 64 [(0, 20, t.cores), (20, 3, t.clusters), (23, 2, t.ports), (25, 3, t.first)]

/-- POWER_NOW: the latest p100 in W. -/
def State.powerNow (s : State) : Nat := toF32 (.fin false (s.reg Reg.pwrP100) 1000)

/-- MGMT_MAC: derived from the serial, locally administered, and of one station: bits 1 and 0 of its first byte are 1 and 0
(R349). -/
def mgmtMac : Nat := setFld (Config.mgmtMac Config.serial).toNat 0 2 2

/-- Identity, attestation and firmware entries. -/
def State.identityBytes (s : State) (sub : Nat) : List Byte :=
  match sub with
  | 0x01 => [0x49#8, 0x62#8, 0x67#8, 0x65#8, 0x72#8]
  | 0x02 => leBytes 1 s.units.variant
  | 0x03 => leBytes 16 Config.serial.toNat
  | 0x04 => Config.partNumber.take 32
  | 0x05 => leBytes 4 s.fwVer
  | 0x06 => leBytes 4 Config.romVer.toNat
  | 0x07 => s.identCert
  | 0x08 => leBytes 6 mgmtMac
  | 0x09 => leBytes 8 s.time
  | 0x11 => s.boot.report
  | 0x15 => leBytes 8 (2 ^ 40 - s.meter.identQ)
  | 0x16 => leBytes 4 s.boot.svnMin
  | 0x17 => selftestBytes s.boot.selftest
  | 0x18 => leBytes 1 s.boot.start
  | 0x19 => Config.caCert
  | _ => []

/-- Metering entries that are RO (R309). -/
def State.meteringBytes (s : State) (sub : Nat) : List Byte :=
  match sub with
  | 0x01 => leBytes 4 s.meter.boot
  | 0x02 => leBytes 8 s.meter.frame
  | 0x03 => leBytes 4 s.calVer
  | 0x04 => leBytes 4 Config.calExpiry.toNat
  | 0x05 => leBytes 8 s.meter.hssQ
  | 0x06 => leBytes 8 (2 ^ 40 - s.meter.hssQ)
  | 0x07 => leBytes 4 s.meter.awaiting
  | 0x0A => meterCert
  | _ => []

/-- Power entries that are RO (R373, R436). -/
def State.powerBytes (s : State) (sub : Nat) : List Byte :=
  match sub with
  | 0x07 => leBytes 4 s.powerNow
  | 0x08 => leBytes 2 s.power.mhz
  | 0x09 => leBytes 1 s.power.capState
  | 0x0A => leBytes 4 (wrapInt 32 (s.power.tempMax / 16))
  | 0x0D => leBytes 4 s.meter.inputMv
  | _ => []

/-- Offset in HIF_CAP of the entry it mirrors (R278). -/
def capOffset : Nat → Nat
  | 0x01 => 0x08 | 0x02 => 0x0C | 0x03 => 0x10 | 0x05 => 0x30 | 0x06 => 0x38 | 0x07 => 0x3C | 0x08 => 0x40 | 0x09 => 0x44
  | 0x10 => 0x60 | 0x11 => 0x68 | 0x12 => 0x70
  | sub => 0x48 + 4 * (sub - 0x0A)

/-- The bytes of an RO entry. -/
def State.roBytes (s : State) (i sub size : Nat) : List Byte :=
  let a := Tab.get AlarmRec.init s.dict.alarms (i % 64)
  if i = 0x1000 then s.identityBytes sub
  else if i = 0x1F00 then leBytes 1 (if sub = 3 then s.boot.fwState else s.boot.running)
  else if i = 0x2000 then
    leBytes size (if sub = 1 then s.dict.owner else if sub = 2 then s.dict.state else if sub = 3 then s.dict.applyCount
                  else s.dict.storeState)
  else if 0x2100 ≤ i ∧ i < 0x2110 then leBytes 8 (s.keyId (i % 16))
  else if i = 0x3000 then s.powerBytes sub
  else if i = 0x4000 then leBytes 1 s.idleMask
  else if 0x4100 ≤ i ∧ i < 0x4108 then leBytes 4 (s.clearing (i % 8))
  else if i = 0x5000 then leBytes 4 ((s.portFlag (sub % 16) 0).getD 0)
  else if i = 0x6000 then s.meteringBytes sub
  else if i = 0x7000 then leBytes 8 (if sub = 1 then s.dict.alarmActive else s.dict.alarmLatched)
  else if 0x7100 ≤ i ∧ i < 0x7140 then
    leBytes size (if sub = 1 then a.count else if sub = 2 then a.first else if sub = 3 then a.last else a.detail)
  else if i = 0x8000 then leBytes 4 s.dict.jcount
  else if sub = 4 then leBytes 20 s.presentCores
  else leBytes size (s.capWord 0 (capOffset sub))

/-- The bytes a READ of an entry gives; a WO entry gives none. -/
def State.valueBytes (s : State) (shadow : Bool) (i sub : Nat) (r : DictRow) : List Byte :=
  match r.acc with
  | .ro => s.roBytes i sub r.bytes
  | .rws => leBytes r.bytes (if shadow then s.staged i sub else s.entry i sub)
  | .rwi => leBytes r.bytes (s.entry i sub)
  | .wo => []

/-! ### READ (R352, R354, R360) -/

/-- Whether an entry's type has an OFFSET. -/
def hasOffset (r : DictRow) : Bool := r.type = 8 || r.type = 9

/-- Whether the data of a READ item can be parsed: nothing, or an OFFSET for STR and OCTETS. -/
def readItemOk (i : Item) : Bool :=
  match dictRow i.index i.sub with
  | some r => i.data.isEmpty || (hasOffset r && i.data.length = 4)
  | none => i.data.isEmpty || i.data.length = 4

/-- Answer one item within `room` bytes: none where it does not fit. -/
def State.readItem (s : State) (shadow : Bool) (room : Nat) (i : Item) : Option (Item × Nat) :=
  if room < 8 then none
  else match dictRow i.index i.sub with
  | none => some ({ i with data := [] }, DSt.noEntry)
  | some r =>
    if r.acc = .wo then some ({ i with type := r.type, data := [] }, DSt.access)
    else
      let full := s.valueBytes shadow i.index i.sub r
      if hasOffset r then
        let rest := full.drop (leNat i.data)
        let fit := (room - 8) / 4 * 4
        some ({ i with type := r.type, data := rest.take fit }, if fit < rest.length then DSt.part else DSt.ok)
      else if room < 8 + (full.length + 3) / 4 * 4 then none
      else some ({ i with type := r.type, data := full }, DSt.ok)

/-- Answer the items in order, each with what room is left. -/
def State.readItems (s : State) (shadow : Bool) : Nat → List Item → Option (List (Item × Nat))
  | _, [] => some []
  | room, i :: rest =>
    match s.readItem shadow room i with
    | none => none
    | some a =>
      match State.readItems s shadow (room - (itemBytes a.1 a.2).length) rest with
      | none => none
      | some l => some (a :: l)

/-- Status of the first item that is not OK. -/
def firstStatus (l : List (Item × Nat)) : Nat := (l.map Prod.snd).find? (fun st => st != DSt.ok) |>.getD DSt.ok

/-- Answer a READ. -/
def State.readAnswer (s : State) (src : Source) (shadow : Bool) (items : List Item) : State :=
  if !items.all readItemOk then s.respond src Op.read DSt.badPdu 0 []
  else match s.readItems shadow (pduLimit src - 24) items with
    | none => s.respond src Op.read DSt.tooBig 0 []
    | some l => s.respond src Op.read (firstStatus l) 0 l

/-- Entries a request without a session may read. -/
def openEntry (i : Item) : Bool := 0x1000 = i.index || 0x9000 = i.index

/-- The READ operation. -/
def State.readOp (src : Source) (shadow : Bool) (items : List Item) (s : State) : State :=
  let may : Bool := match src with
    | .segment _ _ _ => items.all openEntry
    | _ => Role.read ≤ s.role src
  if may then s.readAnswer src shadow items else s.respond src Op.read DSt.auth 0 []

/-- READ. -/
def execRead (src : Source) (shadow : Bool) (items : List Item) (s : State) : Res :=
  s.takeRequest src Op.read (items.all (fun i => i.index = 0x1000)) (State.readOp src shadow items)

/-! ### Attestation (R382, R383) -/

/-- Value of an RW entry as an item. -/
def State.valueItem (s : State) (e : Nat × Nat) : List Byte :=
  match dictRow e.1 e.2 with
  | some r => itemBytes { index := e.1, sub := e.2, type := r.type, data := leBytes r.bytes (s.entry e.1 e.2) } 0
  | none => []

/-- SVN of the running image. -/
def State.fwSvn (s : State) : Nat :=
  match (if s.boot.running = 0 then s.boot.slotA else if s.boot.running = 1 then s.boot.slotB else none) with
  | some v => v.2
  | none => 0

/-- The 288 signed bytes of a report. -/
def State.reportBody (s : State) (nonce : List Byte) : List Byte :=
  let flags := bit s.boot.calDefault + 2 * bit s.boot.configReset + 4 * bit s.boot.ptmSet + 8 * bit s.boot.recovered
  layout 288 [(0, 2, 1), (2, 2, flags), (4, 4, s.meter.boot), (8, 16, Config.serial.toNat), (24, 32, leNat nonce),
    (56, 8, s.time), (64, 4, Config.romVer.toNat), (68, 4, s.fwVer), (72, 4, s.fwSvn), (76, 4, s.calVer),
    (80, 48, leNat (Config.fwHash s.boot.running)), (128, 48, if s.boot.calDefault then 0 else leNat Config.calHash),
    (176, 48, leNat (Crypto.sha384 (storedEntries.flatMap s.valueItem))),
    (224, 48, leNat (Crypto.sha384 ((s.capBytes 0).take 0x78))), (272, 8, s.meter.identQ)]

/-- Make a report: it uses one identity HSS index; the reservation is extended while 256 are left. -/
def State.attest (s : State) (nonce : List Byte) : State :=
  let b := s.reportBody nonce
  let q := s.meter.identQ + 1
  { s with boot := { s.boot with report := b ++ Crypto.sign 1 b ++ Crypto.hss 1 s.meter.identQ b,
                                 reportTime := some s.time },
           meter := { s.meter with identQ := q, identPending := s.meter.identPending || s.meter.identEnd - q = 256 } }

/-- RETRY while the identity key has no index available: the 10 ms after which a reservation is tried again (R301, R382; the
answer is a DESIGN CHOICE, log 73). -/
def State.indexRetry (s : State) : Option Nat :=
  if s.meter.identQ < s.meter.identEnd && s.meter.identQ < 2 ^ 40 then none else some 10000

/-- RETRY of an ATTEST_NONCE that must wait, in µs: during a reset the module's estimate, else the rest of the second since
the last report. -/
def State.attestRetry (s : State) : Option Nat :=
  if s.boot.start = Start.resetting then some (1000 + s.freeVal 64 % 9999001)
  else match s.boot.reportTime with
    | some t => if s.since t < 1000000000 then some (max 1000 ((1000000000 - s.since t + 999) / 1000)) else s.indexRetry
    | none => s.indexRetry

/-! ### WRITE (R353 to R355, R360, R362, R365) -/

/-- Stage every RW-S default (R357). -/
def State.stageDefaults (s : State) : State :=
  (storedEntries.filter (fun e => match dictRow e.1 e.2 with
    | some r => r.acc = .rws
    | none => false)).foldl (fun s e => s.setStaged e.1 e.2 (s.dflt e.1 e.2)) s

/-- Take ownership of the shadow set, now DIRTY. -/
def State.dirty (s : State) (src : Source) : State :=
  { s with dict := { s.dict with owner := sourceCode src, state := 1 } }

/-- The slot not in use; a chunk written to it in service leaves it unaccepted (R380). -/
def State.spoilSlot (s : State) : State :=
  if s.recovery then s
  else if s.boot.running = 0 then { s with boot := { s.boot with slotB := none } }
  else { s with boot := { s.boot with slotA := none } }

/-- What a write of a WO entry starts. -/
def State.woAction (s : State) (src : Source) (i : Item) : State :=
  let v := leNat i.data
  match i.index, i.sub with
  | 0x1000, 0x10 => s.attest i.data
  | 0x1F00, 0x01 =>
    let s := s.spoilSlot
    { s with boot := { s.boot with chunks := Mem.write s.boot.chunks (leNat (i.data.take 4)) (i.data.drop 4) } }
  | 0x1F00, 0x02 => { s with boot := { s.boot with fwState := 1, fwLen := v } }
  | 0x1F00, 0x05 => if v = 1 then { s with boot := { s.boot with svnMin := max s.boot.svnMin s.fwSvn } } else s
  | 0x2000, 0x04 => (s.stageDefaults).dirty src
  | 0x3000, 0x0B => s.powerDown (s.entry 0x3000 0x0C) false
  | 0x7000, 0x03 =>
    let d := s.dict
    { s with dict := { d with alarmLatched := bitsOf ((List.range 64).map (fun c =>
      bitOf d.alarmLatched c && !(bitOf v c && !bitOf d.alarmActive c))) } }
  | _, _ => s

/-- Perform a checked item of a WRITE. -/
def State.writeItem (src : Source) (s : State) (i : Item) : State :=
  let v := leNat i.data
  match dictRow i.index i.sub with
  | none => s
  | some r =>
    match r.acc with
    | .ro => s
    | .rws => (s.setStaged i.index i.sub v).dirty src
    | .rwi => s.change (sourceIface src) (s.sourceKey src) i.index i.sub v 0
    | .wo =>
      let e : JEntry := { seq := 0, iface := sourceIface src, index := i.index, sub := i.sub, type := r.type, apply := 0, time := 0,
                          principal := s.sourceKey src, len := i.data.length, old := 0, new := v }
      (s.journalPut e).woAction src i

/-- Whether an item's value keeps to its entry's range; a chunk is an offset and 1 to 4,000 bytes. -/
def writeRangeOk (i : Item) (r : DictRow) : Bool :=
  if i.index = 0x1F00 && i.sub = 1 then 5 ≤ i.data.length && i.data.length ≤ 4004
  else i.data.length = r.bytes && inRangeOf i.index i.sub (leNat i.data)

/-- ISTATUS of an item of a WRITE, by access, role, owner, type and range. -/
def State.writeStatus (s : State) (src : Source) (i : Item) : Nat :=
  match dictRow i.index i.sub with
  | none => DSt.noEntry
  | some r =>
    let stages := r.acc = .rws || (i.index = 0x2000 && i.sub = 4)
    let need := if r.acc = .rws || r.admin then Role.admin else Role.operate
    if r.acc = .ro then DSt.access
    else if s.role src < need && !s.recovery then DSt.auth
    else if stages && s.dict.state = 3 then DSt.applyPending
    else if stages && s.dict.owner != 0 && s.dict.owner != sourceCode src then DSt.locked
    else if i.type != r.type || (typeBytes r.type != 0 && i.data.length != r.bytes) then DSt.type
    else if !writeRangeOk i r then DSt.range
    else DSt.ok

/-- The value an RW-I entry would have after the items. -/
def State.valueAfter (s : State) (items : List Item) (i sub : Nat) : Nat :=
  match items.reverse.find? (fun x => x.index = i && x.sub = sub) with
  | some x => leNat x.data
  | none => s.entry i sub

/-- ISTATUS of every item: the cross-entry rule fails the items of SUSTAINED_W and PEAK_W (R373). -/
def State.writeStatuses (s : State) (src : Source) (items : List Item) : List (Item × Nat) :=
  let l := items.map (fun i => (i, s.writeStatus src i))
  let cross := s.valueAfter items 0x3000 2 < s.valueAfter items 0x3000 1
  l.map (fun a =>
    let power := a.1.index = 0x3000 && (a.1.sub = 1 || a.1.sub = 2)
    ({ a.1 with data := [] }, if a.2 = DSt.ok && power && cross then DSt.range else a.2))

/-- Whether a WRITE asks for a report that must wait. -/
def asksReport (items : List Item) : Bool := items.any (fun i => i.index = 0x1000 && i.sub = 0x10)

/-- The WRITE operation: all or nothing, then in item order. -/
def State.writeOp (src : Source) (items : List Item) (s : State) : State :=
  let sts := s.writeStatuses src items
  let st := firstStatus sts
  let bare : Bool := match src with
    | .segment _ _ _ => !s.recovery
    | _ => false
  if bare then s.respond src Op.write DSt.auth 0 []
  else if pduLimit src < 24 + itemsLen sts then s.respond src Op.write DSt.tooBig 0 []
  else if st != DSt.ok then s.respond src Op.write st 0 sts
  else match (if asksReport items then s.attestRetry else none) with
    | some t => (s.respond src Op.write DSt.busy t []).useFree 1
    | none => (items.foldl (State.writeItem src) s).respond src Op.write DSt.ok 0 sts

/-- Whether every item is one of those that recovery mode takes (R379). -/
def recoveryWrite (items : List Item) : Bool := items.all (fun i => i.index = 0x1F00 && (i.sub = 1 || i.sub = 2))

/-- A WRITE of items. -/
def ralxonWrite (src : Source) (items : List Item) (s : State) : Res :=
  s.takeRequest src Op.write (recoveryWrite items) (State.writeOp src items)

/-- WRITE. -/
def execWrite (src : Source) (items : List Item) (s : State) : Res := ralxonWrite src items s
/-- DEFAULTS: a WRITE of 0x2000.04. -/
def execDefaults (src : Source) (s : State) : Res := ralxonWrite src [{ index := 0x2000, sub := 4, type := 1, data := [1#8] }] s
/-- ALARM_ACK: a WRITE of 0x7000.03. -/
def execAlarmAck (src : Source) (mask : Nat) (s : State) : Res :=
  ralxonWrite src [{ index := 0x7000, sub := 3, type := 5, data := leBytes 8 mask }] s
/-- FW_CHUNK: a WRITE of 0x1F00.01. -/
def execFwChunk (src : Source) (off : Nat) (bytes : List Byte) (s : State) : Res :=
  ralxonWrite src [{ index := 0x1F00, sub := 1, type := 9, data := leBytes 4 off ++ bytes }] s
/-- FW_COMMIT: a WRITE of 0x1F00.02. -/
def execFwCommit (src : Source) (len : Nat) (s : State) : Res :=
  ralxonWrite src [{ index := 0x1F00, sub := 2, type := 4, data := leBytes 4 len }] s
/-- FW_SVN_COMMIT: a WRITE of 1 to 0x1F00.05. -/
def execFwSvnCommit (src : Source) (s : State) : Res :=
  ralxonWrite src [{ index := 0x1F00, sub := 5, type := 1, data := [1#8] }] s
/-- ATTEST_NONCE: a WRITE of 0x1000.10. -/
def execAttestNonce (src : Source) (nonce : List Byte) (s : State) : Res :=
  ralxonWrite src [{ index := 0x1000, sub := 0x10, type := 9, data := nonce }] s
/-- POWER_DOWN: a WRITE of 0x3000.0B. -/
def execPowerDown (src : Source) (s : State) : Res :=
  ralxonWrite src [{ index := 0x3000, sub := 0x0B, type := 1, data := [1#8] }] s

/-! ### The shadow set (R362 to R365) -/

/-- Refuse CHECK, APPLY or DISCARD while an APPLY is pending or another owner holds the shadow set. -/
def State.shadowBusy (s : State) (src : Source) : Option Nat :=
  if s.dict.state = 3 then some DSt.applyPending
  else if s.dict.owner != 0 && s.dict.owner != sourceCode src then some DSt.locked
  else none

/-- The CHECK operation. -/
def State.checkOp (src : Source) (s : State) : State :=
  match s.shadowBusy src with
  | some st => s.respond src Op.check st 0 []
  | none =>
    let fails := s.shadowFails.map failItem
    if pduLimit src < 24 + itemsLen fails then s.respond src Op.check DSt.tooBig 0 []
    else if fails.isEmpty then
      State.respond { s with dict := { s.dict with state := 2 } } src Op.check DSt.ok 0 []
    else s.respond src Op.check DSt.checkFailed 0 fails

/-- CHECK. -/
def execCheck (src : Source) (s : State) : Res := s.byRole src Op.check Role.admin (State.checkOp src)

/-- SEQ of a request. -/
def sourceSeq : Source → Nat
  | .session _ _ seq _ => seq
  | _ => 0

/-- The APPLY operation: accepted for the next frame boundary, it is answered there. -/
def State.applyOp (src : Source) (s : State) : State :=
  match s.shadowBusy src with
  | some st => s.respond src Op.apply st 0 []
  | none =>
    if s.dict.state ≠ 2 then s.respond src Op.apply DSt.notChecked 0 []
    else { s with dict := { s.dict with state := 3, applySrc := sourceCode src, applySeq := sourceSeq src,
                                        applyKey := s.sourceKey src } }

/-- APPLY. -/
def execApply (src : Source) (s : State) : Res := s.byRole src Op.apply Role.admin (State.applyOp src)

/-- APPLY_BOUNDARY: the frame boundary after an accepted APPLY. FRAME_END performs an APPLY that is pending; this is the
boundary of an APPLY accepted at the instant in which the frame began (DESIGN CHOICE, log 48). -/
def execApplyBoundary (s : State) : Res :=
  guarded (s.dict.state = 3 && !s.boot.off && s.time = s.meter.frameTime) s s.applyBoundary

/-- The DISCARD operation. -/
def State.discardOp (src : Source) (s : State) : State :=
  match s.shadowBusy src with
  | some st => s.respond src Op.discard st 0 []
  | none => s.releaseShadow.respond src Op.discard DSt.ok 0 []

/-- DISCARD. -/
def execDiscard (src : Source) (s : State) : Res := s.byRole src Op.discard Role.admin (State.discardOp src)

/-! ### The journal (R367) -/

/-- A value of a journal entry: whole, or the first 16 bytes of its hash. -/
def journalValue (len v : Nat) : Nat := if 16 < len then leNat ((Crypto.sha256 (leBytes len v)).take 16) else v

/-- The 64 bytes of a journal entry. -/
def JEntry.bytes (e : JEntry) : List Byte :=
  let long := bit (16 < e.len)
  layout 64 [(0, 4, e.seq), (4, 1, e.iface), (5, 1, 3 * long + 4 * bit (e.apply != 0)), (6, 1, e.sub), (7, 1, e.type),
    (8, 2, e.index), (12, 4, e.apply), (16, 8, e.time), (24, 8, e.principal), (32, 16, journalValue e.len e.old),
    (48, 16, journalValue e.len e.new)]

/-- The READ_JOURNAL operation. -/
def State.journalOp (src : Source) (start count : Nat) (s : State) : State :=
  let held := (s.dict.journal.filter (fun e => start ≤ e.seq)).take count
  let given := held.take ((pduLimit src - 24) / 72)
  let items := given.map (fun e => (({ index := e.index, sub := e.sub, type := 9, data := e.bytes } : Item), DSt.ok))
  s.respond src Op.journal (if given.length < held.length then DSt.part else DSt.ok) 0 items

/-- READ_JOURNAL. -/
def execReadJournal (src : Source) (start count : Nat) (s : State) : Res :=
  s.byRole src Op.journal Role.read (State.journalOp src start count)

/-! ### Sessions (R358) -/

/-- A failure of a MAC address: the third within 60 s locks it out and raises SESSION_AUTH. -/
def State.authFailure (s : State) (mac : Nat) : State :=
  let l := s.dict.failures.filter (fun f => s.since f.2 ≤ 60000000000) ++ [(mac, s.time)]
  if 3 ≤ (l.filter (fun f => f.1 = mac)).length then
    let d := { s.dict with failures := l.filter (fun f => f.1 ≠ mac), lockouts := s.dict.lockouts ++ [(mac, s.time)] }
    State.alarm { s with dict := d } 19 0 false
  else { s with dict := { s.dict with failures := l } }

/-- A node of the segment without a session. -/
abbrev segNode (n : Sender) : Source := .segment n.frame n.mac n.seq

/-- Answer a failed HELLO or AUTH. -/
def State.refuseAuth (s : State) (src : Sender) (op : Nat) : State :=
  (s.respond (segNode src) op DSt.auth 0 []).authFailure src.mac

/-- The lowest session number not in use; a pending APPLY keeps its session's. -/
def State.newSession (s : State) : Nat :=
  ((List.range 10).map (· + 1)).find? (fun n => (s.dict.sessions.look n).isNone && !(s.dict.state = 3 && s.dict.applySrc = n))
    |>.getD 10

/-- The transcript of a HELLO: client key, module key, nonce, session number. -/
def helloBytes (key own nonce : List Byte) (n : Nat) : List Byte := key ++ own ++ nonce ++ leBytes 2 n

/-- HELLO: a session number, the module's ephemeral key, a nonce and the identity key's signature. A HELLO that no AUTH has
followed within 1 s holds no session. -/
def State.helloOp (src : Sender) (principal : Nat) (key : List Byte) (s : State) : State :=
  let live := s.dict.sessions.filter (fun k => k.2.opened || s.since k.2.since ≤ 1000000000)
  let s := { s with dict := { s.dict with sessions := live } }
  if 16 ≤ principal || s.entry (0x2100 + principal) 2 = 0 then s.refuseAuth src Op.hello
  else if 8 ≤ live.length then s.respond (segNode src) Op.hello DSt.busy 1000 []
  else
    let n := s.newSession
    let priv := Crypto.privOf (Config.ephemeral s.nextId).toNat
    let own := Crypto.pubOf priv
    let nonce := exactly 48 (Config.nonce s.nextId)
    let script := helloBytes key own nonce n
    let k : Session := { mac := src.mac, principal := principal, opened := false, since := s.time, nextSeq := 0, priv := priv,
                         client := key, transcript := script, key := [] }
    let s := { s with dict := { s.dict with sessions := Tab.put live n k } }.useId
    s.respond (segNode src) Op.hello DSt.ok 0
      [({ index := 0, sub := 0, type := 9, data := leBytes 2 n ++ own ++ nonce ++ Crypto.sign 1 script }, DSt.ok)]

/-- HELLO. -/
def execHello (src : Sender) (principal : Nat) (key : List Byte) (s : State) : Res :=
  s.takeRequest (segNode src) Op.hello false (State.helloOp src principal key)

/-- A session closes: its shadow set is released, or once the pending APPLY has ended. -/
def State.closeSession (s : State) (n : Nat) : State :=
  let s := { s with dict := { s.dict with sessions := Tab.del s.dict.sessions n } }
  if s.dict.owner = n && s.dict.state ≠ 3 then s.releaseShadow else s

/-- The key of a session: HKDF-SHA-384 of the ECDH secret with the hash of the transcript as info; none where the client's
key is no point of the curve (R358). -/
def Session.derive (k : Session) : Option (List Byte) :=
  (Crypto.ecdh k.priv k.client).map (fun z => Crypto.sha3.hkdf z (Crypto.sha384 k.transcript) 32)

/-- Verify an AUTH with PUBKEY of the session's principal, over the transcript followed by SERIAL, and derive the session
key: none where either fails (a client key that is no point of the curve fails the AUTH: DESIGN CHOICE, log 71). -/
def State.authKey (s : State) (k : Session) (sig : List Byte) : Option (List Byte) :=
  if s.entry (0x2100 + k.principal) 2 ≠ 0 &&
      Crypto.ecdsaOk (leBytes 97 (s.entry (0x2100 + k.principal) 1)) (Crypto.sha384 (k.transcript ++ leBytes 16 Config.serial.toNat)) sig
  then k.derive else none

/-- AUTH: within 1 s of its HELLO, with a signature that verifies. Both exchanges carry no tag; the answer names the session
(DEDUCED, log 71). -/
def State.authOp (src : Sender) (n : Nat) (sig : List Byte) (s : State) : State :=
  match s.dict.sessions.look n with
  | some k =>
    if k.mac ≠ src.mac then s.refuseAuth src Op.auth
    else match s.authKey k sig with
    | some key =>
      if k.opened then s.emit (.frame src.mac (framed (pduBytes Op.auth 1 DSt.ok n src.seq 0 [])))
      else if s.since k.since ≤ 1000000000 then
        let k := { k with opened := true, since := s.time, key := key }
        State.emit { s with dict := { s.dict with sessions := Tab.put s.dict.sessions n k } }
          (.frame src.mac (framed (pduBytes Op.auth 1 DSt.ok n src.seq 0 [])))
      else (s.closeSession n).refuseAuth src Op.auth
    | none => (s.closeSession n).refuseAuth src Op.auth
  | none => s.refuseAuth src Op.auth

/-- AUTH. -/
def execAuth (src : Sender) (session : Nat) (sig : List Byte) (dt : Nat) (s : State) : Res :=
  (s.tick dt).takeRequest (segNode src) Op.auth false (State.authOp src session sig)

/-- The CLOSE operation: only a session has one to close. -/
def State.closeOp (src : Source) (s : State) : State :=
  match src with
  | .session _ n _ _ => (s.respond src Op.close DSt.ok 0 []).closeSession n
  | .mailbox => s.respond src Op.close DSt.badPdu 0 []
  | .segment _ _ _ => s.respond src Op.close DSt.auth 0 []

/-- CLOSE. -/
def execClose (src : Source) (s : State) : Res := s.takeRequest src Op.close false (State.closeOp src)

/-- SESSION_IDLE_EXPIRY: SESSION_IDLE seconds without a valid request. -/
def execSessionIdleExpiry (session dt : Nat) (s : State) : Res := powered s <|
  let t := s.tick dt
  match t.dict.sessions.look session with
  | some k => guarded (k.opened && t.entry 0x2000 7 * 1000000000 ≤ t.since k.since) t (t.closeSession session)
  | none => .next t

/-- MAC_LOCKOUT_END: 60 s after the lock-out. -/
def execMacLockoutEnd (mac dt : Nat) (s : State) : Res := powered s <|
  let t := s.tick dt
  .next { t with dict := { t.dict with lockouts := t.dict.lockouts.filter (fun l =>
    !(l.1 = mac && 60000000000 ≤ t.since l.2)) } }

/-! ### The configuration store and firmware (R366, R380) -/

/-- CONFIG_STORE_WRITE: the active values go to module flash; a failure is retried after 1 s. A power-down goes on after it. -/
def execConfigStoreWrite (ok : Bool) (dt : Nat) (s : State) : Res :=
  let t := s.tick dt
  let d := t.dict
  let due := d.storeState = 1 || (d.storeState = 2 && 1000000000 ≤ dt)
  guarded (due && !t.boot.off) t
    (State.pdGo (if ok then State.alarmOff { t with dict := { d with store := d.active, storeState := 0 } } 20
     else State.alarm { t with dict := { d with storeState := 2 } } 20 0 true))

/-- An accepted image: in recovery mode it goes to slot A and the ROM starts again, else to the slot not in use. -/
def State.acceptImage (s : State) (v svn : Nat) : State :=
  let b := { s.boot with fwState := 2 }
  if s.recovery then { s with boot := { b with slotA := some (v, svn), start := Start.rom } }
  else if b.running = 0 then { s with boot := { b with slotB := some (v, svn) } }
  else { s with boot := { b with slotA := some (v, svn) } }

/-- FW_CHECK_COMPLETE: an image below FW_SVN_MIN is refused (R378). -/
def execFwCheckComplete (result : FwCheck) (s : State) : Res :=
  let fail (c : Nat) : State := { s with boot := { s.boot with fwState := c } }
  guarded (s.boot.fwState = 1 && !s.boot.off) s
    (match result with
     | .accepted v svn => if svn < s.boot.svnMin then fail 4 else s.acceptImage v svn
     | .badSignature => fail 3
     | .badSvn => fail 4
     | .flashFailed => fail 5)

/-! ### The mailbox (R350, R376) -/

/-- Parse items; none where the bytes do not hold them exactly. -/
def parseItems : Nat → List Byte → Option (List Item)
  | 0, l => if l.isEmpty then some [] else none
  | n + 1, l =>
    let f (o k : Nat) : Nat := leNat ((l.drop o).take k)
    let size := 8 + (f 4 2 + 3) / 4 * 4
    if l.length < size || f 6 2 != 0 then none
    else match parseItems n (l.drop size) with
      | none => none
      | some rest => some ({ index := f 0 2, sub := f 2 1, type := f 3 1, data := (l.drop 8).take (f 4 2) } :: rest)

/-- An operation of the mailbox's principal host, once its PDU is parsed. -/
def State.mailboxOp (s : State) (op flags : Nat) (items : List Item) (data : List Byte) : State :=
  let none_ := items.isEmpty && data.isEmpty
  if op = Op.read && flags % 2 = 0 then s.readOp .mailbox (bitOf flags 1) items
  else if flags ≠ 0 then s.respond .mailbox op DSt.badPdu 0 []
  else if op = Op.write then s.writeOp .mailbox items
  else if op = Op.check && none_ then s.checkOp .mailbox
  else if op = Op.apply && none_ then s.applyOp .mailbox
  else if op = Op.discard && none_ then s.discardOp .mailbox
  else if op = Op.journal && items.isEmpty && data.length = 6 then
    s.journalOp .mailbox (leNat (data.take 4)) (leNat (data.drop 4))
  else s.respond .mailbox op DSt.badPdu 0 []

/-- Perform the PDU of `len` bytes in HIF_MBX_REQ; one that cannot be parsed is answered BAD_PDU. -/
def State.mailboxPdu (s : State) (len : Nat) : State :=
  let l := Mem.bytes s.mbxReq 0 len
  let f (o k : Nat) : Nat := leNat ((l.drop o).take k)
  let bad : State := s.respond .mailbox (f 1 1) DSt.badPdu 0 []
  let body := l.drop 24
  if len < 24 || 4096 < len || f 0 1 != 1 || 2 < f 2 1 || f 3 1 != 0 || f 4 2 != 0 || f 12 4 != 0 || f 16 2 != body.length ||
      f 18 6 != 0 then bad
  else if f 1 1 = Op.journal then s.mailboxOp (f 1 1) (f 2 1) (List.replicate (f 6 2) ⟨0, 0, 0, []⟩) body
  else match parseItems (f 6 2) body with
    | none => bad
    | some items => s.mailboxOp (f 1 1) (f 2 1) items []

/-- A submit: ignored while BUSY; DONE clears; the response will repeat the SEQ that the request has now. -/
def State.mailboxCmd (s : State) (len : Nat) : State :=
  if bitOf (s.reg Reg.hifMbxStatus) 0 then s
  else State.mailboxPdu { s.setReg Reg.hifMbxStatus 1 with mbxSeq := leNat (Mem.bytes s.mbxReq 8 4) } len

/-- MAILBOX_SUBMIT: the physical function writes HIF_MBX_CMD. -/
def execMailboxSubmit (fn len : Nat) (s : State) : Res := s.byFn fn (fn = 0) (fun s => s.mailboxCmd (len % 8192))

end Sys2Proof.Machine
end

