-- ==== Sys2Proof/Machine/Pcie.lean ====
section
/-! DEFINITION. The PCIe port but its BARs: link, resets of functions, configuration, MSI-X, completions of the module's
reads, device time, DOE (R418 to R420, R427 to R431, R440, R444); cables and the link reference (R440, R445); the end of
LPDDR5X transfers (R206 to R208). -/

namespace Sys2Proof.Machine

/-! ### MSI-X (R428) -/

/-- Send the pending vectors of a function that are unmasked, while MSI-X is enabled and the function is in D0. -/
def State.flushPba (s : State) (fn : Nat) : State :=
  let f := s.pfn fn
  if !f.msix || f.fmask || f.d3 then s
  else
    let due (v : Nat) : Bool := bitOf f.pba v && !bitOf (f.entry v).toNat 96
    let send (s : State) (v : Nat) : State := s.sendMsix fn v
    let kept := bitsOf ((List.range (msixEntries fn)).map (fun v => bitOf f.pba v && !due v))
    ((List.range (msixEntries fn)).filter due).foldl send (s.setPfn fn { f with pba := kept })

/-- Write an entry of a function's vector table. -/
def State.setVector (s : State) (fn v e : Nat) : State :=
  let f := s.pfn fn
  let table : Tab (BitVec 128) := Tab.set (BitVec.ofNat 128 (2 ^ 96)) f.table v (BitVec.ofNat 128 e)
  (s.setPfn fn { f with table := table }).flushPba fn

/-- MSIX_UNMASK. -/
def execMsixUnmask (fn vector : Nat) (s : State) : Res :=
  s.byFn fn (vector < msixEntries fn) fun s => s.setVector fn vector (setFld ((s.pfn fn).entry vector).toNat 96 1 0)

/-! ### Resets and power states of functions (R420) -/

/-- Every function's configuration space at its reset values: SR-IOV off, BAR4 at its default size, no IDE stream. -/
def State.resetConfig (s : State) : State :=
  { s with pcie := { s.pcie with fns := [], vfEnable := false, numVfs := 0, ptm := false, ide := [],
                                 bar4 := if s.oneDie then 38 else 39, vfBar4 := 36 } }

/-- The PCIe link goes down: configuration returns to reset and the module is reset. -/
def State.pcieDown (s : State) (test : SelfTest) : State :=
  let s := s.resetConfig
  let s := { s with pcie := { s.pcie with link := false, reads := [], fetched := [] } }
  ((s.setReg Reg.hifLinkStatus 0).alarmOff 21).moduleReset test

/-- PCIE_FUNDAMENTAL_RESET: fundamental reset, hot reset or DL_Down. -/
def execPcieFundamentalReset (test : SelfTest) (s : State) : Res := guarded (!s.boot.off) s (s.pcieDown test)

/-- PF_FLR. -/
def execPfFlr (test : SelfTest) (s : State) : Res := guarded s.barOn s (s.resetConfig.moduleReset test)

/-- What the FLR or the loss of VF k does: every LIVE context of its partition is destroyed, its trace ring is disabled, its
configuration space, vector table and PBA reset. -/
def State.vfReset (s : State) (k : Nat) : State :=
  let live := (s.ctxs.filter (fun c => c.2.st = .live && s.inRange (k - 1) .ctx c.1)).map Prod.fst
  let s := live.foldl (fun s c => s.abortContext c false) s
  ((s.trCmd (k - 1) 2).setPfn k PFn.init).settle

/-- VF_FLR. -/
def execVfFlr (vf : Nat) (s : State) : Res :=
  onUnit (1 ≤ vf && vf ≤ 8) <| guarded (s.barOn && s.fnOn vf) s (s.vfReset vf)

/-- D3HOT_ENTRY: memory requests to the function are refused, its interrupts become pending. -/
def execD3hotEntry (fn : Nat) (s : State) : Res :=
  onUnit (fn ≤ 8) <| guarded (s.barOn && s.fnOn fn) s (s.setPfn fn { s.pfn fn with d3 := true })

/-- D0_RETURN: BAR and MSI-X state are kept, pending vectors are sent. -/
def execD0Return (fn : Nat) (s : State) : Res :=
  onUnit (fn ≤ 8) <| guarded (s.barOn && s.fnOn fn) s ((s.setPfn fn { s.pfn fn with d3 := false }).flushPba fn)

/-- HP_PERST_N: low for `ns`, then high again; 10 µs or longer from step 7 on is a fundamental reset (R444). -/
def execHpPerstN (ns : Nat) (test : SelfTest) (s : State) : Res :=
  guarded (10000 ≤ ns && s.barOn) s (s.pcieDown test)

/-- HP_REFCLK_LOSS: the PCIe link goes down; device time goes on (R440). -/
def execHpRefclkLoss (test : SelfTest) (s : State) : Res :=
  let t := { s with boot := { s.boot with hpClk := false } }
  .next (if s.boot.off then t else t.pcieDown test)

/-- HP_REFCLK_RETURN: the link may train again. -/
def execHpRefclkReturn (s : State) : Res := .next { s with boot := { s.boot with hpClk := true } }

/-! ### The link (R418, R444) -/

/-- Step 3 of start-up has completed (R377, R444). -/
def State.mayLink (s : State) : Bool :=
  !s.boot.off && s.boot.hpClk && !([1, 2, 3, Start.noFirmware, Start.railFault].contains s.boot.start)

/-- Host writes that waited for a host anchor go out over the module's own link, interrupts as vectors of its PF. -/
def State.sendWaiting (s : State) : State :=
  let l := s.links.hostWrites
  let s := { s with links := { s.links with hostWrites := [] } }
  l.foldl (fun s w => if 2 ^ 64 ≤ w.1 then s.raise 0 (w.1 - 2 ^ 64) else s.emit (.pwrite w.1 w.2)) s

/-- The link trains or retrains at a rate and width. -/
def State.linkTrained (s : State) (rate width : Nat) (flit : Bool) : State :=
  let s := if s.pcie.link then s.count Reg.hifRetrains 1 else s
  let degraded := rate < 6 || width < 16
  let v := rate + 2 ^ 3 * width + 2 ^ 8 * bit flit + 2 ^ 9 * bit degraded
  let s := (s.setReg Reg.hifLinkStatus v).alarmOff 21
  let s := { s with pcie := { s.pcie with link := true } }
  (if degraded then s.alarm 21 (v % 2 ^ 8) true else s).sendWaiting

/-- PCIE_LINK_TRAINED. -/
def execPcieLinkTrained (rate width : Nat) (flit : Bool) (s : State) : Res :=
  onUnit (1 ≤ rate && rate ≤ 6 && [1, 2, 4, 8, 16].contains width) <| guarded s.mayLink s (s.linkTrained rate width flit)

/-! ### Configuration requests (R418, R419, R427, R430, R444) -/

/-- Device ID of a function. -/
def State.devId (s : State) (fn : Nat) : Nat := 0x2A10 + 0x100 * (s.units.variant - 1) + (if fn = 0 then 0 else 1)

/-- A read of a configuration dword: identifiers and class code; the model states no other (DESIGN CHOICE, log 60). -/
def State.cfgRead (s : State) (fn off : Nat) : State :=
  if off = 0 then s.emit (.cfgData (Config.vendorId.toNat + 2 ^ 16 * s.devId fn))
  else if off = 8 then (s.emit (.cfgData (s.freeVal 8 + 2 ^ 8 * 0x120000))).useFree 1
  else (s.emit (.cfgData (s.freeVal 32))).useFree 1

/-- Set VF Enable and NumVFs; a VF that is lost is reset. -/
def State.setVfs (s : State) (b : Bool) (n : Nat) : State :=
  let lost := (List.range 9).filter (fun k => k ≠ 0 && s.fnOn k && !(b && k ≤ n))
  let s := lost.foldl (fun s k => s.vfReset k) s
  { s with pcie := { s.pcie with vfEnable := b, numVfs := min n 8 } }

/-- A size of BAR4 that the function offers: 1 GiB to 512 GiB, 256 GiB for the PF of a Xiari 2-C (R421). -/
def State.bar4Ok (s : State) (fn n : Nat) : Bool := 30 ≤ n && n ≤ (if fn = 0 && s.oneDie then 38 else 39)

/-- What a configuration request does once the module completes it. -/
def State.cfg (s : State) (fn : Nat) (op : CfgOp) : State :=
  let f := s.pfn fn
  match op with
  | .read off => s.cfgRead fn off
  | .msixEnable b => (s.setPfn fn { f with msix := b }).flushPba fn
  | .functionMask b => (s.setPfn fn { f with fmask := b }).flushPba fn
  | .vfEnable b n => if fn = 0 then s.setVfs b n else s
  | .ptmEnable b => if fn = 0 then { s with pcie := { s.pcie with ptm := b } } else s
  | .resizeBar4 n =>
    if !s.bar4Ok fn n then s
    else if fn = 0 then { s with pcie := { s.pcie with bar4 := n } }
    else { s with pcie := { s.pcie with vfBar4 := n } }
  | .other _ _ => s

/-- PCIE_CONFIG_REQUEST: Request Retry Status until step 7; a function that is not there is refused. -/
def execPcieConfigRequest (fn : Nat) (op : CfgOp) (s : State) : Res :=
  onUnit (fn ≤ 8) <| guarded (!s.boot.off) s <|
    if !s.barOn then s.emit .retryStatus
    else if !s.fnOn fn then s.emit .unsupported
    else s.cfg fn op

/-! ### Completions of the module's reads (R429) -/

/-- A read that failed ends the work that made it, with MEM_ERROR and the reason. -/
def State.packetMemError (s : State) (q n reason addr : Nat) : State :=
  let x := s.queue q
  match x.packets.look n with
  | some p => if p.st = .started then s.packetFault q n Stat.memError reason addr else s
  | none =>
    if x.st = .running && !x.halt && x.nextDecode = some n then
      let raw := match s.readFor q n (s.qPart q) x.context (x.ringBase + 64 * x.slotOf n) 64 with
        | .data _ b => BitVec.ofNat 512 (leNat b)
        | _ => 0
      s.decoded q n (Packet.mk0 raw (x.stampOf n) Stat.memError reason addr)
    else s

/-- A load that failed. -/
def State.loadMemError (s : State) (w : Waiter) (pc reason addr : Nat) : State :=
  match w with
  | .lane c slot lane => s.kernelFault c slot pc { status := Stat.memError, lane := lane, addr := addr, reason := reason, wait := 0 }
  | .coach c => s.coachFault c Stat.memError reason

/-- Whether a packet still waits for the bytes of a read. -/
def State.awaits (s : State) (r : PRead) (q n : Nat) : Bool :=
  s.pcie.fetched.any (fun f => f.q = q && f.n = n && f.addr = r.addr && f.len = r.len && f.data.isNone)

/-- The read of a tag fails. -/
def State.readFails (s : State) (tag : Nat) (r : PRead) (reason : Nat) : State :=
  let s := { s with pcie := { s.pcie with reads := Tab.del s.pcie.reads tag } }
  match r.work, r.who with
  | some (q, n), _ => if s.awaits r q n then ((s.forget q n).packetMemError q n reason r.va).settle else s
  | none, some w => s.loadMemError w r.pc reason r.va
  | none, none => s

/-- The read of a tag returns its bytes. -/
def State.readReturns (s : State) (tag : Nat) (r : PRead) (bytes : List Byte) : State :=
  let fill (f : Fetched) : Fetched :=
    match r.work with
    | some (q, n) =>
      if f.q = q && f.n = n && f.addr = r.addr && f.len = r.len && f.data.isNone then { f with data := some bytes } else f
    | none => f
  let s := { s with pcie := { s.pcie with reads := Tab.del s.pcie.reads tag, fetched := s.pcie.fetched.map fill } }
  match r.who with
  | some w => s.giveLoad w r.reg r.len r.sext (leNat bytes)
  | none => s

/-- PCIE_COMPLETION: data of the length asked for, or an error; a tag that is not outstanding, or other data, is dropped. -/
def execPcieCompletion (tag : Nat) (result : CplResult) (s : State) : Res := powered s <|
  match s.pcie.reads.look tag with
  | none => .next s
  | some r =>
    let fails (reason : Nat) : Res := .next ((s.count Reg.hifCplErr 1).readFails tag r reason)
    match result with
    | .data bytes => guarded (bytes.length = r.len) s (s.readReturns tag r bytes)
    | .ur => fails 0x11
    | .ca => fails 0x12
    | .poisoned => fails 0x13

/-- PCIE_COMPLETION_TIMEOUT. -/
def execPcieCompletionTimeout (tag dt : Nat) (s : State) : Res := powered s <|
  let s := s.tick dt
  match s.pcie.reads.look tag with
  | none => .next s
  | some r => .next ((s.count Reg.hifCplTimeout 1).readFails tag r 0x10)

/-! ### Device time (R430, R339) -/

/-- A PTM dialogue completes: the error is measured; an armed SET steps device time. -/
def State.dialogue (s : State) (master : Nat) : State :=
  let target := wrap64 (master + s.reg Reg.hifPtmOffset)
  let s := s.setReg Reg.hifPtmErr (wrap64 (s.time + 2 ^ 64 - target))
  let s := if s.pcie.setArmed then
      let t := (s.setTime target).journal 3 0 0x1000 0x09 s.time target 0
      { t with boot := { t.boot with ptmSet := true }, pcie := { t.pcie with setArmed := false, setRun := true } }
    else s
  { s with pcie := { s.pcie with lastDialogue := some s.time } }

/-- PTM_DIALOGUE: due every HIF_PTM_INTERVAL while PTM is enabled; `dt` is device time with its slew. -/
def execPtmDialogue (master dt : Nat) (s : State) : Res :=
  let t := s.tick dt
  let due := match t.pcie.lastDialogue with
    | some l => 1000 * t.reg Reg.hifPtmInterval ≤ t.since l
    | none => true
  guarded (t.pcie.ptm && t.pcie.link && !t.boot.off && due) t (t.dialogue master)

/-- A write of HIF_PTM_CMD: SET steps at the next dialogue, or sets NO_PTM while PTM is not enabled. -/
def State.ptmCmd (s : State) (v : Nat) : State :=
  if v % 4 ≠ 1 then s
  else if s.pcie.ptm then { s.setRegFld Reg.hifPtmStatus 3 1 0 with pcie := { s.pcie with setArmed := true } }
  else s.setRegFld Reg.hifPtmStatus 3 1 1

/-- PTM_SET. -/
def execPtmSet (fn : Nat) (s : State) : Res := s.byFn fn (fn = 0) (fun s => s.ptmCmd 1)

/-- DEVICE_TIME_SEND: each ms of device time an anchor sends its device time on CTL to the modules it reaches; those whose
host anchor it is not ignore it (DESIGN CHOICE, log 61). -/
def execDeviceTimeSend (dt : Nat) (s : State) : Res :=
  let t := s.tick dt
  guarded (t.pcie.link && t.alive && s.time / 1000000 ≠ t.time / 1000000) t
    ((setBits t.links.reachable 64).foldl (fun s m => s.sendCtl m (leBytes 8 t.time)) t)

/-! ### DOE (R431) -/

/-- What the measurements carry: FW_HASH, CAL_HASH and CONFIG_HASH, as in a report. -/
def State.measurements (s : State) : List Byte := ((s.reportBody []).drop 80).take 144

/-- The signature of the identity key under the nonce of a request and an answer. -/
def signed (nonce b : List Byte) : List Byte := b ++ nonce ++ Crypto.sign 1 (b ++ nonce)

/-- DOE_REQUEST: the module answers; IDE_KM programs or stops a selective stream. -/
def execDoeRequest (req : DoeReq) (s : State) : Res :=
  guarded s.barOn s <|
    match req with
    | .getCertificate => s.emit (.doe Config.certChain)
    | .challenge nonce => s.emit (.doe (signed nonce []))
    | .getMeasurements nonce => s.emit (.doe (signed nonce s.measurements))
    | .ideProgram stream rid bars =>
      if stream < 8 then
        ({ s with pcie := { s.pcie with ide := Tab.put s.pcie.ide stream (bars % 2 ^ 27 + 2 ^ 27 * (rid % 2 ^ 16)) } }).emit (.doe [])
      else s.emit (.doe [])
    | .ideStop stream => ({ s with pcie := { s.pcie with ide := Tab.del s.pcie.ide stream } }).emit (.doe [])
    | .other => s.emit (.doe [])

/-! ### The link reference and cables (R440, R445) -/

/-- A port that is DOWN trains again, where it may. -/
def State.trainAgain (s : State) (k : Nat) : State :=
  let x := s.port k
  if x.st = PortSt.down && s.mayTrain k then s.setPort k { x with st := PortSt.training, since := s.time } else s

/-- A port loses its link, unless it is disabled or quarantined, or the module is off. -/
def State.loseLink (s : State) (k : Nat) : State :=
  let st := (s.port k).st
  if s.boot.off || st = PortSt.disabled || st = PortSt.quarantined || st = PortSt.down then s else s.linkDown k PortSt.down

/-- LK_REFCLK_LOSS: every Cartal port goes DOWN. -/
def execLkRefclkLoss (s : State) : Res :=
  .next ((List.range s.nPorts).foldl (fun s k => s.loseLink k) { s with boot := { s.boot with lkClk := false } })

/-- LK_REFCLK_RETURN: the ports retrain. -/
def execLkRefclkReturn (s : State) : Res :=
  .next ((List.range s.nPorts).foldl (fun s k => s.trainAgain k) { s with boot := { s.boot with lkClk := true } })

/-- CABLE_MATE. -/
def execCableMate (port : Nat) (mated : Bool) (s : State) : Res :=
  onUnit (port < s.nPorts) <|
    let x := s.port port
    .next (if mated then (s.setPort port { x with mated := true, attempts := 0 }).trainAgain port
           else (s.setPort port { x with mated := false }).loseLink port)

/-! ### LPDDR5X transfers (R206 to R208) -/

/-- Count requests of a channel; when a new ms begins, CCH_CHAN_IMBAL shows the ms before. -/
def State.chanServed (s : State) (ch : Nat) : State :=
  let ms := s.time / 1000000
  let w := s.pmap.chanWin
  let total := (w.map Prod.snd).sum
  let top := (w.map Prod.snd).foldl max 0
  let shown := if ms = s.pmap.chanMs + 1 && total ≠ 0 then top * 256 * s.nChannels / total else 0
  let s := if ms = s.pmap.chanMs then s else s.setReg Reg.cchChanImbal shown
  let w := if ms = s.pmap.chanMs then w else []
  ({ s with pmap := { s.pmap with chanMs := ms, chanWin := Tab.set 0 w ch (Tab.get 0 w ch + 1) } }).count (Reg.cchChanReq ch) 1

/-- A lap's or a kernel's command fails by a read: the oldest command of the lap on its first core, the lowest pack of the
kernel (DESIGN CHOICE, log 62). -/
def State.launchMemError (s : State) (i : Nat) : State :=
  match s.launch i with
  | none => s
  | some l =>
    if l.lap then
      match l.place.find? (fun c => ((s.core c).lap.map (fun x => x.launch)) = some i) with
      | some c =>
        (match (s.core c).lap with
         | some x =>
           let ord := (x.feeding.head?.map (fun f => f.ord)).getD x.oldest
           s.lapStop c ord (x.fault ord Stat.memError) true
         | none => s)
      | none => s
    else
      match s.cores.find? (fun c => c.2.kernel = some i && !c.2.packs.isEmpty) with
      | some (c, k) =>
        (match k.packs.head? with
         | some (slot, p) =>
           s.kernelFault c slot (p.thread 0).pc { status := Stat.memError, lane := 0, addr := 0, reason := 0, wait := 0 }
         | none => s)
      | none => s

/-- A read for packet `n` of queue `q` failed. -/
def State.dramMemError (s : State) (q n : Nat) : State :=
  match ((s.queue q).packets.look n).bind (fun p => if p.st = .started then p.launch else none) with
  | some i => s.launchMemError i
  | none => s.packetMemError q n 0 0

/-- A write failed: the granule of 256 B holds an unpredictable value, and its partition's ring a record. -/
def State.writeLost (s : State) (pa ch : Nat) : State :=
  let g := pa / 256 * 256
  let u := pa / 0x40000000
  let s := { s with dram := Mem.write s.dram g (s.freeBytes 256), freeCtr := s.freeCtr + 32 }
  match s.partOfUnit u with
  | some p => s.partRec p 0x11 [g, u, ch]
  | none => s

/-- LPDDR5X_TRANSFER_COMPLETE: `failures` attempts of at most 5 failed. -/
def execLpddr5xTransferComplete (pa : Nat) (cause : XferCause) (failures : Nat) (s : State) : Res :=
  onUnit (s.inDram pa && failures ≤ 5) <| guarded s.barOn s <|
    let ch := s.channelOf pa
    let s := (s.chanServed ch).count Reg.cchChanRetry (min failures 4)
    if failures < 5 then s
    else if pa < 0x40000000 then s.fatalCause { FatalInfo.of 6 with addr := pa }
    else match cause with
      | .readFor q n | .fillFor q n => (s.dramMemError q n).settle
      | .write => s.writeLost pa ch

end Sys2Proof.Machine
end

