-- ==== Sys2Proof/Machine/Bar.lean ====
section
/-! DEFINITION. Accesses to the BARs (R10 to R12, R215 to R218, R228, R340, R414, R421 to R426): the register image, the page
map registers, the group window, and BAR4. -/

namespace Sys2Proof.Machine

/-! ### The page map registers (R215, R216, R222) -/

/-- Results of CCH_MAP_STATUS. -/
def MapRes.ok := 0
def MapRes.range := 1
def MapRes.badEntry := 2
def MapRes.carve := 3
def MapRes.busyIgnored := 4

/-- The result of a write of entry `e` at index `i`. -/
def State.mapResult (s : State) (p i e : Nat) : Nat :=
  if s.mapUnits p * 32768 ≤ i then MapRes.range
  else if !eV e then MapRes.ok
  else if !entryFormOk e || !s.physOk p (eTgt e) (ePage e) then MapRes.badEntry
  else if eTgt e ≤ 1 && !s.inCarve p (eTgt e) (ePage e) then MapRes.carve
  else MapRes.ok

/-- Replace an entry; cached translations of the old and the new page go. -/
def State.mapPut (s : State) (p i e : Nat) : State :=
  let old := s.mapEntry p i
  (((s.mapStore p i e).tlbDrop p (eVpn old)).tlbDrop p (eVpn e)).count (Reg.cchMapWrites p) 1

/-- A write of CCH_MAP_CMD: 1 READ, 2 WRITE, which is ignored while the last command is BUSY; a module that does not run
work does nothing. -/
def State.mapCmd (s : State) (p v : Nat) : State :=
  let i := s.reg (Reg.cchMapIndex p)
  let o := Reg.cchMapStatus p
  let done (s : State) (r : Nat) : State := (s.setReg o (2 * r)).markBusy o
  if !s.alive then s
  else if v % 4 = 1 then
    if s.mapUnits p * 32768 ≤ i then done s MapRes.range
    else
      let e := s.mapEntry p i
      done ((s.setReg (Reg.cchMapData0 p) (fld e 0 64)).setReg (Reg.cchMapData1 p) (fld e 64 64)) MapRes.ok
  else if v % 4 = 2 then
    let e := s.reg (Reg.cchMapData0 p) + 2 ^ 64 * s.reg (Reg.cchMapData1 p)
    s.command o (fun s => s.setReg o (2 * MapRes.busyIgnored)) (fun s =>
      let r := s.mapResult p i e
      done (if r = MapRes.ok then s.mapPut p i e else s) r)
  else s

/-- MAP_READ. -/
def execMapRead (fn p : Nat) (s : State) : Res := s.byOwner fn p (fun s => s.mapCmd p 1)

/-- MAP_WRITE. -/
def execMapWrite (fn p : Nat) (s : State) : Res := s.byOwner fn p (fun s => s.mapCmd p 2)

/-- Whether a holder of a translation cache serves partition `p` (R214). -/
def State.holds (s : State) (holder p : Nat) : Bool :=
  if holder < 160 then s.partOfCore holder = some p
  else if holder < 180 then s.partOfCluster (holder - 160) = some p
  else holder = 180 || holder = 181 + p

/-- TRANSLATION_WALK: a holder translates an address; a miss walks the map, and is counted (R212, R214). -/
def execTranslationWalk (holder p _ctx va : Nat) (s : State) : Res :=
  onUnit (holder ≤ 188 && p < 8) <|
    guarded (s.alive && s.holds holder p && va < 2 ^ 48) s (s.tlbUse holder p va)

/-! ### Arrays of BAR0 (R424) -/

/-- Arrays: cores present, mailbox request and response, a partition's fault ring, the module-fatal record, a function's
vector table and PBA, the aperture of a slot. -/
inductive Arr where
  | cores | mbxReq | mbxRsp | ring (p : Nat) | fatal | table | pba | aperture (m : Nat)
  deriving DecidableEq, Repr

/-- The array of a BAR0 offset as function `fn` sees it: the array, the offset in it, its size. -/
def arrayOf (fn o : Nat) : Option (Arr × Nat × Nat) :=
  match blockOf o with
  | some (.hifCap, _, r) => if 0x18 ≤ r ∧ r < 0x2C then some (.cores, r - 0x18, 20) else none
  | some (.hifFlt, _, r) => if r < 0x40 then some (.fatal, r, 64) else none
  | some (.mbx, _, r) =>
    if r < 0x1000 then some (.mbxReq, r, 4096) else if r < 0x2000 then some (.mbxRsp, r - 0x1000, 4096) else none
  | some (.msix, _, r) => if r < 16 * msixEntries fn then some (.table, r, 16 * msixEntries fn) else none
  | some (.pba, _, r) => if r < 32 then some (.pba, r, 32) else none
  | some (.window, p, r) => if 0x8000 ≤ r ∧ r < 0x9000 then some (.ring p, r - 0x8000, 4096) else none
  | some (.group, m, r) => if 0x20000 ≤ r then some (.aperture m, r - 0x20000, 0x20000) else none
  | _ => none

/-- Whether an array takes a request: 4 B-aligned, from 4 B up to `most`, within the array. -/
def arrayFits (a : Arr × Nat × Nat) (size most : Nat) : Bool :=
  a.2.1 % 4 = 0 && size % 4 = 0 && 4 ≤ size && size ≤ most && a.2.1 + size ≤ a.2.2

/-- A function's vector table and PBA as bytes. -/
def PFn.tableBytes (f : PFn) (n : Nat) : List Byte := (List.range n).flatMap (fun v => leBytes 16 (f.entry v).toNat)

/-- Bytes of an array; none for the aperture, which is not readable. -/
def State.arrayRead (s : State) (fn : Nat) (a : Arr) (r size : Nat) : Option (List Byte) :=
  match a with
  | .cores => some (((leBytes 20 s.presentCores).drop r).take size)
  | .mbxReq => some (Mem.bytes s.mbxReq r size)
  | .mbxRsp => some (Mem.bytes s.mbxRsp r size)
  | .ring p => some (Mem.bytes (Tab.get [] s.rings p) r size)
  | .fatal => some (Mem.bytes s.fatal r size)
  | .table => some ((((s.pfn fn).tableBytes (msixEntries fn)).drop r).take size)
  | .pba => some (((leBytes 32 (s.pfn fn).pba).drop r).take size)
  | .aperture _ => none

/-- Write bytes into a function's vector table; vectors that become unmasked are sent. -/
def State.tableWrite (s : State) (fn r : Nat) (bytes : List Byte) : State :=
  let f := s.pfn fn
  let all := overlay (f.tableBytes (msixEntries fn)) r bytes
  let table := (List.range (msixEntries fn)).foldl (fun (t : Tab (BitVec 128)) v =>
    Tab.set (BitVec.ofNat 128 (2 ^ 96)) t v (BitVec.ofNat 128 (leNat ((all.drop (16 * v)).take 16) % 2 ^ 97))) f.table
  (s.setPfn fn { f with table := table }).flushPba fn

/-! ### Who reaches and owns what (R12, R414, R423) -/

/-- Whether function `fn` reaches the block of an offset. -/
def State.reaches (s : State) (fn o : Nat) : Bool :=
  match blockOf o with
  | none => false
  | some (.hifCap, _, _) | some (.msix, _, _) | some (.pba, _, _) => true
  | some (.window, p, _) => actsFor fn p
  | some (.cluster, k, _) => fn = 0 || bitOf (s.pClusters (fn - 1)) k
  | some (.core, c, _) => fn = 0 || bitOf (s.pClusters (fn - 1)) (c / 8)
  | some (.group, _, _) => fn = 0 && s.pcie.link
  | _ => fn = 0

/-- Whether a function reads a register: one of owner host or marshal only the PF, but HIF_CAP. -/
def mayRead (fn o : Nat) (row : RegRow) : Bool := fn = 0 || row.owner = .partition || o < 0x80

/-- Whether a function writes a register it reaches. -/
def mayWrite (fn : Nat) (row : RegRow) : Bool :=
  match row.owner with
  | .marshal => false
  | .host => fn = 0
  | .partition => true

/-- Whether a request has a register's form: 4 B or 8 B, naturally aligned (R424). -/
def regForm (o size : Nat) : Bool := (size = 4 || size = 8) && o % size = 0

/-- The register of a request. -/
def regOf (o size : Nat) : Option (RegRow × Nat) := if regForm o size && regNamed o then regAt o size else none

/-! ### Reads of BAR0 -/

/-- A read that its requester may not make, or that has no register's form: 0, counted. -/
def State.badRead (s : State) (size : Nat) : State × Option (List Byte) :=
  (s.count Reg.dbgBadAccess 1, some (List.replicate size 0#8))

/-- A read of a register: a WO register reads 0, an RS register clears when it is read whole and no freeze holds it. A
counter of cycles whose condition holds counts up to the read (DESIGN CHOICE, log 16). -/
def State.regRead (s : State) (fn o size : Nat) (row : RegRow) (a : Nat) : State × Option (List Byte) :=
  let s := if (s.countingNow).contains a && !s.freeze.copy.isSome then s.accrue [a] else s
  let b := s.stillBusy a
  let s := b.1
  let v := if row.access = .wo then 0 else s.seenReg fn row a ||| bit b.2
  let whole := a = o && size = row.bytes
  let clears := row.access = .rs && whole && s.blockOn a && !(row.counts && s.freeze.copy.isSome)
  (if clears then s.setReg a row.reset else s, some (leBytes size (if a = o then v else v / 2 ^ 32)))

/-- A read of BAR0 by a function: the state after it, and the bytes, or none for a Completer Abort. -/
def State.readReg (s : State) (fn o size : Nat) : State × Option (List Byte) :=
  if !s.reaches fn o then s.badRead size
  else if !s.blockOn o then (s, some (List.replicate size 0#8))
  else match arrayOf fn o with
    | some a => if arrayFits a size 4096 then (s, s.arrayRead fn a.1 a.2.1 size) else s.badRead size
    | none =>
      match regOf o size with
      | some (row, a) => if mayRead fn o row then s.regRead fn o size row a else s.badRead size
      | none => s.badRead size

/-! ### Writes of BAR0 -/

/-- Bits of a register that are reserved within its width read as 0 (R10). -/
def regMask (o : Nat) (row : RegRow) : Nat :=
  match blockOf o with
  | some (.window, _, 0x4000) => 0x3
  | some (.window, _, 0x4018) => 0x0FFF001F
  | some (.window, _, 0x4048) | some (.window, _, 0x9018) | some (.mbx, _, 0x2010) => 0x87FF
  | some (.hifFlt, _, 0x40) => 0x7FF
  | some (.dbg, _, 0x60) => 0x11F
  | _ => 2 ^ row.bits - 1

/-- The action of a whole write of a WO register, but those of the group window. -/
def State.regAct (s : State) (o v : Nat) : State :=
  match blockOf o with
  | some (.window, p, 0x48) => s.queueWriteCmd p v
  | some (.window, p, 0x68) => s.strRing p v
  | some (.window, p, 0x128) => s.objWrite p v
  | some (.window, p, 0x1018) => s.mapCmd p v
  | some (.window, p, 0x2018) => s.ringCmd p v
  | some (.window, p, 0x3028) => s.handleWrite p v
  | some (.window, p, 0x3038) => s.rqDoorbell p v
  | some (.window, p, 0x4038) => s.trCmd p v
  | some (.hif, _, 0x38) => s.ptmCmd v
  | some (.hifFlt, _, 0x50) => s.hifResetWrite v s.boot.selftest
  | some (.cch, _, 0x18) => s.dirProbe v
  | some (.dbg, _, 0x00) => s.freezeCmd v
  | some (.dbg, _, 0x78) => s.trCmd 8 v
  | some (.dbg, _, 0x98) => s.itraceCmd v
  | some (.mbx, _, 0x2000) => s.mailboxCmd (v % 8192)
  | some (.port, k, 0x50) => s.lnkCmd k v
  | _ => s

/-- The value `v` written to an RW register. -/
def State.regPut (s : State) (o : Nat) (row : RegRow) (v : Nat) : State :=
  let v := v &&& regMask o row
  let put := s.setReg o v
  let unlessOn (r : Nat) : State := if bitOf (s.reg (trStatus r)) 0 then s else put
  match blockOf o with
  | some (.window, p, 0x4010) | some (.window, p, 0x4018) => unlessOn p
  | some (.window, p, 0x4028) => s.trTailWrite p v
  | some (.window, p, 0x9008) => s.fltTail p v
  | some (.dbg, _, 0x58) | some (.dbg, _, 0x60) => unlessOn 8
  | some (.dbg, _, 0x70) => s.trTailWrite 8 v
  | some (.hif, _, 0x50) => if 1000 ≤ v && v ≤ 1000000 then put else s
  | some (.core, _, 0x98) => s.setReg o (v % 2 ^ 8 + (if bitOf v 31 then 0 else fld (s.reg o) 31 1 * 2 ^ 31))
  | some (.core, c, r) => if 0x100 ≤ r ∧ r < 0x180 then s.slotDataWrite c ((r - 0x100) / 4) v else put
  | _ => put

/-- A write that is ignored and counted. -/
def State.badWrite (s : State) : State := s.count Reg.dbgBadWrite 1

/-- A write of a register by a function that may make it: an RO or RS register ignores it; a WO register acts on a write of
its full width; a 4 B write sets one half of a 64-bit RW register. -/
def State.regWrite (s : State) (act : State → Nat → Nat → State) (o v size : Nat) (row : RegRow) (a : Nat) : State :=
  let whole := a = o && size = row.bytes
  match row.access with
  | .ro | .rs => s
  | .wo => if whole then act s a v else s.badWrite
  | .rw => s.regPut a row (if whole then v else setFld (s.reg a) (if a = o then 0 else 32) 32 v)

/-- A write of an array by a function that owns it. -/
def State.arrayWrite (s : State) (fn : Nat) (a : Arr) (r : Nat) (bytes : List Byte) (aperture : State → Nat → Nat → List Byte → State) :
    State :=
  match a with
  | .mbxReq => { s with mbxReq := Mem.write s.mbxReq r bytes }
  | .table => s.tableWrite fn r bytes
  | .aperture m => aperture s m r bytes
  | .cores => s.badWrite
  | _ => s

/-- A write of BAR0 by a function, with what the WO registers and the aperture do. -/
def State.writeBy (s : State) (act : State → Nat → Nat → State) (aperture : State → Nat → Nat → List Byte → State)
    (fn o : Nat) (bytes : List Byte) : State :=
  let size := bytes.length
  if !s.reaches fn o then s.badWrite
  else if !s.blockOn o then s
  else match arrayOf fn o with
    | some a => if arrayFits a size 512 then s.arrayWrite fn a.1 a.2.1 bytes aperture else s.badWrite
    | none =>
      match regOf o size with
      | some (row, a) => if mayWrite fn row then s.regWrite act o (leNat bytes) size row a else s.badWrite
      | none => s.badWrite

/-- A write of the module's own BAR0 but its group window. -/
def State.writeOwn (s : State) (fn o : Nat) (bytes : List Byte) : State :=
  s.writeBy State.regAct (fun s _ _ _ => s.badWrite) fn o bytes

/-! ### BAR4 (R218, R221) -/

/-- Whether a physical address of LPDDR5X may be reached through BAR4: not in unit 0, not in a unit being cleared. -/
def State.bar4Phys (s : State) (pa : Nat) : Bool :=
  0x40000000 ≤ pa && s.inDram pa && !s.pmap.clearUnits.contains (pa / 0x40000000)

/-- Whether a translation of a host access stands: not to a unit being cleared, nor to a slice, which no other access
reaches while it clears (R221; that the access then fails, as one to a unit does, is DEDUCED, log 63). -/
def State.hostOk (s : State) (t : Xlat) : Bool :=
  if t.tgt = 0 then s.bar4Phys t.pa
  else t.tgt ≠ 1 || (match s.sliceOf t.pa with | some k => !s.pmap.clearSlices.contains k | none => true)

/-- Where an access of BAR4 goes: parts within pages with target and physical address; none where it fails. The PF's
offset is an address of LPDDR5X; a VF's is translated without the check of the context. -/
def State.bar4At (s : State) (fn off len : Nat) (write : Bool) : Option (List (Nat × Nat × Nat)) :=
  let parts := pagesOf off len
  if fn = 0 then
    if parts.all (fun x => s.bar4Phys x.1) then some (parts.map (fun x => (0, x.1, x.2))) else none
  else
    let req : XReq := { ctx := none, write := write, devOk := true, kOk := true }
    let one (x : Nat × Nat) : Option (Nat × Nat × Nat) :=
      match s.translate (fn - 1) req x.1 with
      | .inl t => if !s.hostOk t then none else some (t.tgt, t.pa, x.2)
      | .inr _ => none
    let l := parts.filterMap one
    if l.length = parts.length then some l else none

/-- The size of a function's BAR4. -/
def State.bar4Size (s : State) (fn : Nat) : Nat := 2 ^ (if fn = 0 then s.pcie.bar4 else s.pcie.vfBar4)

/-- Count an access that failed. -/
def State.bar4Fails (s : State) (fn : Nat) : State :=
  if fn = 0 then s.count Reg.dbgPfBar4 1 else s.countPf (fn - 1)

/-- Walk for the pages of an access of a VF. -/
def State.bar4Walk (s : State) (fn off len : Nat) : State :=
  if fn = 0 then s else (pagesOf off len).foldl (fun s x => s.tlbUse (180 + fn) (fn - 1) x.1) s

/-- Accesses of at most 8 B at multiples of 8 B that cover `n` bytes from `o`. -/
def regPieces (o : Nat) : Nat → Nat → List (Nat × Nat)
  | _, 0 => []
  | n, fuel + 1 =>
    let k := min n (8 - o % 8)
    if n = 0 then [] else (o, k) :: regPieces (o + k) (n - k) fuel

/-- Read and write the register image as a function, in pieces (R426). -/
def State.regsRead (s : State) (fn o n : Nat) : State × List Byte :=
  (regPieces o n (n / 8 + 2)).foldl (fun (r : State × List Byte) x =>
    let a := r.1.readReg fn x.1 x.2
    (a.1, r.2 ++ a.2.getD [])) (s, [])
def State.regsWrite (s : State) (fn o : Nat) (bytes : List Byte) : State :=
  (regPieces o bytes.length (bytes.length / 8 + 2)).foldl
    (fun s x => s.writeOwn fn x.1 ((bytes.drop (x.1 - o)).take x.2)) s

/-- The meter index of a host access (R288). -/
def hostIndex (fn : Nat) : Nat := if fn = 0 then moduleIndex else unrequested (fn - 1)

/-- Perform a write of BAR4 (the parts' targets: 2 the register image, 3 PCIe). -/
def State.bar4Do (s : State) (fn off : Nat) (bytes : List Byte) : State :=
  if !s.alive then s
  else
    let s := s.bar4Walk fn off bytes.length
    match s.bar4At fn off bytes.length true with
    | none => s.bar4Fails fn
    | some l =>
      (l.foldl (fun (r : State × List Byte) x =>
        let b := r.2.take x.2.2
        let t := if x.1 = 3 then r.1.hostPut x.2.1 b
                 else if x.1 = 2 then r.1.regsWrite fn (x.2.1 - regBase) b
                 else r.1.physWrite 31 true x.2.1 b
        (t, r.2.drop x.2.2)) (s, bytes)).1

/-- BAR4_WRITE. -/
def execBar4Write (fn off : Nat) (bytes : List Byte) (ep : Bool) (s : State) : Res :=
  onUnit (fn ≤ 8) <| .next (s.posted fn 2 fun s =>
    if ep then s.count Reg.hifPoisonRx 1
    else if off + bytes.length ≤ s.bar4Size fn then (s.tally (hostIndex fn) Site.tlpIn 0 bytes.length).bar4Do fn off bytes
    else s)

/-- A read by the host of a BAR of a function: Unsupported Request where the function is not there, in D3hot, or the request
arrives outside the stream the function requires. -/
def State.asked (s : State) (fn bar : Nat) (f : State → State) : Res :=
  onUnit (fn ≤ 8) <| .next (
    if !s.barOn then s
    else if !s.fnOn fn then s.emit .unsupported
    else if !s.ideOk fn bar then (s.count Reg.hifIdeRefused 1).emit .unsupported
    else if (s.pfn fn).d3 then s.emit .unsupported
    else f s)

/-- BAR4_READ: what PCIe memory holds is not in the state, so a page of target 3 gives free values (DESIGN CHOICE, log 64). -/
def execBar4Read (fn off len : Nat) (s : State) : Res :=
  s.asked fn 2 fun s =>
    if s.bar4Size fn < off + len then s.emit .unsupported
    else if !s.alive then s.emit .completerAbort
    else
      let s := s.bar4Walk fn off len
      match s.bar4At fn off len false with
      | none => (s.bar4Fails fn).emit .completerAbort
      | some l =>
        let r := l.foldl (fun (r : State × List Byte) x =>
          let n := x.2.2
          if x.1 = 3 then (r.1.useFree (n / 8 + 1), r.2 ++ r.1.freeBytes n)
          else if x.1 = 2 then (let a := r.1.regsRead fn (x.2.1 - regBase) n; (a.1, r.2 ++ a.2))
          else (let a := r.1.physRead 31 none false x.2.1 n; (a.1, r.2 ++ a.2))) (s, [])
        (r.1.tally (hostIndex fn) Site.tlpOut 0 r.2.length).emit (.readBytes r.2)

/-! ### The group window (R340) -/

/-- A register of this module read as its physical function reads it. -/
def State.gwReadHere (s : State) (o : Nat) : State × List Byte :=
  let r := s.readReg 0 o 8
  (r.1, exactly 8 (r.2.getD []))

/-- The value of a register of the module of slot `m`, and the command of the slot done. -/
def State.gwValue (s : State) (m : Nat) (bytes : List Byte) : State :=
  (s.setReg (Reg.lnkGwRegval m) (leNat bytes)).setReg (Reg.lnkGwRegstat m) 0

/-- A group-window access performed at the module it names, as one of its physical function; `src` is the anchor it came from, or
the module whose value has been read. -/
def State.gwHere (s : State) (src : Nat) (op : GwOp) (bytes : List Byte) : State :=
  match op with
  | .regRead o =>
    let r := s.gwReadHere o
    r.1.sendMsg { SentMsg.mk0 src 5 0 with param := GwOp.reply.param, data := r.2 }
  | .reply => s.gwValue src bytes
  | .reg o => s.writeOwn 0 o bytes
  | .memory pa => s.bar4Do 0 pa bytes
  | .doorbell =>
    let v := leNat bytes
    match s.partOf .queue (v % 2 ^ 16) with
    | some p => s.strRing p v
    | none => s.count Reg.dbgBadDoorbell 1

/-- Whether module `m` is lost. -/
def State.isLost (s : State) (m : Nat) : Bool := bitOf s.links.lost m || s.unreachable m

/-- A write to slot `m`: on the anchor itself, dropped for a lost module, else a GATEWAY. -/
def State.gwWrite (s : State) (m : Nat) (op : GwOp) (bytes : List Byte) : State :=
  if m = s.moduleNo then s.gwHere m op bytes
  else if s.isLost m then (s.count (Reg.lnkGwDrop 0) 1).alarm 7 m false
  else s.sendMsg { SentMsg.mk0 m 5 0 with param := op.param, data := bytes }

/-- A write of LNK_GW_REGCMD: done at once on the anchor itself; else BUSY until the GATEWAY of a write is acknowledged, or the
value read comes back; a command meanwhile is ignored (R340). -/
def State.gwCmd (s : State) (m v : Nat) : State :=
  let o := s.reg (Reg.lnkGwRegofs m)
  let status (s : State) (x : Nat) : State := s.setReg (Reg.lnkGwRegstat m) x
  let op : GwOp := if v % 4 = 1 then .regRead o else .reg o
  let data := if v % 4 = 1 then [] else leBytes 8 (s.reg (Reg.lnkGwRegval m))
  if v % 4 ≠ 1 && v % 4 ≠ 2 then s
  else if bitOf (s.reg (Reg.lnkGwRegstat m)) 0 then status s (1 + 2 * GwRes.busyIgnored)
  else if m = s.moduleNo then
    if v % 4 = 1 then (let r := s.gwReadHere o; r.1.gwValue m r.2) else status (s.gwHere m op data) 0
  else if s.isLost m then status ((s.count (Reg.lnkGwDrop 0) 1).alarm 7 m false) (2 * GwRes.lost)
  else (status s 1).sendMsg { SentMsg.mk0 m 5 0 with param := op.param, data := data }

/-- The WO registers with those of the group window, and its aperture. -/
def State.regActAll (s : State) (o v : Nat) : State :=
  match blockOf o with
  | some (.group, m, 0x0) => s.gwWrite m .doorbell (leBytes 8 v)
  | some (.group, m, 0x1010) => s.gwCmd m v
  | _ => s.regAct o v
def State.aperture (s : State) (m r : Nat) (bytes : List Byte) : State :=
  s.gwWrite m (.memory (s.reg (Reg.lnkGwApbase m) + r)) bytes

/-- A write of BAR0 by the host. -/
def State.writeReg (s : State) (fn o : Nat) (bytes : List Byte) : State := s.writeBy State.regActAll State.aperture fn o bytes

/-- A posted write of the host to BAR0 (64 MiB). -/
def State.hostWrite (s : State) (fn off : Nat) (bytes : List Byte) (ep : Bool) : Res :=
  onUnit (fn ≤ 8 && off + bytes.length ≤ 2 ^ 26) <| .next (s.posted fn 0 fun s =>
    if ep then s.count Reg.hifPoisonRx 1 else s.writeReg fn off bytes)

/-- REGISTER_WRITE. -/
def execRegisterWrite (fn off size value : Nat) (ep : Bool) (s : State) : Res := s.hostWrite fn off (leBytes size value) ep

/-- LNK_GW_DB. -/
def execLnkGwDb (fn m value : Nat) (s : State) : Res :=
  onUnit (m < 64) <| s.hostWrite fn (Reg.lnkGwDb m) (leBytes 8 value) false

/-- GW_REG_READ and GW_REG_WRITE: a write of LNK_GW_REGCMD. -/
def execGwRegRead (fn m : Nat) (s : State) : Res :=
  onUnit (m < 64) <| s.hostWrite fn (Reg.lnkGwRegcmd m) (leBytes 4 1) false
def execGwRegWrite (fn m : Nat) (s : State) : Res :=
  onUnit (m < 64) <| s.hostWrite fn (Reg.lnkGwRegcmd m) (leBytes 4 2) false

/-- GW_APERTURE_WRITE, at an offset of the aperture. -/
def execGwApertureWrite (fn m off : Nat) (bytes : List Byte) (s : State) : Res :=
  onUnit (m < 64 && off + bytes.length ≤ 0x20000) <| s.hostWrite fn (Reg.lnkGwDb m + 0x20000 + off) bytes false

/-- GATEWAY: another module's group-window write arrives. -/
def execGateway (port : Nat) (msg : MsgIn) (s : State) : Res :=
  s.onMsg port 5 msg (fun s => (s.gwHere msg.src (gwOf msg.param) msg.data, 0))

/-- DIR_PROBE: a write of CCH_DIR_PROBE. -/
def execDirProbe (fn pa : Nat) (s : State) : Res := s.hostWrite fn Reg.cchDirProbe (leBytes 8 pa) false

/-! ### Host reads of BAR0 and BAR2 (R421, R424) -/

/-- A read of a doorbell page: STR_DB_HEAD at 0x010, 0 elsewhere. -/
def State.pageRead (s : State) (fn o size : Nat) : State × Option (List Byte) :=
  let q := o / 0x1000
  if o % 0x1000 ≠ 0x10 || size ≠ 4 then (s, some (List.replicate size 0#8))
  else
    let mine := fn = 0 || s.partOf .queue q = some (fn - 1)
    if mine then (s, some (leBytes 4 (s.queue q).headWord)) else s.badRead size

/-- A read by the host: offsets from 64 MiB on stand for BAR2. -/
def State.hostRead (s : State) (fn off size : Nat) : Res :=
  onUnit (off + size ≤ 2 ^ 26 + 2 ^ 28) <| s.asked fn (if off < 2 ^ 26 then 0 else 1) fun s =>
    let r := if off < 2 ^ 26 then s.readReg fn off size else s.pageRead fn (off - 2 ^ 26) size
    match r.2 with
    | some b => r.1.emit (.readData (leNat b) size)
    | none => r.1.emit .completerAbort

/-- REGISTER_READ. -/
def execRegisterRead (fn off size : Nat) (s : State) : Res := s.hostRead fn off size

/-- RS_COUNTER_READ. -/
def execRsCounterRead (fn off size : Nat) (s : State) : Res := s.hostRead fn off size

end Sys2Proof.Machine
end

