-- ==== Sys2Proof/Machine/Dma.lean ====
section
/-! DEFINITION. Completion of packets and received remote writes, whose DMA engines may access the register image as the
partition's function (R228, R236, R331, R426). -/

namespace Sys2Proof.Machine

/-- One access of a DMA engine to the register image. -/
def State.regOp (s : State) (r : RegOp) : State :=
  let fn := s.fnOf r.part
  match r.read with
  | none => s.regsWrite fn r.off r.bytes
  | some (q, n, len) =>
    let x := s.regsRead fn r.off len
    let fill (f : Fetched) : Fetched :=
      if f.q = q && f.n = n && f.addr = 2 ^ 64 + r.off && f.len = len && f.data.isNone then { f with data := some x.2 } else f
    { x.1 with pcie := { x.1.pcie with fetched := x.1.pcie.fetched.map fill } }

/-- Make the register accesses that are due. -/
def State.regOps (s : State) : State :=
  s.pcie.dmaRegs.foldl (fun s r => s.regOp r) { s with pcie := { s.pcie with dmaRegs := [] } }

/-- Complete a packet, making the register accesses its engine asks for on the way. -/
def State.completeDma (s : State) (q n : Nat) : Nat → State
  | 0 => s
  | fuel + 1 =>
    let t := s.packetComplete q n
    if t.2 || t.1.pcie.dmaRegs.isEmpty then t.1 else t.1.regOps.completeDma q n fuel

/-- PACKET_COMPLETE. -/
def execPacketComplete (q n : Nat) (s : State) : Res :=
  s.onQueue q fun s =>
    s.completeDma q n 10

/-- RWRITE: register writes are made before the message is performed whole. -/
def execRwrite (port : Nat) (msg : MsgIn) (s : State) : Res :=
  s.onMsg port 1 msg fun s =>
    let r := s.rwriteIn port msg
    if r.1.pcie.dmaRegs.isEmpty then r
    else
      let t := State.regOps { s with pcie := { s.pcie with dmaRegs := r.1.pcie.dmaRegs } }
      let r := t.rwriteIn port msg
      ({ r.1 with pcie := { r.1.pcie with dmaRegs := [] } }, r.2)

end Sys2Proof.Machine
end

