-- ==== Sys2Proof/Machine/Float.lean ====
section
/-! DEFINITION. Floating-point, conversion and random-draw instructions, 0x40 to 0x55 (R125 to R127). -/

namespace Sys2Proof.Machine

/-- Rounding of an arithmetic instruction: RND 0 and 1 to nearest even, 2 toward zero (R124). -/
def rndOf (k : Nat) : Rnd := if k = 2 then .rtz else .rne

/-- Formats of floating arithmetic: one FP32, or two BF16 or FP16 in a register (R125). -/
def fpFmt (k : Nat) : Fmt := if k = 1 then .bf16 else if k = 2 then .fp16 else .fp32

/-- Apply an operation to the packed elements of registers: one of 32 bits, or two of 16. -/
def perElem (k : Nat) (op : Nat → Nat → Nat → Nat) (a b c : Nat) : Nat :=
  if k = 0 then op a b c
  else op (a % 2 ^ 16) (b % 2 ^ 16) (c % 2 ^ 16) + 2 ^ 16 * op (a / 2 ^ 16) (b / 2 ^ 16) (c / 2 ^ 16)

/-- The B operand of a floating instruction: IMM or the register. -/
def Thread.fpB (t : Thread) (r : RWord) : Nat := if r.isImm then r.imm else t.reg r.b

/-- A floating instruction; `single` allows FP32 alone, `rounds` allows RND 1 and 2. -/
def State.fp (s : State) (e : Eng) (w : BitVec 64) (useB useC single rounds : Bool)
    (op : Fmt → Rnd → Nat → Nat → Nat → Nat) : Res :=
  s.vec e w (fun r => (r.fmt = 0 || (!single && r.fmt ≤ 2)) && (r.rnd = 0 || (rounds && r.rnd ≤ 2)) &&
      !(useC && r.isImm))
    { d := 1, a := 1, b := if useB then 1 else 0, c := if useC then 1 else 0 }
    (fun _ r t _ => perElem r.fmt (op (fpFmt r.fmt) (rndOf r.rnd)) (t.reg r.a) (t.fpB r) (if useC then t.reg r.c else 0))

/-- The value of an encoding. -/
def fpVal (f : Fmt) (x : Nat) : Num := decodeElem f x

def execFadd (e : Eng) (w : BitVec 64) (s : State) : Res :=
  s.fp e w true false false true (fun f r a b _ => (convertTo f r ((fpVal f a).add (fpVal f b))).1)

def execFsub (e : Eng) (w : BitVec 64) (s : State) : Res :=
  s.fp e w true false false true (fun f r a b _ => (convertTo f r ((fpVal f a).add (fpVal f b).neg)).1)

def execFmul (e : Eng) (w : BitVec 64) (s : State) : Res :=
  s.fp e w true false false true (fun f r a b _ => (convertTo f r ((fpVal f a).mul (fpVal f b))).1)

def execFfma (e : Eng) (w : BitVec 64) (s : State) : Res :=
  s.fp e w true true false true (fun f r a b c =>
    (convertTo f r (((fpVal f a).mul (fpVal f b)).add (fpVal f c))).1)

/-- Whether encoding `a` lies below `b`, with −0 below +0. -/
def fpBelow (f : Fmt) (a b : Nat) : Bool :=
  (fpVal f a).lt (fpVal f b) || ((fpVal f a).eq (fpVal f b) && bitOf a (fmtWidth f - 1) && !bitOf b (fmtWidth f - 1))

/-- Whether either operand is a NaN. -/
def unordered (f : Fmt) (a b : Nat) : Bool := fpVal f a = .nan || fpVal f b = .nan

def execFmin (e : Eng) (w : BitVec 64) (s : State) : Res :=
  s.fp e w true false false false (fun f _ a b _ => if unordered f a b then fmtNaN f else if fpBelow f b a then b else a)

def execFmax (e : Eng) (w : BitVec 64) (s : State) : Res :=
  s.fp e w true false false false (fun f _ a b _ => if unordered f a b then fmtNaN f else if fpBelow f a b then b else a)

def execFseq (e : Eng) (w : BitVec 64) (s : State) : Res :=
  s.fp e w true false true false (fun f _ a b _ => flag ((fpVal f a).eq (fpVal f b) = true))

def execFslt (e : Eng) (w : BitVec 64) (s : State) : Res :=
  s.fp e w true false true false (fun f _ a b _ => flag ((fpVal f a).lt (fpVal f b) = true))

def execFsle (e : Eng) (w : BitVec 64) (s : State) : Res :=
  s.fp e w true false true false (fun f _ a b _ =>
    flag (((fpVal f a).lt (fpVal f b) || (fpVal f a).eq (fpVal f b)) = true))

def execFsun (e : Eng) (w : BitVec 64) (s : State) : Res :=
  s.fp e w true false true false (fun f _ a b _ => flag (unordered f a b = true))

/-! ### Class C (R125, R126): a fixed function of the input within its error bound -/

/-- The largest finite positive FP32 code whose value satisfies `le`, true of every value up to some bound. -/
def codeBelow (le : Nat → Nat → Bool) : Nat :=
  ((List.range 31).reverse).foldl (fun c i =>
    let c' := c + 2 ^ i
    match ofF32 c' with
    | .fin _ n d => if le n d then c' else c
    | _ => c) 0

/-- A code within 1 ulp of a positive exact result: `lo` the code at or below it, `exact` whether they are equal. Which
one the module gives is a free choice, fixed by operation and operand. -/
def nearCode (op a lo : Nat) (exact : Bool) : Nat :=
  let k := (Config.approx op (BitVec.ofNat 32 a)).toNat
  if exact then lo + k % 3 - 1 else lo + k % 2

/-- 1/a within 1 ulp. -/
def recip (a : Nat) : Nat :=
  match ofF32 a with
  | .nan => fmtNaN .fp32
  | .inf n => signBit .fp32 n
  | .fin neg n d =>
    if n = 0 then signBit .fp32 neg + infCode .fp32
    else if toF32 (.fin false d n) = infCode .fp32 then signBit .fp32 neg + infCode .fp32
    else
      let lo := codeBelow (fun m e => m * n ≤ d * e)
      let exact := match ofF32 lo with | .fin _ m e => m * n = d * e | _ => false
      signBit .fp32 neg + nearCode 0x4C a lo exact

/-- 1/√a within 1 ulp. -/
def rsqrt (a : Nat) : Nat :=
  match ofF32 a with
  | .nan => fmtNaN .fp32
  | .inf n => if n then fmtNaN .fp32 else 0
  | .fin neg n d =>
    if n = 0 then signBit .fp32 neg + infCode .fp32
    else if neg then fmtNaN .fp32
    else
      let lo := codeBelow (fun m e => m * m * n ≤ d * e * e)
      let exact := match ofF32 lo with | .fin _ m e => m * m * n = d * e * e | _ => false
      nearCode 0x4D a lo exact

/-! Fixed point with 320 fraction bits: enough to place the value of a class C function between two FP32 codes. -/

def fxOne : Nat := 2 ^ 320

/-- eˣ of a fixed-point x: the exponential series. -/
def fxExp (x : Nat) : Nat :=
  ((List.range 120).foldl (fun (p : Nat × Nat) k => (p.1 + p.2, p.2 * x / fxOne / (k + 1))) (0, fxOne)).1

/-- ln 2, the sum of 1 / (k·2ᵏ). -/
def fxLn2 : Nat := (List.range 330).foldl (fun s k => s + fxOne / ((k + 1) * 2 ^ (k + 1))) 0

/-- The area hyperbolic tangent of a fixed-point z below 1/2. -/
def fxArtanh (z : Nat) : Nat :=
  ((List.range 170).foldl (fun (p : Nat × Nat) k => (p.1 + p.2 / (2 * k + 1), p.2 * z / fxOne * z / fxOne)) (0, z)).1

/-- The angle whose tangent is 1 / q. -/
def fxArctan (q : Nat) : Int :=
  (List.range 80).foldl (fun (s : Int) k =>
    let t : Int := (fxOne / ((2 * k + 1) * q ^ (2 * k + 1)) : Nat)
    if k % 2 = 0 then s + t else s - t) 0

/-- 2π, by Machin's formula. -/
def fxTwoPi : Nat := (8 * (4 * fxArctan 5 - fxArctan 239)).toNat

/-- The alternating series of sine (`first` = 1) or cosine (`first` = 0) of a fixed-point angle. -/
def fxCircular (first x : Nat) : Int :=
  ((List.range 80).foldl (fun (p : Int × Nat) k =>
    let i := 2 * k + first
    (if k % 2 = 0 then p.1 + p.2 else p.1 - p.2, p.2 * x / fxOne * x / fxOne / ((i + 1) * (i + 2))))
    (0, if first = 1 then x else fxOne)).1

/-- A code within 2 ulp of ± n / d: from one below to two above the code at or below it, or, where `exact`, two about
it (`exact`: the value is a code). Codes below zero have the other sign. Which one the module gives is a free choice, fixed by operation and operand. -/
def within2 (op a : Nat) (neg exact : Bool) (n d : Nat) : Nat :=
  let k := (Config.approx op (BitVec.ofNat 32 a)).toNat
  let lo : Int := codeBelow (fun m e => m * d ≤ n * e)
  let c : Int := if exact then lo + (k % 5 : Nat) - 2 else lo + (k % 4 : Nat) - 1
  signBit .fp32 (neg != decide (c < 0)) + min c.natAbs (infCode .fp32)

/-- 2ˣ within 2 ulp; infinity where 2ˣ is at least 2¹²⁸. -/
def exp2Near (a : Nat) (neg : Bool) (n d : Nat) : Nat :=
  let x : Int := if neg then -n else n
  let i := x / (d : Int)
  if 128 ≤ i then infCode .fp32
  else
    let v := fxExp ((x % (d : Int)).toNat * fxLn2 / d)
    let p := scale2 v fxOne (max i (-200))
    within2 0x4E a false (x % (d : Int) = 0 && decide (-149 ≤ i)) p.1 p.2

/-- log2 of a positive n / d within 2 ulp. -/
def log2Near (a n d : Nat) : Nat :=
  let e := floorLog2 n d
  let p := scale2 n d (-e)
  let v : Int := e * fxOne + (2 * fxArtanh ((p.1 - p.2) * fxOne / (p.1 + p.2)) * fxOne / fxLn2 : Nat)
  within2 0x4F a (decide (v < 0)) (p.1 = p.2) v.natAbs fxOne

/-- Sine or cosine of an angle of at most 2¹⁶ within 2 ulp; the magnitude of an angle's sine lies below the angle's. -/
def circularNear (op a : Nat) (neg : Bool) (n d : Nat) : Nat :=
  let first := if op = 0x50 then 1 else 0
  let v := fxCircular first (n * fxOne / d % fxTwoPi)
  within2 op a (decide (v < 0) != (op = 0x50 && neg)) (n = 0) (v.natAbs - first) fxOne

/-- A class C result of a finite operand within its 2 ulp (R125), every NaN canonical. Above 2¹⁶ the spec bounds no sine
or cosine, and the result is free. -/
def approxF (op a : Nat) : Nat :=
  let x := (Config.approx op (BitVec.ofNat 32 a)).toNat
  let unbounded := if ofF32 x = .nan then fmtNaN .fp32 else x
  match ofF32 a with
  | .fin neg n d =>
    if op = 0x4E then exp2Near a neg n d
    else if op = 0x4F then log2Near a n d
    else if n ≤ 2 ^ 16 * d then circularNear op a neg n d
    else unbounded
  | _ => unbounded

def execFrcp (e : Eng) (w : BitVec 64) (s : State) : Res :=
  s.fp e w false false true false (fun _ _ a _ _ => recip a)

def execFrsq (e : Eng) (w : BitVec 64) (s : State) : Res :=
  s.fp e w false false true false (fun _ _ a _ _ => rsqrt a)

def execFexp2 (e : Eng) (w : BitVec 64) (s : State) : Res :=
  s.fp e w false false true false (fun _ _ a _ _ => match ofF32 a with
    | .nan => fmtNaN .fp32
    | .inf n => if n then 0 else infCode .fp32
    | _ => approxF 0x4E a)

def execFlog2 (e : Eng) (w : BitVec 64) (s : State) : Res :=
  s.fp e w false false true false (fun _ _ a _ _ => match ofF32 a with
    | .nan => fmtNaN .fp32
    | .inf n => if n then fmtNaN .fp32 else infCode .fp32
    | .fin neg n _ => if n = 0 then signBit .fp32 true + infCode .fp32 else if neg then fmtNaN .fp32 else approxF 0x4F a)

/-- Sine or cosine: NaN of a NaN or an infinity. -/
def circular (op a : Nat) : Nat := if (ofF32 a).nonfinite then fmtNaN .fp32 else approxF op a

def execFsin (e : Eng) (w : BitVec 64) (s : State) : Res :=
  s.fp e w false false true false (fun _ _ a _ _ => circular 0x50 a)

def execFcos (e : Eng) (w : BitVec 64) (s : State) : Res :=
  s.fp e w false false true false (fun _ _ a _ _ => circular 0x51 a)

/-! ### Conversions and the draw -/

/-- Convert the low bits of a register from one format to another (R43, R125). -/
def cvtElem (src dst rnd a draw : Nat) : Nat :=
  match fmtOfCode src, fmtOfCode dst with
  | some f, some g =>
    let r : Rnd := if rnd = 3 then .sr (draw % 2 ^ 16) else rndOf rnd
    (convertTo g r (decodeElem f (a % 2 ^ fmtWidth f))).1
  | _, _ => 0

/-- CVT: B is the source format's code; C holds the draw for RND 3, else it is 0xFF. -/
def execCvt (e : Eng) (w : BitVec 64) (s : State) : Res :=
  s.vec e w (fun r => !r.isImm && r.b ≤ 10 && r.fmt ≤ 9 && (r.rnd = 3 || r.c = 255))
    { d := 1, a := 1, b := 0, c := 1 }
    (fun _ r t _ => cvtElem r.b r.fmt r.rnd (t.reg r.a) (t.reg r.c))

/-- RNDD: z >> 32 of the generator with seed s[A] and counter v[B] (R127). -/
def execRndd (e : Eng) (w : BitVec 64) (s : State) : Res :=
  s.vec e w (fun r => !r.isImm && r.fmt = 0 && r.rnd = 0 && scalarOk r.a) { d := 1, a := 0, b := 2, c := 0 }
    (fun x r t _ => srMix (x.pack.sreg r.a) (t.pair r.b) / 2 ^ 32)

/-- FP32 to INT32: 0 for NaN, the bound on overflow (R125). -/
def ftoi (r : Rnd) (a : Nat) : Nat :=
  match ofF32 a with
  | .nan => 0
  | .inf n => if n then 2 ^ 31 else 2 ^ 31 - 1
  | .fin neg n d =>
    let k := roundNat r n d
    if neg then (if 2 ^ 31 ≤ k then 2 ^ 31 else wrapInt 32 (-(k : Int))) else min k (2 ^ 31 - 1)

def execItof (e : Eng) (w : BitVec 64) (s : State) : Res :=
  s.fp e w false false true true (fun f r a _ _ =>
    (convertTo f r (.fin (decide (sx 32 a < 0)) (sx 32 a).natAbs 1)).1)

def execFtoi (e : Eng) (w : BitVec 64) (s : State) : Res :=
  s.fp e w false false true true (fun _ r a _ _ => ftoi r a)

end Sys2Proof.Machine
end

