-- ==== Sys2Proof/Machine/LoadStore.lean ====
section
/-! DEFINITION. LD, LDSX and ST (R128, R129, R144, R154 to R156, R162 to R167, R173, R175, R426). -/

namespace Sys2Proof.Machine

/-! ### Loads from memory (R154 to R156, R173) -/

/-- Bytes of a line that a store queue forwards, oldest first (R154). -/
def forwarded (sq : List SqEntry) (line : Nat) : List (Nat × Byte) :=
  sq.flatMap (fun e => e.lanes.flatMap (fun x => if x.pa / 128 = line then bytesAt (x.pa % 128) x.bytes else []))

/-- The bytes of a line that an L1 copy holds, by offset. -/
def L1Line.validBytes (l : L1Line) : List (Nat × Byte) :=
  (setBits l.valid 128).map (fun o => (o, BitVec.ofNat 8 (l.data / 2 ^ (8 * o))))

/-- The store queue of a thread's pack, of a coach core. -/
def State.sqOf (s : State) (w : Waiter) : List SqEntry :=
  match w with
  | .lane c slot _ => (match s.pack c slot with | some p => p.sq | none => [])
  | .coach c => (s.core c).coach.sq

/-- A load of memory: from the core's L1 when `l1` allows it and every byte is there or forwarded, a coach core's from its data
cache; else from the cluster cache, filling the cache it goes through; a resident store address is read at its slice or in the
outbound buffer (R155, R176). -/
def State.memLoad (s : State) (w : Waiter) (size vr : Nat) (sext : Bool) (pa : Nat) (l1 stream nc : Bool) : State :=
  let c := w.core
  let line := pa / 128
  let o := pa % 128
  let fwd := forwarded (s.sqOf w) line
  let copy := (s.core c).l1.look line
  let have' := (match copy with | some l => l.valid | none => 0) ||| maskOf fwd
  let here := (List.range size).all (fun i => bitOf have' (o + i))
  let data := match copy with | some l => l.data | none => 0
  let bytes := (match copy with
    | some l => if l1 then l.validBytes else l.dirtyBytes
    | none => []) ++ fwd
  let give (s : State) (d : Nat) (b : List (Nat × Byte)) : State :=
    s.giveLoad w vr size sext (lineVal (setBytes d b) o size)
  let fill : Fill := match w with
    | .lane _ _ _ => if l1 then .l1 c stream else .none
    | .coach _ => if nc then .none else .coach c false
  let g := s.agent (c / 8)
  if l1 && copy.isSome && here then give (s.l1Alloc c line stream) data fwd
  else if rsLine line then
    let d := g.view (some c) line (s.lineNow line)
    give (match fill with
      | .l1 _ _ => s.l1Fill c line d stream
      | .coach _ _ => s.coachPut c false line false
      | .none => s) d bytes
  else
    let x : LoadWait := { id := s.nextId, who := w, pa := pa, size := size, reg := vr, sext := sext, fill := fill,
                          bytes := bytes, nc := nc, asked := false }
    match g.lines.look line with
    | some y =>
      if fill = .coach c false && (s.core c).dcache.has line && y.st.readable then
        give (s.coachPut c false line false) (g.viewFor x y.data) bytes
      else s.setAgent (c / 8) { g with loads := g.loads ++ [x] }
    | none => s.setAgent (c / 8) { g with loads := g.loads ++ [x] }

/-! ### Device accesses (R166, R167, R426) -/

/-- Pieces of a device access: its own size, 16 B as two halves. -/
def devPieces (size : Nat) : List (Nat × Nat) := if size = 16 then [(0, 8), (8, 8)] else [(0, size)]

/-- Registers of one piece of a destination: its first register. -/
def pieceReg (w : Waiter) (r o : Nat) : Nat :=
  if r = 255 then 255 else match w with | .lane _ _ _ => r + o / 4 | .coach _ => r + o / 8

/-- Whether a thread or coach core has a device load outstanding. -/
def State.devBusy (s : State) (w : Waiter) : Bool := s.pcie.reads.any (fun r => r.2.who = some w)

/-- Read requests of a load over its translated places: a load of PCIe memory waits until the module may make them all
(R418). -/
def hostReads (size : Nat) (xs : List Xlat) : Nat := (xs.filter (fun x => x.tgt = 3)).length * (devPieces size).length

/-- A device load: a register at once, PCIe memory by a read request. -/
def State.devLoad (s : State) (w : Waiter) (part pc va : Nat) (m : MWord) (sext : Bool) (x : Xlat) : State :=
  (devPieces m.size).foldl (fun s d =>
    let s := s.count (Reg.dbgDevAccess w.core) 1
    let r := pieceReg w m.vr d.1
    if x.tgt = 2 then
      let v := s.readReg (s.fnOf part) (x.pa - regBase + d.1) d.2
      v.1.giveLoad w r d.2 sext (leNat (v.2.getD []))
    else
      let tag := s.freeTag
      let read : PRead := { addr := x.pa + d.1, len := d.2, va := va + d.1, work := none, who := some w, reg := r, sext := sext, pc := pc }
      ({ s with pcie := { s.pcie with reads := Tab.put s.pcie.reads tag read, nextTag := (tag + 1) % 1024 } }).emit
        (.pread tag (x.pa + d.1) d.2)) s

/-- A device store of a partition by core `c`. -/
def State.devStore (s : State) (c part : Nat) (x : Xlat) (bytes : List Byte) : State :=
  (devPieces bytes.length).foldl (fun s d =>
    let s := s.count (Reg.dbgDevAccess c) 1
    let b := (bytes.drop d.1).take d.2
    if x.tgt = 2 then s.writeOwn (s.fnOf part) (x.pa - regBase + d.1) b else s.hostPut (x.pa + d.1) b) s

/-- A leg cannot read PCIe memory (R339). -/
def State.legRead (s : State) (x : Xlat) : Bool := x.tgt = 3 && !s.pcie.link

/-! ### LD and LDSX -/

/-- Pieces of a memory access: 16 B to a UC page are two accesses of 8 B, the lower first (R166). -/
def memPieces (attr size : Nat) : List (Nat × Nat) := if attr = Attr.uc then devPieces size else [(0, size)]

/-- The pieces of a lane's store. -/
def memLanes (lane attr pa : Nat) (bytes : List Byte) : List SqLane :=
  (memPieces attr bytes.length).map (fun d =>
    { lane := lane, attr := attr, pa := pa + d.1, bytes := (bytes.drop d.1).take d.2 })

/-- Perform a translated load. -/
def State.loadAt (s : State) (w : Waiter) (part pc va : Nat) (m : MWord) (sext : Bool) (x : Xlat) : State :=
  if x.attr = Attr.dev then s.devLoad w part pc va m sext x
  else
    let l1 := match w with | .lane _ _ _ => m.ch ≠ 2 && x.attr ≠ Attr.uc | .coach _ => false
    (memPieces x.attr m.size).foldl (fun s d =>
      s.memLoad w d.2 (pieceReg w m.vr d.1) sext (x.pa + d.1) l1 (m.ch = 1) (x.attr = Attr.uc)) s

/-- A load by a group or a coach core: its registers await its data. -/
def State.load (s : State) (e : Eng) (w : BitVec 64) (sext : Bool) : Res :=
  let m := mword w
  match e with
  | .simt c slot =>
    s.simt c slot (m.fields.flatMap (fun f => named f.1 f.2)) fun x t =>
      if !m.legal || m.fields.any (fun f => !alignedReg f.1 f.2) then kf Stat.illegal x.lane0
      else if m.fields.any (fun f => !regsBelow x.count f.1 f.2) then kf Stat.regRange x.lane0
      else
        let at' (l : Nat) : Nat := m.addr (x.pack.sreg m.sb) (m.index (x.pack.thread l))
        match x.places t (x.l.xreq false true true) m.size at' with
        | .inr f => x.dataFault t at' f
        | .inl ps =>
          let dev := ps.any (fun p => p.2.attr = Attr.dev)
          match ps.find? (fun p => t.legRead p.2) with
          | some p => x.dataFault t at' { status := Stat.pageFault, lane := p.1, addr := at' p.1, reason := Reason.attr, wait := 0 }
          | none =>
            if dev && (ps.any (fun p => t.devBusy (.lane c slot p.1)) || !t.readRoom (hostReads m.size (ps.map Prod.snd))) then .notReady
            else
              let t := x.tlb t at'
              let t := if dev then t.drainPack c slot else t
              match x.finish t (fun _ th => { th with awaits := th.awaits ++ named m.vr (vecRegs m.size) }) with
              | .ok u => .ok (ps.foldl (fun u p => u.loadAt (.lane c slot p.1) x.l.part x.pc (at' p.1) m sext p.2) u).pump
              | r => r
  | .coach c =>
    s.coachRun c ([m.vr, m.vi, m.sb] ++ (if m.size = 16 then [m.vr + 1] else [])) fun l k t =>
      let wide := m.size = 16
      if !m.legal || !scalarOk m.vr || !scalarOk m.vi || (wide && !alignedReg m.vr 2) then .fault Stat.illegal 0
      else
        let a := m.addr (k.reg m.sb) (m.cIndex k)
        match t.dataXlate l (l.xreq false true true) a m.size with
        | .inr f => t.coachDataFault c l a f
        | .inl x =>
          let dev := x.attr = Attr.dev
          if t.legRead x then t.coachDataFault c l a (Stat.pageFault, Reason.attr)
          else if dev && (t.devBusy (.coach c) || !t.readRoom (hostReads m.size [x])) then .notReady
          else
            let t := t.tlbUse c l.part a
            let t := if dev then t.drainCoach c else t
            let j := (t.core c).coach
            let t := t.setCoach c { j.advance with awaits := j.awaits ++ named m.vr (if wide then 2 else 1) }
            .ok (t.loadAt (.coach c) l.part k.pc a m sext x).pump

/-- LD (0x60). -/
def execLd (e : Eng) (w : BitVec 64) (s : State) : Res := s.load e w false

/-- LDSX (0x61). -/
def execLdsx (e : Eng) (w : BitVec 64) (s : State) : Res := s.load e w true

/-! ### ST -/

/-- The data of a store of the coach core. -/
def Coach.bytesOf (k : Coach) (r size : Nat) : List Byte :=
  leBytes size (k.reg r + (if size = 16 then 2 ^ 64 * k.reg (r + 1) else 0))

/-- ST (0x62). -/
def execSt (e : Eng) (w : BitVec 64) (s : State) : Res :=
  let m := mword w
  match e with
  | .simt c slot =>
    s.simt c slot (m.fields.flatMap (fun f => named f.1 f.2)) fun x t =>
      if !m.legal || m.fields.any (fun f => !alignedReg f.1 f.2) then kf Stat.illegal x.lane0
      else if m.fields.any (fun f => !regsBelow x.count f.1 f.2) then kf Stat.regRange x.lane0
      else
        let at' (l : Nat) : Nat := m.addr (x.pack.sreg m.sb) (m.index (x.pack.thread l))
        match x.places t (x.l.xreq true true true) m.size at' with
        | .inr f => x.dataFault t at' f
        | .inl ps =>
          let devs := ps.filter (fun p => p.2.attr = Attr.dev)
          let mems := ps.filter (fun p => p.2.attr ≠ Attr.dev)
          let data (l : Nat) : List Byte := (x.pack.thread l).bytesOf m.vr m.size
          if devs.any (fun p => t.devBusy (.lane c slot p.1)) then .notReady
          else if devs.isEmpty && 16 ≤ x.pack.sq.length then .wait (sqFull c)
          else
            let t := x.tlb t at'
            let t := if devs.isEmpty then t else t.drainPack c slot
            let t := mems.foldl (fun t p => t.ownStore (.lane c slot p.1) p.2.pa) t
            let entry : SqEntry := { zero := false, lanes := mems.flatMap (fun p =>
              memLanes p.1 p.2.attr p.2.pa (data p.1)) }
            let t := match t.pack c slot with
              | some p => if mems.isEmpty then t else t.setPack c slot { p with sq := p.sq ++ [entry] }
              | none => t
            match x.finish t (fun _ th => th) with
            | .ok u => .ok (devs.foldl (fun u p => u.devStore c x.l.part p.2 (data p.1)) u)
            | r => r
  | .coach c =>
    s.coachRun c ([m.vr, m.vi, m.sb] ++ (if m.size = 16 then [m.vr + 1] else [])) fun l k t =>
      if !m.legal || !scalarOk m.vr || !scalarOk m.vi || (m.size = 16 && !alignedReg m.vr 2) then .fault Stat.illegal 0
      else
        let a := m.addr (k.reg m.sb) (m.cIndex k)
        let data := k.bytesOf m.vr m.size
        match t.dataXlate l (l.xreq true true true) a m.size with
        | .inr f => t.coachDataFault c l a f
        | .inl x =>
          let t := t.tlbUse c l.part a
          if x.attr = Attr.dev then
            if t.devBusy (.coach c) then .notReady
            else
              let t := t.drainCoach c
              .ok ((t.setCoach c (t.core c).coach.advance).devStore c l.part x data)
          else if 16 ≤ k.sq.length then .notReady
          else
            let t := t.ownStore (.coach c) x.pa
            let j := (t.core c).coach
            let entry : SqEntry := { zero := false, lanes := memLanes 0 x.attr x.pa data }
            .ok (t.setCoach c { j.advance with sq := j.sq ++ [entry] })

end Sys2Proof.Machine
end

