-- ==== Sys2Proof/WellFormed.lean ====
section
/-! DEFINITION. Which commands are well formed: every unit number lies in the module's numbering, every field in its
width, and an instruction word carries the opcode of its row. -/

namespace Sys2Proof

/-- An engine of the module: 160 cores, 64 pack slots each (R5, R17). -/
def Eng.wf : Eng → Bool
  | .simt c slot => decide (c < 160) && decide (slot < 64)
  | .coach c => decide (c < 160)

/-- The opcode of an instruction word (R123). -/
def opcode (w : BitVec 64) : Nat := w.toNat % 256

/-- The opcodes of the opcode map (R123); every other one is reserved. -/
def assigned : List Nat := [1, 2, 3, 4, 5, 6, 8, 9, 10, 12, 13, 14, 16, 17, 18, 19, 24, 25, 26, 27, 28, 29, 30, 32, 33, 34, 35, 48, 49, 50, 51, 52, 53, 54, 55, 56, 57, 58, 59, 60, 61, 64, 65, 66, 67, 68, 69, 70, 71, 72, 73, 76, 77, 78, 79, 80, 81, 82, 83, 84, 85, 96, 97, 98, 99, 100, 101, 112, 113, 114, 115, 120, 121, 122, 128, 129, 132, 133, 136, 137, 144, 145, 146, 147, 148, 149, 160, 161, 162, 163, 176]

/-- Well-formedness of a command. -/
def Instr.wf : Instr → Bool
  | .iadd e w => e.wf && decide (opcode w = 1)
  | .isub e w => e.wf && decide (opcode w = 2)
  | .imul e w => e.wf && decide (opcode w = 3)
  | .imulh e w => e.wf && decide (opcode w = 4)
  | .imulhu e w => e.wf && decide (opcode w = 5)
  | .imad e w => e.wf && decide (opcode w = 6)
  | .and e w => e.wf && decide (opcode w = 8)
  | .or e w => e.wf && decide (opcode w = 9)
  | .xor e w => e.wf && decide (opcode w = 10)
  | .shl e w => e.wf && decide (opcode w = 12)
  | .shr e w => e.wf && decide (opcode w = 13)
  | .sar e w => e.wf && decide (opcode w = 14)
  | .imin e w => e.wf && decide (opcode w = 16)
  | .imax e w => e.wf && decide (opcode w = 17)
  | .umin e w => e.wf && decide (opcode w = 18)
  | .umax e w => e.wf && decide (opcode w = 19)
  | .iseq e w => e.wf && decide (opcode w = 24)
  | .isne e w => e.wf && decide (opcode w = 25)
  | .islt e w => e.wf && decide (opcode w = 26)
  | .isle e w => e.wf && decide (opcode w = 27)
  | .isltu e w => e.wf && decide (opcode w = 28)
  | .isleu e w => e.wf && decide (opcode w = 29)
  | .sel e w => e.wf && decide (opcode w = 30)
  | .popc e w => e.wf && decide (opcode w = 32)
  | .clz e w => e.wf && decide (opcode w = 33)
  | .mov e w => e.wf && decide (opcode w = 34)
  | .movs e w => e.wf && decide (opcode w = 35)
  | .sadd e w => e.wf && decide (opcode w = 48)
  | .ssub e w => e.wf && decide (opcode w = 49)
  | .smul e w => e.wf && decide (opcode w = 50)
  | .sand e w => e.wf && decide (opcode w = 51)
  | .sor e w => e.wf && decide (opcode w = 52)
  | .sxor e w => e.wf && decide (opcode w = 53)
  | .sshl e w => e.wf && decide (opcode w = 54)
  | .sshr e w => e.wf && decide (opcode w = 55)
  | .ssar e w => e.wf && decide (opcode w = 56)
  | .smov e w => e.wf && decide (opcode w = 57)
  | .sseq e w => e.wf && decide (opcode w = 58)
  | .sslt e w => e.wf && decide (opcode w = 59)
  | .ssltu e w => e.wf && decide (opcode w = 60)
  | .vtos e w => e.wf && decide (opcode w = 61)
  | .fadd e w => e.wf && decide (opcode w = 64)
  | .fsub e w => e.wf && decide (opcode w = 65)
  | .fmul e w => e.wf && decide (opcode w = 66)
  | .ffma e w => e.wf && decide (opcode w = 67)
  | .fmin e w => e.wf && decide (opcode w = 68)
  | .fmax e w => e.wf && decide (opcode w = 69)
  | .fseq e w => e.wf && decide (opcode w = 70)
  | .fslt e w => e.wf && decide (opcode w = 71)
  | .fsle e w => e.wf && decide (opcode w = 72)
  | .fsun e w => e.wf && decide (opcode w = 73)
  | .frcp e w => e.wf && decide (opcode w = 76)
  | .frsq e w => e.wf && decide (opcode w = 77)
  | .fexp2 e w => e.wf && decide (opcode w = 78)
  | .flog2 e w => e.wf && decide (opcode w = 79)
  | .fsin e w => e.wf && decide (opcode w = 80)
  | .fcos e w => e.wf && decide (opcode w = 81)
  | .cvt e w => e.wf && decide (opcode w = 82)
  | .rndd e w => e.wf && decide (opcode w = 83)
  | .itof e w => e.wf && decide (opcode w = 84)
  | .ftoi e w => e.wf && decide (opcode w = 85)
  | .ld e w => e.wf && decide (opcode w = 96)
  | .ldsx e w => e.wf && decide (opcode w = 97)
  | .st e w => e.wf && decide (opcode w = 98)
  | .lds e w => e.wf && decide (opcode w = 99)
  | .sts e w => e.wf && decide (opcode w = 100)
  | .linez e w => e.wf && decide (opcode w = 101)
  | .atom e w => e.wf && decide (opcode w = 112)
  | .atoms e w => e.wf && decide (opcode w = 113)
  | .ldx e w => e.wf && decide (opcode w = 114)
  | .stx e w => e.wf && decide (opcode w = 115)
  | .fence e w => e.wf && decide (opcode w = 120)
  | .fenceComplete e => e.wf
  | .l1inv e w => e.wf && decide (opcode w = 121)
  | .l1wb e w => e.wf && decide (opcode w = 122)
  | .storeLeavesQueue e _ => e.wf
  | .hurdle e w => e.wf && decide (opcode w = 128)
  | .harrive e w => e.wf && decide (opcode w = 129)
  | .shfl e w => e.wf && decide (opcode w = 132)
  | .vote e w => e.wf && decide (opcode w = 133)
  | .loop e w => e.wf && decide (opcode w = 136)
  | .loopi e w => e.wf && decide (opcode w = 137)
  | .bra e w => e.wf && decide (opcode w = 144)
  | .jmpr e w => e.wf && decide (opcode w = 145)
  | .call e w => e.wf && decide (opcode w = 146)
  | .ret e w => e.wf && decide (opcode w = 147)
  | .exit e w => e.wf && decide (opcode w = 148)
  | .nop e w => e.wf && decide (opcode w = 149)
  | .aspush e w => e.wf && decide (opcode w = 160)
  | .aslvl e w => e.wf && decide (opcode w = 161)
  | .bwait e w => e.wf && decide (opcode w = 162)
  | .bsig e w => e.wf && decide (opcode w = 163)
  | .srd e w => e.wf && decide (opcode w = 176)
  | .teamStart _ => true
  | .kernelBoundary core => decide (core < 160)
  | .kernelComplete _ => true
  | .kernelWatchdogExpiry core dt => decide (core < 160) && decide (dt < 2 ^ 64)
  | .lapLoad _ => true
  | .lapNop core => decide (core < 160)
  | .mm core => decide (core < 160)
  | .stationaryLoad core => decide (core < 160)
  | .stationaryLoadComplete core => decide (core < 160)
  | .mmRetire core => decide (core < 160)
  | .checksumMismatch core _ _ _ => decide (core < 160)
  | .load core => decide (core < 160)
  | .loadComplete core => decide (core < 160)
  | .store core => decide (core < 160)
  | .storeComplete core => decide (core < 160)
  | .feederPageFault core => decide (core < 160)
  | .scale core => decide (core < 160)
  | .waitb core => decide (core < 160)
  | .sigb core => decide (core < 160)
  | .healthStore core => decide (core < 160)
  | .healthClear core => decide (core < 160)
  | .healthSum core => decide (core < 160)
  | .addressProgramRun core => decide (core < 160)
  | .markerPop core => decide (core < 160)
  | .listFetch core _ => decide (core < 160)
  | .pacedBroadcast _ => true
  | .pacedReady core => decide (core < 160)
  | .pacedGo _ => true
  | .lapWatchdogExpiry core dt => decide (core < 160) && decide (dt < 2 ^ 64)
  | .lapLaunchComplete _ => true
  | .slotDataWrite fn core word value => decide (fn ≤ 8) && decide (core < 160) && decide (word < 32) && decide (value < 2 ^ 64)
  | .injectProduct core => decide (core < 160)
  | .injectCell core => decide (core < 160)
  | .rsCounterRead fn off size => decide (fn ≤ 8) && decide (off + size ≤ 2 ^ 26 + 2 ^ 28) && decide (size ≤ 4096)
  | .registerWrite fn off size value _ => decide (fn ≤ 8) && decide (off + size ≤ 2 ^ 26) && decide (size ≤ 4096) && decide (value < 256 ^ size)
  | .rds home line req => decide (home < 20) && decide (line < 2 ^ 32) && decide (req ≤ 20)
  | .rdx home line req => decide (home < 20) && decide (line < 2 ^ 32) && decide (req ≤ 20)
  | .upg home line req => decide (home < 20) && decide (line < 2 ^ 32) && decide (req ≤ 20)
  | .claimz home line req => decide (home < 20) && decide (line < 2 ^ 32) && decide (req ≤ 20)
  | .rdcur home line req => decide (home < 20) && decide (line < 2 ^ 32) && (decide (req ≤ 20) || decide (req = 31))
  | .wrnc home line req _ => decide (home < 20) && decide (line < 2 ^ 32) && (decide (req ≤ 20) || decide (req = 31))
  | .putm home line req _ => decide (home < 20) && decide (line < 2 ^ 32) && decide (req ≤ 20)
  | .puto home line req _ => decide (home < 20) && decide (line < 2 ^ 32) && decide (req ≤ 20)
  | .fwds agent line req => decide (agent ≤ 20) && decide (line < 2 ^ 32) && (decide (req ≤ 20) || decide (req = 31))
  | .fwdx agent line req => decide (agent ≤ 20) && decide (line < 2 ^ 32) && (decide (req ≤ 20) || decide (req = 31))
  | .fwdcur agent line req => decide (agent ≤ 20) && decide (line < 2 ^ 32) && (decide (req ≤ 20) || decide (req = 31))
  | .inv agent line req => decide (agent ≤ 20) && decide (line < 2 ^ 32) && (decide (req ≤ 20) || decide (req = 31))
  | .recall agent line => decide (agent ≤ 20) && decide (line < 2 ^ 32)
  | .datag agent line _ install acks => decide (agent ≤ 20) && decide (line < 2 ^ 32) && decide (install ≤ 3) && decide (acks ≤ 31)
  | .grant agent line install acks => decide (agent ≤ 20) && decide (line < 2 ^ 32) && decide (install ≤ 3) && decide (acks ≤ 31)
  | .data agent line _ _ _ => (decide (agent ≤ 20) || decide (agent = 31)) && decide (line < 2 ^ 32)
  | .fwdmiss home line _ => decide (home < 20) && decide (line < 2 ^ 32)
  | .recalldata home line _ _ => decide (home < 20) && decide (line < 2 ^ 32)
  | .wback agent line _ => decide (agent ≤ 20) && decide (line < 2 ^ 32)
  | .donenc agent line => (decide (agent ≤ 20) || decide (agent = 31)) && decide (line < 2 ^ 32)
  | .invack toHome dst line _ => (if toHome then decide (dst < 20) else decide (dst ≤ 20)) && decide (line < 2 ^ 32)
  | .compack home line _ _ => decide (home < 20) && decide (line < 2 ^ 32)
  | .holdTimeEnd agent line => decide (agent ≤ 20) && decide (line < 2 ^ 32)
  | .agentSilentTimeout agent line cls dt => decide (agent ≤ 20) && decide (line < 2 ^ 32) && decide (cls < 4) && decide (dt < 2 ^ 64)
  | .dirProbe fn _ => decide (fn ≤ 8)
  | .rsPatrol _ _ => true
  | .clearingComplete slice n => if slice then decide (n < 20) else decide (n < 512)
  | .channelHot channel => decide (channel < 64)
  | .channelCool channel dt => decide (channel < 64) && decide (dt < 2 ^ 64)
  | .mapRead fn p => decide (fn ≤ 8) && decide (p < 8)
  | .mapWrite fn p => decide (fn ≤ 8) && decide (p < 8)
  | .translationWalk holder p ctx _ => decide (holder ≤ 188) && decide (p < 8) && decide (ctx < 4096)
  | .bar4Write fn off _ _ => decide (fn ≤ 8) && decide (off < 2 ^ 40)
  | .bar4Read fn off _ => decide (fn ≤ 8) && decide (off < 2 ^ 40)
  | .queueRead fn p => decide (fn ≤ 8) && decide (p < 8)
  | .queueWrite fn p => decide (fn ≤ 8) && decide (p < 8)
  | .queueEnable fn p => decide (fn ≤ 8) && decide (p < 8)
  | .queueDisable fn p => decide (fn ≤ 8) && decide (p < 8)
  | .queueResume fn p => decide (fn ≤ 8) && decide (p < 8)
  | .strDbTail fn q value => decide (fn ≤ 8) && decide (q < 65536) && decide (value < 2 ^ 64)
  | .strDbCqhead fn q value => decide (fn ≤ 8) && decide (q < 65536) && decide (value < 2 ^ 64)
  | .strRing fn p value => decide (fn ≤ 8) && decide (p < 8) && decide (value < 2 ^ 64)
  | .packetDecode q => decide (q < 65536)
  | .schedulerPass p => decide (p < 8)
  | .nopPacket q => decide (q < 65536)
  | .timestamp q => decide (q < 65536)
  | .launchKernel q => decide (q < 65536)
  | .launchLap q => decide (q < 65536)
  | .copy q => decide (q < 65536)
  | .fill q => decide (q < 65536)
  | .waitFence q => decide (q < 65536)
  | .signalFence q => decide (q < 65536)
  | .waitBaton q => decide (q < 65536)
  | .signalBaton q => decide (q < 65536)
  | .openRequest q => decide (q < 65536)
  | .closeRequest q => decide (q < 65536)
  | .sendMessage q => decide (q < 65536)
  | .packetComplete q _ => decide (q < 65536)
  | .deadlineExpiry q _ dt => decide (q < 65536) && decide (dt < 2 ^ 64)
  | .waitTimeout q dt => decide (q < 65536) && decide (dt < 2 ^ 64)
  | .periodStart q dt => decide (q < 65536) && decide (dt < 2 ^ 64)
  | .periodDeadline q dt => decide (q < 65536) && decide (dt < 2 ^ 64)
  | .contextCreate fn p => decide (fn ≤ 8) && decide (p < 8)
  | .contextDestroy fn p => decide (fn ≤ 8) && decide (p < 8)
  | .contextRead fn p => decide (fn ≤ 8) && decide (p < 8)
  | .contextDefunct ctx dt => decide (ctx < 4096) && decide (dt < 2 ^ 64)
  | .mapScanComplete ctx => decide (ctx < 4096)
  | .mobjCreate fn p => decide (fn ≤ 8) && decide (p < 8)
  | .mobjDestroy fn p => decide (fn ≤ 8) && decide (p < 8)
  | .mobjRead fn p => decide (fn ≤ 8) && decide (p < 8)
  | .mobjRelease obj => decide (obj < 2 ^ 20)
  | .fenceCreate fn p => decide (fn ≤ 8) && decide (p < 8)
  | .fenceSignal fn p => decide (fn ≤ 8) && decide (p < 8)
  | .fenceSetexp fn p => decide (fn ≤ 8) && decide (p < 8)
  | .fenceRead fn p => decide (fn ≤ 8) && decide (p < 8)
  | .fenceDestroy fn p => decide (fn ≤ 8) && decide (p < 8)
  | .batonCreate fn p => decide (fn ≤ 8) && decide (p < 8)
  | .batonSignal fn p => decide (fn ≤ 8) && decide (p < 8)
  | .batonRead fn p => decide (fn ≤ 8) && decide (p < 8)
  | .batonDestroy fn p => decide (fn ≤ 8) && decide (p < 8)
  | .requestRead fn p => decide (fn ≤ 8) && decide (p < 8)
  | .frameEnd rec => decide (rec.samples.length = 2000) && rec.samples.all (fun x => decide (x.1 < 65536) && decide (x.2 < 65536)) &&
      decide (rec.rails.length = 12)
  | .ledgerBlock => true
  | .hssReservationWrite _ => true
  | .hssReservationRetry _ dt => decide (dt < 2 ^ 64)
  | .receiptRingWrite ring => decide (ring ≤ 8)
  | .mtrRingCmd fn p value => decide (fn ≤ 8) && decide (p < 8) && decide (value < 2 ^ 64)
  | .note port _ => decide (port < 16)
  | .noteResend _ dt => decide (dt < 2 ^ 64)
  | .groupReceipt _ _ dt => decide (dt < 2 ^ 64)
  | .linkTraining port _ => decide (port < 16)
  | .trainingStepTimeout port _ dt => decide (port < 16) && decide (dt < 2 ^ 64)
  | .trainingBackoffEnd port dt => decide (port < 16) && decide (dt < 2 ^ 64)
  | .laneLockLoss port => decide (port < 16)
  | .flitSend port => decide (port < 16)
  | .flitReceive port _ => decide (port < 16)
  | .replayTimeout port dt => decide (port < 16) && decide (dt < 2 ^ 64)
  | .beacon port _ => decide (port < 16)
  | .beaconSend port dt => decide (port < 16) && decide (dt < 2 ^ 64)
  | .finish port _ _ => decide (port < 16)
  | .authTimeout port dt => decide (port < 16) && decide (dt < 2 ^ 64)
  | .rekey port _ => decide (port < 16)
  | .discoverySettle dt => decide (dt < 2 ^ 64)
  | .peerLost m dt => decide (m < 64) && decide (dt < 2 ^ 64)
  | .send port _ => decide (port < 16)
  | .rwrite port _ => decide (port < 16)
  | .fenceRelay port _ => decide (port < 16)
  | .reduce port _ => decide (port < 16)
  | .reduceResult handle => decide (handle < 8192)
  | .gateway port _ => decide (port < 16)
  | .hostwrite port _ => decide (port < 16)
  | .e2eAck dst _ _ _ => decide (dst < 64)
  | .e2eResendTimeout dst _ dt => decide (dst < 64) && decide (dt < 2 ^ 64)
  | .rnrResend dst _ dt => decide (dst < 64) && decide (dt < 2 ^ 64)
  | .rnrLimitExpiry dst _ dt => decide (dst < 64) && decide (dt < 2 ^ 64)
  | .collTimeout handle dt => decide (handle < 8192) && decide (dt < 2 ^ 64)
  | .quarantineEnd port dt => decide (port < 16) && decide (dt < 2 ^ 64)
  | .quarantineCountClear port dt => decide (port < 16) && decide (dt < 2 ^ 64)
  | .deviceTimeMessage _ _ _ => true
  | .registerRq fn p => decide (fn ≤ 8) && decide (p < 8)
  | .registerWindow fn p => decide (fn ≤ 8) && decide (p < 8)
  | .registerColl fn p => decide (fn ≤ 8) && decide (p < 8)
  | .handleRelease fn p => decide (fn ≤ 8) && decide (p < 8)
  | .handleRead fn p => decide (fn ≤ 8) && decide (p < 8)
  | .lnkRqDb fn p value => decide (fn ≤ 8) && decide (p < 8) && decide (value < 2 ^ 64)
  | .retrain fn port => decide (fn ≤ 8) && decide (port < 16)
  | .unquarantine fn port => decide (fn ≤ 8) && decide (port < 16)
  | .lnkGwDb fn m value => decide (fn ≤ 8) && decide (m < 64) && decide (value < 2 ^ 64)
  | .gwRegRead fn m => decide (fn ≤ 8) && decide (m < 64)
  | .gwRegWrite fn m => decide (fn ≤ 8) && decide (m < 64)
  | .gwApertureWrite fn m off bytes => decide (fn ≤ 8) && decide (m < 64) && decide (off + bytes.length ≤ 0x20000)
  | .read _ _ _ => true
  | .write _ _ => true
  | .check _ => true
  | .apply _ => true
  | .applyBoundary => true
  | .discard _ => true
  | .readJournal _ _ _ => true
  | .hello _ _ key => decide (key.length = 97)
  | .auth _ session _ dt => decide (session < 65536) && decide (dt < 2 ^ 64)
  | .close _ => true
  | .sessionIdleExpiry session dt => decide (session < 65536) && decide (dt < 2 ^ 64)
  | .macLockoutEnd _ dt => decide (dt < 2 ^ 64)
  | .defaults _ => true
  | .configStoreWrite _ dt => decide (dt < 2 ^ 64)
  | .alarmAck _ _ => true
  | .mailboxSubmit fn _ => decide (fn ≤ 8)
  | .fwChunk _ off _ => decide (off < 2 ^ 40)
  | .fwCommit _ _ => true
  | .fwCheckComplete _ => true
  | .fwSvnCommit _ => true
  | .attestNonce _ _ => true
  | .powerCapTick _ _ => true
  | .droopDetect kind _ => decide (kind < 6)
  | .droopRecover kind _ _ => decide (kind < 6)
  | .thermalTick _ dt => decide (dt < 2 ^ 64)
  | .thermalTrip sensor _ => decide (sensor < 64)
  | .regulatorFault rail => decide (rail < 12)
  | .marshalWatchdog dt => decide (dt < 2 ^ 64)
  | .powerUp _ => true
  | .startupStepTimeout _ => true
  | .hifReset fn value _ => decide (fn ≤ 8) && decide (value < 2 ^ 64)
  | .resetN _ _ => true
  | .resetNRelease => true
  | .powerDown _ => true
  | .inputUndervoltage dt => decide (dt < 2 ^ 64)
  | .inputOvervoltage _ => true
  | .inputVoltageMarginal _ => true
  | .inputRemoved dt => decide (dt < 2 ^ 64)
  | .fltTailWrite fn p value => decide (fn ≤ 8) && decide (p < 8) && decide (value < 2 ^ 64)
  | .traceDrain buffer dt => decide (buffer < 22) && decide (dt < 2 ^ 64)
  | .traceTailWrite fn ring value => decide (fn ≤ 8) && decide (ring ≤ 8) && decide (value < 2 ^ 64)
  | .traceRingEnable fn ring => decide (fn ≤ 8) && decide (ring ≤ 8)
  | .traceRingDisable fn ring => decide (fn ≤ 8) && decide (ring ≤ 8)
  | .itraceCopy fn => decide (fn ≤ 8)
  | .freeze fn => decide (fn ≤ 8)
  | .unfreeze fn => decide (fn ≤ 8)
  | .freezeInRise dt => decide (dt < 2 ^ 64)
  | .freezeInFall dt => decide (dt < 2 ^ 64)
  | .freezeInStuck dt => decide (dt < 2 ^ 64)
  | .groupFreezeMessage _ _ _ => true
  | .groupUnfreezeMessage _ _ => true
  | .ptmDialogue _ dt => decide (dt < 2 ^ 64)
  | .ptmSet fn => decide (fn ≤ 8)
  | .pcieFundamentalReset _ => true
  | .pfFlr _ => true
  | .vfFlr vf => (decide (1 ≤ vf) && decide (vf ≤ 8))
  | .d3hotEntry fn => decide (fn ≤ 8)
  | .d0Return fn => decide (fn ≤ 8)
  | .msixUnmask fn _ => decide (fn ≤ 8)
  | .pcieLinkTrained rate width _ => decide (1 ≤ rate) && decide (rate ≤ 6) && [1, 2, 4, 8, 16].contains width
  | .pcieConfigRequest fn _ => decide (fn ≤ 8)
  | .pcieCompletion _ _ => true
  | .pcieCompletionTimeout _ dt => decide (dt < 2 ^ 64)
  | .hpPerstN _ _ => true
  | .hpRefclkLoss _ => true
  | .lkRefclkLoss => true
  | .cableMate port _ => decide (port < 16)
  | .reservedOpcode e w => e.wf && !(assigned.contains (opcode w))
  | .lpddr5xTransferComplete pa _ failures => decide (pa < 2 ^ 39) && decide (failures ≤ 5)
  | .bridgeRetriesExhausted agent cls _ => decide (agent ≤ 20) && decide (cls < 4)
  | .powerDownGraceExpiry dt => decide (dt < 2 ^ 64)
  | .deviceTimeSend dt => decide (dt < 2 ^ 64)
  | .hpRefclkReturn => true
  | .lkRefclkReturn => true
  | .doeRequest _ => true
  | .registerRead fn off size => decide (fn ≤ 8) && decide (off + size ≤ 2 ^ 26 + 2 ^ 28) && decide (size ≤ 4096)

end Sys2Proof
end

