-- ==== Sys2Proof/Machine/Dispatch.lean ====
section
/-! DEFINITION. The dispatcher: one arm for each command. -/

namespace Sys2Proof.Machine

def exec (i : Instr) (s : State) : Host.Outcome State Fault Refusal :=
  match i with
  | .iadd e w => Sys2Proof.Machine.execIadd e w s
  | .isub e w => Sys2Proof.Machine.execIsub e w s
  | .imul e w => Sys2Proof.Machine.execImul e w s
  | .imulh e w => Sys2Proof.Machine.execImulh e w s
  | .imulhu e w => Sys2Proof.Machine.execImulhu e w s
  | .imad e w => Sys2Proof.Machine.execImad e w s
  | .and e w => Sys2Proof.Machine.execAnd e w s
  | .or e w => Sys2Proof.Machine.execOr e w s
  | .xor e w => Sys2Proof.Machine.execXor e w s
  | .shl e w => Sys2Proof.Machine.execShl e w s
  | .shr e w => Sys2Proof.Machine.execShr e w s
  | .sar e w => Sys2Proof.Machine.execSar e w s
  | .imin e w => Sys2Proof.Machine.execImin e w s
  | .imax e w => Sys2Proof.Machine.execImax e w s
  | .umin e w => Sys2Proof.Machine.execUmin e w s
  | .umax e w => Sys2Proof.Machine.execUmax e w s
  | .iseq e w => Sys2Proof.Machine.execIseq e w s
  | .isne e w => Sys2Proof.Machine.execIsne e w s
  | .islt e w => Sys2Proof.Machine.execIslt e w s
  | .isle e w => Sys2Proof.Machine.execIsle e w s
  | .isltu e w => Sys2Proof.Machine.execIsltu e w s
  | .isleu e w => Sys2Proof.Machine.execIsleu e w s
  | .sel e w => Sys2Proof.Machine.execSel e w s
  | .popc e w => Sys2Proof.Machine.execPopc e w s
  | .clz e w => Sys2Proof.Machine.execClz e w s
  | .mov e w => Sys2Proof.Machine.execMov e w s
  | .movs e w => Sys2Proof.Machine.execMovs e w s
  | .sadd e w => Sys2Proof.Machine.execSadd e w s
  | .ssub e w => Sys2Proof.Machine.execSsub e w s
  | .smul e w => Sys2Proof.Machine.execSmul e w s
  | .sand e w => Sys2Proof.Machine.execSand e w s
  | .sor e w => Sys2Proof.Machine.execSor e w s
  | .sxor e w => Sys2Proof.Machine.execSxor e w s
  | .sshl e w => Sys2Proof.Machine.execSshl e w s
  | .sshr e w => Sys2Proof.Machine.execSshr e w s
  | .ssar e w => Sys2Proof.Machine.execSsar e w s
  | .smov e w => Sys2Proof.Machine.execSmov e w s
  | .sseq e w => Sys2Proof.Machine.execSseq e w s
  | .sslt e w => Sys2Proof.Machine.execSslt e w s
  | .ssltu e w => Sys2Proof.Machine.execSsltu e w s
  | .vtos e w => Sys2Proof.Machine.execVtos e w s
  | .fadd e w => Sys2Proof.Machine.execFadd e w s
  | .fsub e w => Sys2Proof.Machine.execFsub e w s
  | .fmul e w => Sys2Proof.Machine.execFmul e w s
  | .ffma e w => Sys2Proof.Machine.execFfma e w s
  | .fmin e w => Sys2Proof.Machine.execFmin e w s
  | .fmax e w => Sys2Proof.Machine.execFmax e w s
  | .fseq e w => Sys2Proof.Machine.execFseq e w s
  | .fslt e w => Sys2Proof.Machine.execFslt e w s
  | .fsle e w => Sys2Proof.Machine.execFsle e w s
  | .fsun e w => Sys2Proof.Machine.execFsun e w s
  | .frcp e w => Sys2Proof.Machine.execFrcp e w s
  | .frsq e w => Sys2Proof.Machine.execFrsq e w s
  | .fexp2 e w => Sys2Proof.Machine.execFexp2 e w s
  | .flog2 e w => Sys2Proof.Machine.execFlog2 e w s
  | .fsin e w => Sys2Proof.Machine.execFsin e w s
  | .fcos e w => Sys2Proof.Machine.execFcos e w s
  | .cvt e w => Sys2Proof.Machine.execCvt e w s
  | .rndd e w => Sys2Proof.Machine.execRndd e w s
  | .itof e w => Sys2Proof.Machine.execItof e w s
  | .ftoi e w => Sys2Proof.Machine.execFtoi e w s
  | .ld e w => Sys2Proof.Machine.execLd e w s
  | .ldsx e w => Sys2Proof.Machine.execLdsx e w s
  | .st e w => Sys2Proof.Machine.execSt e w s
  | .lds e w => Sys2Proof.Machine.execLds e w s
  | .sts e w => Sys2Proof.Machine.execSts e w s
  | .linez e w => Sys2Proof.Machine.execLinez e w s
  | .atom e w => Sys2Proof.Machine.execAtom e w s
  | .atoms e w => Sys2Proof.Machine.execAtoms e w s
  | .ldx e w => Sys2Proof.Machine.execLdx e w s
  | .stx e w => Sys2Proof.Machine.execStx e w s
  | .fence e w => Sys2Proof.Machine.execFence e w s
  | .fenceComplete e => Sys2Proof.Machine.execFenceComplete e s
  | .l1inv e w => Sys2Proof.Machine.execL1inv e w s
  | .l1wb e w => Sys2Proof.Machine.execL1wb e w s
  | .storeLeavesQueue e n => Sys2Proof.Machine.execStoreLeavesQueue e n s
  | .hurdle e w => Sys2Proof.Machine.execHurdle e w s
  | .harrive e w => Sys2Proof.Machine.execHarrive e w s
  | .shfl e w => Sys2Proof.Machine.execShfl e w s
  | .vote e w => Sys2Proof.Machine.execVote e w s
  | .loop e w => Sys2Proof.Machine.execLoop e w s
  | .loopi e w => Sys2Proof.Machine.execLoopi e w s
  | .bra e w => Sys2Proof.Machine.execBra e w s
  | .jmpr e w => Sys2Proof.Machine.execJmpr e w s
  | .call e w => Sys2Proof.Machine.execCall e w s
  | .ret e w => Sys2Proof.Machine.execRet e w s
  | .exit e w => Sys2Proof.Machine.execExit e w s
  | .nop e w => Sys2Proof.Machine.execNop e w s
  | .aspush e w => Sys2Proof.Machine.execAspush e w s
  | .aslvl e w => Sys2Proof.Machine.execAslvl e w s
  | .bwait e w => Sys2Proof.Machine.execBwait e w s
  | .bsig e w => Sys2Proof.Machine.execBsig e w s
  | .srd e w => Sys2Proof.Machine.execSrd e w s
  | .teamStart launch => Sys2Proof.Machine.execTeamStart launch s
  | .kernelBoundary core => Sys2Proof.Machine.execKernelBoundary core s
  | .kernelComplete launch => Sys2Proof.Machine.execKernelComplete launch s
  | .kernelWatchdogExpiry core dt => Sys2Proof.Machine.execKernelWatchdogExpiry core dt s
  | .lapLoad launch => Sys2Proof.Machine.execLapLoad launch s
  | .lapNop core => Sys2Proof.Machine.execLapNop core s
  | .mm core => Sys2Proof.Machine.execMm core s
  | .stationaryLoad core => Sys2Proof.Machine.execStationaryLoad core s
  | .stationaryLoadComplete core => Sys2Proof.Machine.execStationaryLoadComplete core s
  | .mmRetire core => Sys2Proof.Machine.execMmRetire core s
  | .checksumMismatch core product row tile => Sys2Proof.Machine.execChecksumMismatch core product row tile s
  | .load core => Sys2Proof.Machine.execLoad core s
  | .loadComplete core => Sys2Proof.Machine.execLoadComplete core s
  | .store core => Sys2Proof.Machine.execStore core s
  | .storeComplete core => Sys2Proof.Machine.execStoreComplete core s
  | .feederPageFault core => Sys2Proof.Machine.execFeederPageFault core s
  | .scale core => Sys2Proof.Machine.execScale core s
  | .waitb core => Sys2Proof.Machine.execWaitb core s
  | .sigb core => Sys2Proof.Machine.execSigb core s
  | .healthStore core => Sys2Proof.Machine.execHealthStore core s
  | .healthClear core => Sys2Proof.Machine.execHealthClear core s
  | .healthSum core => Sys2Proof.Machine.execHealthSum core s
  | .addressProgramRun core => Sys2Proof.Machine.execAddressProgramRun core s
  | .markerPop core => Sys2Proof.Machine.execMarkerPop core s
  | .listFetch core block => Sys2Proof.Machine.execListFetch core block s
  | .pacedBroadcast launch => Sys2Proof.Machine.execPacedBroadcast launch s
  | .pacedReady core => Sys2Proof.Machine.execPacedReady core s
  | .pacedGo launch => Sys2Proof.Machine.execPacedGo launch s
  | .lapWatchdogExpiry core dt => Sys2Proof.Machine.execLapWatchdogExpiry core dt s
  | .lapLaunchComplete launch => Sys2Proof.Machine.execLapLaunchComplete launch s
  | .slotDataWrite fn core word value => Sys2Proof.Machine.execSlotDataWrite fn core word value s
  | .injectProduct core => Sys2Proof.Machine.execInjectProduct core s
  | .injectCell core => Sys2Proof.Machine.execInjectCell core s
  | .rsCounterRead fn off size => Sys2Proof.Machine.execRsCounterRead fn off size s
  | .registerWrite fn off size value ep => Sys2Proof.Machine.execRegisterWrite fn off size value ep s
  | .rds home line req => Sys2Proof.Machine.execRds home line req s
  | .rdx home line req => Sys2Proof.Machine.execRdx home line req s
  | .upg home line req => Sys2Proof.Machine.execUpg home line req s
  | .claimz home line req => Sys2Proof.Machine.execClaimz home line req s
  | .rdcur home line req => Sys2Proof.Machine.execRdcur home line req s
  | .wrnc home line req bytes => Sys2Proof.Machine.execWrnc home line req bytes s
  | .putm home line req data => Sys2Proof.Machine.execPutm home line req data s
  | .puto home line req data => Sys2Proof.Machine.execPuto home line req data s
  | .fwds agent line req => Sys2Proof.Machine.execFwds agent line req s
  | .fwdx agent line req => Sys2Proof.Machine.execFwdx agent line req s
  | .fwdcur agent line req => Sys2Proof.Machine.execFwdcur agent line req s
  | .inv agent line req => Sys2Proof.Machine.execInv agent line req s
  | .recall agent line => Sys2Proof.Machine.execRecall agent line s
  | .datag agent line data install acks => Sys2Proof.Machine.execDatag agent line data install acks s
  | .grant agent line install acks => Sys2Proof.Machine.execGrant agent line install acks s
  | .data agent line src data mark => Sys2Proof.Machine.execData agent line src data mark s
  | .fwdmiss home line src => Sys2Proof.Machine.execFwdmiss home line src s
  | .recalldata home line src data => Sys2Proof.Machine.execRecalldata home line src data s
  | .wback agent line stale => Sys2Proof.Machine.execWback agent line stale s
  | .donenc agent line => Sys2Proof.Machine.execDonenc agent line s
  | .invack toHome dst line src => Sys2Proof.Machine.execInvack toHome dst line src s
  | .compack home line src dirty => Sys2Proof.Machine.execCompack home line src dirty s
  | .holdTimeEnd agent line => Sys2Proof.Machine.execHoldTimeEnd agent line s
  | .agentSilentTimeout agent line cls dt => Sys2Proof.Machine.execAgentSilentTimeout agent line cls dt s
  | .dirProbe fn pa => Sys2Proof.Machine.execDirProbe fn pa s
  | .rsPatrol corrected bad => Sys2Proof.Machine.execRsPatrol corrected bad s
  | .clearingComplete slice n => Sys2Proof.Machine.execClearingComplete slice n s
  | .channelHot channel => Sys2Proof.Machine.execChannelHot channel s
  | .channelCool channel dt => Sys2Proof.Machine.execChannelCool channel dt s
  | .mapRead fn p => Sys2Proof.Machine.execMapRead fn p s
  | .mapWrite fn p => Sys2Proof.Machine.execMapWrite fn p s
  | .translationWalk holder p ctx va => Sys2Proof.Machine.execTranslationWalk holder p ctx va s
  | .bar4Write fn off bytes ep => Sys2Proof.Machine.execBar4Write fn off bytes ep s
  | .bar4Read fn off len => Sys2Proof.Machine.execBar4Read fn off len s
  | .queueRead fn p => Sys2Proof.Machine.execQueueRead fn p s
  | .queueWrite fn p => Sys2Proof.Machine.execQueueWrite fn p s
  | .queueEnable fn p => Sys2Proof.Machine.execQueueEnable fn p s
  | .queueDisable fn p => Sys2Proof.Machine.execQueueDisable fn p s
  | .queueResume fn p => Sys2Proof.Machine.execQueueResume fn p s
  | .strDbTail fn q value => Sys2Proof.Machine.execStrDbTail fn q value s
  | .strDbCqhead fn q value => Sys2Proof.Machine.execStrDbCqhead fn q value s
  | .strRing fn p value => Sys2Proof.Machine.execStrRing fn p value s
  | .packetDecode q => Sys2Proof.Machine.execPacketDecode q s
  | .schedulerPass p => Sys2Proof.Machine.execSchedulerPass p s
  | .nopPacket q => Sys2Proof.Machine.execNopPacket q s
  | .timestamp q => Sys2Proof.Machine.execTimestamp q s
  | .launchKernel q => Sys2Proof.Machine.execLaunchKernel q s
  | .launchLap q => Sys2Proof.Machine.execLaunchLap q s
  | .copy q => Sys2Proof.Machine.execCopy q s
  | .fill q => Sys2Proof.Machine.execFill q s
  | .waitFence q => Sys2Proof.Machine.execWaitFence q s
  | .signalFence q => Sys2Proof.Machine.execSignalFence q s
  | .waitBaton q => Sys2Proof.Machine.execWaitBaton q s
  | .signalBaton q => Sys2Proof.Machine.execSignalBaton q s
  | .openRequest q => Sys2Proof.Machine.execOpenRequest q s
  | .closeRequest q => Sys2Proof.Machine.execCloseRequest q s
  | .sendMessage q => Sys2Proof.Machine.execSendMessage q s
  | .packetComplete q n => Sys2Proof.Machine.execPacketComplete q n s
  | .deadlineExpiry q n dt => Sys2Proof.Machine.execDeadlineExpiry q n dt s
  | .waitTimeout q dt => Sys2Proof.Machine.execWaitTimeout q dt s
  | .periodStart q dt => Sys2Proof.Machine.execPeriodStart q dt s
  | .periodDeadline q dt => Sys2Proof.Machine.execPeriodDeadline q dt s
  | .contextCreate fn p => Sys2Proof.Machine.execContextCreate fn p s
  | .contextDestroy fn p => Sys2Proof.Machine.execContextDestroy fn p s
  | .contextRead fn p => Sys2Proof.Machine.execContextRead fn p s
  | .contextDefunct ctx dt => Sys2Proof.Machine.execContextDefunct ctx dt s
  | .mapScanComplete ctx => Sys2Proof.Machine.execMapScanComplete ctx s
  | .mobjCreate fn p => Sys2Proof.Machine.execMobjCreate fn p s
  | .mobjDestroy fn p => Sys2Proof.Machine.execMobjDestroy fn p s
  | .mobjRead fn p => Sys2Proof.Machine.execMobjRead fn p s
  | .mobjRelease obj => Sys2Proof.Machine.execMobjRelease obj s
  | .fenceCreate fn p => Sys2Proof.Machine.execFenceCreate fn p s
  | .fenceSignal fn p => Sys2Proof.Machine.execFenceSignal fn p s
  | .fenceSetexp fn p => Sys2Proof.Machine.execFenceSetexp fn p s
  | .fenceRead fn p => Sys2Proof.Machine.execFenceRead fn p s
  | .fenceDestroy fn p => Sys2Proof.Machine.execFenceDestroy fn p s
  | .batonCreate fn p => Sys2Proof.Machine.execBatonCreate fn p s
  | .batonSignal fn p => Sys2Proof.Machine.execBatonSignal fn p s
  | .batonRead fn p => Sys2Proof.Machine.execBatonRead fn p s
  | .batonDestroy fn p => Sys2Proof.Machine.execBatonDestroy fn p s
  | .requestRead fn p => Sys2Proof.Machine.execRequestRead fn p s
  | .frameEnd rec => Sys2Proof.Machine.execFrameEnd rec s
  | .ledgerBlock => Sys2Proof.Machine.execLedgerBlock s
  | .hssReservationWrite ok => Sys2Proof.Machine.execHssReservationWrite ok s
  | .hssReservationRetry ok dt => Sys2Proof.Machine.execHssReservationRetry ok dt s
  | .receiptRingWrite ring => Sys2Proof.Machine.execReceiptRingWrite ring s
  | .mtrRingCmd fn p value => Sys2Proof.Machine.execMtrRingCmd fn p value s
  | .note port msg => Sys2Proof.Machine.execNote port msg s
  | .noteResend n dt => Sys2Proof.Machine.execNoteResend n dt s
  | .groupReceipt reqid tenant dt => Sys2Proof.Machine.execGroupReceipt reqid tenant dt s
  | .linkTraining port result => Sys2Proof.Machine.execLinkTraining port result s
  | .trainingStepTimeout port step dt => Sys2Proof.Machine.execTrainingStepTimeout port step dt s
  | .trainingBackoffEnd port dt => Sys2Proof.Machine.execTrainingBackoffEnd port dt s
  | .laneLockLoss port => Sys2Proof.Machine.execLaneLockLoss port s
  | .flitSend port => Sys2Proof.Machine.execFlitSend port s
  | .flitReceive port flit => Sys2Proof.Machine.execFlitReceive port flit s
  | .replayTimeout port dt => Sys2Proof.Machine.execReplayTimeout port dt s
  | .beacon port beacon => Sys2Proof.Machine.execBeacon port beacon s
  | .beaconSend port dt => Sys2Proof.Machine.execBeaconSend port dt s
  | .finish port sigR sigS => Sys2Proof.Machine.execFinish port sigR sigS s
  | .authTimeout port dt => Sys2Proof.Machine.execAuthTimeout port dt s
  | .rekey port msg => Sys2Proof.Machine.execRekey port msg s
  | .discoverySettle dt => Sys2Proof.Machine.execDiscoverySettle dt s
  | .peerLost m dt => Sys2Proof.Machine.execPeerLost m dt s
  | .send port msg => Sys2Proof.Machine.execSend port msg s
  | .rwrite port msg => Sys2Proof.Machine.execRwrite port msg s
  | .fenceRelay port msg => Sys2Proof.Machine.execFenceRelay port msg s
  | .reduce port msg => Sys2Proof.Machine.execReduce port msg s
  | .reduceResult handle => Sys2Proof.Machine.execReduceResult handle s
  | .gateway port msg => Sys2Proof.Machine.execGateway port msg s
  | .hostwrite port msg => Sys2Proof.Machine.execHostwrite port msg s
  | .e2eAck dst seq result bytes => Sys2Proof.Machine.execE2eAck dst seq result bytes s
  | .e2eResendTimeout dst seq dt => Sys2Proof.Machine.execE2eResendTimeout dst seq dt s
  | .rnrResend dst seq dt => Sys2Proof.Machine.execRnrResend dst seq dt s
  | .rnrLimitExpiry dst seq dt => Sys2Proof.Machine.execRnrLimitExpiry dst seq dt s
  | .collTimeout handle dt => Sys2Proof.Machine.execCollTimeout handle dt s
  | .quarantineEnd port dt => Sys2Proof.Machine.execQuarantineEnd port dt s
  | .quarantineCountClear port dt => Sys2Proof.Machine.execQuarantineCountClear port dt s
  | .deviceTimeMessage src time rtt => Sys2Proof.Machine.execDeviceTimeMessage src time rtt s
  | .registerRq fn p => Sys2Proof.Machine.execRegisterRq fn p s
  | .registerWindow fn p => Sys2Proof.Machine.execRegisterWindow fn p s
  | .registerColl fn p => Sys2Proof.Machine.execRegisterColl fn p s
  | .handleRelease fn p => Sys2Proof.Machine.execHandleRelease fn p s
  | .handleRead fn p => Sys2Proof.Machine.execHandleRead fn p s
  | .lnkRqDb fn p value => Sys2Proof.Machine.execLnkRqDb fn p value s
  | .retrain fn port => Sys2Proof.Machine.execRetrain fn port s
  | .unquarantine fn port => Sys2Proof.Machine.execUnquarantine fn port s
  | .lnkGwDb fn m value => Sys2Proof.Machine.execLnkGwDb fn m value s
  | .gwRegRead fn m => Sys2Proof.Machine.execGwRegRead fn m s
  | .gwRegWrite fn m => Sys2Proof.Machine.execGwRegWrite fn m s
  | .gwApertureWrite fn m off bytes => Sys2Proof.Machine.execGwApertureWrite fn m off bytes s
  | .read src shadow items => Sys2Proof.Machine.execRead src shadow items s
  | .write src items => Sys2Proof.Machine.execWrite src items s
  | .check src => Sys2Proof.Machine.execCheck src s
  | .apply src => Sys2Proof.Machine.execApply src s
  | .applyBoundary => Sys2Proof.Machine.execApplyBoundary s
  | .discard src => Sys2Proof.Machine.execDiscard src s
  | .readJournal src start count => Sys2Proof.Machine.execReadJournal src start count s
  | .hello src principal key => Sys2Proof.Machine.execHello src principal key s
  | .auth src session sig dt => Sys2Proof.Machine.execAuth src session sig dt s
  | .close src => Sys2Proof.Machine.execClose src s
  | .sessionIdleExpiry session dt => Sys2Proof.Machine.execSessionIdleExpiry session dt s
  | .macLockoutEnd mac dt => Sys2Proof.Machine.execMacLockoutEnd mac dt s
  | .defaults src => Sys2Proof.Machine.execDefaults src s
  | .configStoreWrite ok dt => Sys2Proof.Machine.execConfigStoreWrite ok dt s
  | .alarmAck src mask => Sys2Proof.Machine.execAlarmAck src mask s
  | .mailboxSubmit fn len => Sys2Proof.Machine.execMailboxSubmit fn len s
  | .fwChunk src off bytes => Sys2Proof.Machine.execFwChunk src off bytes s
  | .fwCommit src len => Sys2Proof.Machine.execFwCommit src len s
  | .fwCheckComplete result => Sys2Proof.Machine.execFwCheckComplete result s
  | .fwSvnCommit src => Sys2Proof.Machine.execFwSvnCommit src s
  | .attestNonce src nonce => Sys2Proof.Machine.execAttestNonce src nonce s
  | .powerCapTick p100 p10m => Sys2Proof.Machine.execPowerCapTick p100 p10m s
  | .droopDetect kind island => Sys2Proof.Machine.execDroopDetect kind island s
  | .droopRecover kind island ns => Sys2Proof.Machine.execDroopRecover kind island ns s
  | .thermalTick hottest dt => Sys2Proof.Machine.execThermalTick hottest dt s
  | .thermalTrip sensor temp => Sys2Proof.Machine.execThermalTrip sensor temp s
  | .regulatorFault rail => Sys2Proof.Machine.execRegulatorFault rail s
  | .marshalWatchdog dt => Sys2Proof.Machine.execMarshalWatchdog dt s
  | .powerUp result => Sys2Proof.Machine.execPowerUp result s
  | .startupStepTimeout step => Sys2Proof.Machine.execStartupStepTimeout step s
  | .hifReset fn value test => Sys2Proof.Machine.execHifReset fn value test s
  | .resetN ns test => Sys2Proof.Machine.execResetN ns test s
  | .resetNRelease => Sys2Proof.Machine.execResetNRelease s
  | .powerDown src => Sys2Proof.Machine.execPowerDown src s
  | .inputUndervoltage dt => Sys2Proof.Machine.execInputUndervoltage dt s
  | .inputOvervoltage us => Sys2Proof.Machine.execInputOvervoltage us s
  | .inputVoltageMarginal mv => Sys2Proof.Machine.execInputVoltageMarginal mv s
  | .inputRemoved dt => Sys2Proof.Machine.execInputRemoved dt s
  | .fltTailWrite fn p value => Sys2Proof.Machine.execFltTailWrite fn p value s
  | .traceDrain buffer dt => Sys2Proof.Machine.execTraceDrain buffer dt s
  | .traceTailWrite fn ring value => Sys2Proof.Machine.execTraceTailWrite fn ring value s
  | .traceRingEnable fn ring => Sys2Proof.Machine.execTraceRingEnable fn ring s
  | .traceRingDisable fn ring => Sys2Proof.Machine.execTraceRingDisable fn ring s
  | .itraceCopy fn => Sys2Proof.Machine.execItraceCopy fn s
  | .freeze fn => Sys2Proof.Machine.execFreeze fn s
  | .unfreeze fn => Sys2Proof.Machine.execUnfreeze fn s
  | .freezeInRise dt => Sys2Proof.Machine.execFreezeInRise dt s
  | .freezeInFall dt => Sys2Proof.Machine.execFreezeInFall dt s
  | .freezeInStuck dt => Sys2Proof.Machine.execFreezeInStuck dt s
  | .groupFreezeMessage origin id time => Sys2Proof.Machine.execGroupFreezeMessage origin id time s
  | .groupUnfreezeMessage origin id => Sys2Proof.Machine.execGroupUnfreezeMessage origin id s
  | .ptmDialogue master dt => Sys2Proof.Machine.execPtmDialogue master dt s
  | .ptmSet fn => Sys2Proof.Machine.execPtmSet fn s
  | .pcieFundamentalReset test => Sys2Proof.Machine.execPcieFundamentalReset test s
  | .pfFlr test => Sys2Proof.Machine.execPfFlr test s
  | .vfFlr vf => Sys2Proof.Machine.execVfFlr vf s
  | .d3hotEntry fn => Sys2Proof.Machine.execD3hotEntry fn s
  | .d0Return fn => Sys2Proof.Machine.execD0Return fn s
  | .msixUnmask fn vector => Sys2Proof.Machine.execMsixUnmask fn vector s
  | .pcieLinkTrained rate width flit => Sys2Proof.Machine.execPcieLinkTrained rate width flit s
  | .pcieConfigRequest fn op => Sys2Proof.Machine.execPcieConfigRequest fn op s
  | .pcieCompletion tag result => Sys2Proof.Machine.execPcieCompletion tag result s
  | .pcieCompletionTimeout tag dt => Sys2Proof.Machine.execPcieCompletionTimeout tag dt s
  | .hpPerstN ns test => Sys2Proof.Machine.execHpPerstN ns test s
  | .hpRefclkLoss test => Sys2Proof.Machine.execHpRefclkLoss test s
  | .lkRefclkLoss => Sys2Proof.Machine.execLkRefclkLoss s
  | .cableMate port mated => Sys2Proof.Machine.execCableMate port mated s
  | .reservedOpcode e w => Sys2Proof.Machine.execReservedOpcode e w s
  | .lpddr5xTransferComplete pa cause failures => Sys2Proof.Machine.execLpddr5xTransferComplete pa cause failures s
  | .bridgeRetriesExhausted agent cls pa => Sys2Proof.Machine.execBridgeRetriesExhausted agent cls pa s
  | .powerDownGraceExpiry dt => Sys2Proof.Machine.execPowerDownGraceExpiry dt s
  | .deviceTimeSend dt => Sys2Proof.Machine.execDeviceTimeSend dt s
  | .hpRefclkReturn => Sys2Proof.Machine.execHpRefclkReturn s
  | .lkRefclkReturn => Sys2Proof.Machine.execLkRefclkReturn s
  | .doeRequest req => Sys2Proof.Machine.execDoeRequest req s
  | .registerRead fn off size => Sys2Proof.Machine.execRegisterRead fn off size s

end Sys2Proof.Machine
end

