-- ==== Sys2Proof/Safety.lean ====
section
/-! DEFINITION. The terms in which claims are stated: an off module, an instruction that may issue, the state an issue
leaves, and the frames of the families. -/

namespace Sys2Proof.Machine

/-! ### The off module (R389, R435) -/

/-- The module is off after step 6 of R389, and its input has not been removed since. -/
structure State.Off (s : State) : Prop where
  isOff : s.boot.off = true
  notArmed : s.boot.armed = false

/-! ### Issue on the SIMT engine (R14, R121) -/

/-- What issues: core, slot, the pack, its launch, the issue group's pc and lanes, and whether the age rule chose it. -/
structure Group where
  core : Nat
  slot : Nat
  pack : Pack
  lid : Nat
  launch : Launch
  pc : Nat
  lanes : List Nat
  aged : Bool

/-- The group is the one the pack issues next, and the pack its scheduler's choice, in a module that runs work; its fetch
translates and none of its lanes awaits a load into the listed registers. -/
structure Group.Issues (g : Group) (s : State) (regs : List Nat) : Prop where
  core : g.core < s.nCores
  slot : g.slot < 64
  alive : s.alive = true
  kernel : (s.core g.core).kernel = some g.lid
  launch : s.launch g.lid = some g.launch
  pack : s.pack g.core g.slot = some g.pack
  elected : s.elects g.core g.slot = true
  chosen : g.pack.choose = some ((g.pc, g.lanes), g.aged)
  fetch : s.fetchFault g.launch g.pc = none
  ready : g.lanes.any (fun l => (g.pack.thread l).awaits.any (fun r => regs.contains r)) = false

/-- The engine that executes it. -/
def Group.eng (g : Group) : Eng := .simt g.core g.slot

/-- The pack once its issue is counted. -/
def Group.issued (g : Group) : Pack := g.pack.issue g.lanes

/-- The state once the issue is counted, before the instruction's effect. -/
def Group.start (g : Group) (s : State) : State :=
  (s.tlbUse g.core g.launch.part g.pc).issue g.core g.slot g.issued g.lanes g.aged (s.workMeter g.launch)

/-- The issue group as an instruction's meaning sees it. -/
def Group.ctx (g : Group) : Ctx :=
  { core := g.core, slot := g.slot, pack := g.issued, pc := g.pc, lanes := g.lanes, lid := g.lid, l := g.launch }

/-- The state after an instruction that changes each thread of its group by `f` and goes on. -/
def Group.after (g : Group) (s : State) (f : Nat → Thread → Thread) : State :=
  (g.start s).setPack g.core g.slot (g.issued.mapLanes g.lanes (fun l t => { f l t with pc := g.pc + 8 }))

/-- The state after an instruction that changes each thread of its group by `f`, the pc with it. -/
def Group.jumps (g : Group) (s : State) (f : Nat → Thread → Thread) : State :=
  (g.start s).setPack g.core g.slot (g.issued.mapLanes g.lanes f)

/-- The state after an instruction that writes scalar register `d` and goes on. -/
def Group.afterScalar (g : Group) (s : State) (d v : Nat) : State :=
  (g.start s).setPack g.core g.slot
    ((g.issued.setSreg d v).mapLanes g.lanes (fun _ t => { t with pc := g.pc + 8 }))

/-- The state after the instruction faults with a status and no address: its lowest lane carries the fault (R151). -/
def Group.faults (g : Group) (s : State) (status : Nat) : State :=
  (g.start s).kernelFault g.core g.slot g.pc
    { status := status, lane := g.lanes.headD 0, addr := 0, reason := 0, wait := 0 }

/-- A vector register field names an aligned group of `n` registers, each below the kernel's rounded count and at most
v254; 0xFF names none (R122). -/
def Group.holds (g : Group) (r n : Nat) : Prop :=
  r = 255 ∨ (r % n = 0 ∧ r + n ≤ min (roundedRegs g.launch.regs) 255)

/-- The group issues an instruction of format R whose word has no reserved bit set and whose vector register fields, with
the counts of `h`, are each as R122 asks. -/
structure Group.Takes (g : Group) (s : State) (w : BitVec 64) (h : Shape) : Prop where
  clean : (rword w).clean = true
  issues : g.Issues s ((h.fields (rword w)).flatMap (fun o => named o.1 o.2))
  fields : ∀ o ∈ h.fields (rword w), g.holds o.1 o.2

/-- The group issues an instruction of format M or AT whose word holds no reserved value and whose vector register
fields, with their counts, are each as R122 asks. -/
structure Group.Accesses (g : Group) (s : State) (legal : Bool) (fields : List (Nat × Nat)) : Prop where
  legal : legal = true
  issues : g.Issues s (fields.flatMap (fun o => named o.1 o.2))
  fields : ∀ o ∈ fields, g.holds o.1 o.2

/-- The byte address each lane of the group forms from a word of format M: s[SB] + (index << SH) + OFS (R129). -/
def Group.addr (g : Group) (m : MWord) (lane : Nat) : Nat :=
  m.addr (g.pack.sreg m.sb) (m.index (g.pack.thread lane))

/-- The release fence's part of an instruction of scope `scope`: the state it leaves and the stores it waits for. -/
def Group.released (g : Group) (s : State) (scope : Nat) : State × List Nat :=
  (g.start s).packFence g.core g.slot scope 2

/-- Whether the group has waited for its release fence already, or the fence has nothing to wait for. -/
def Group.waited (g : Group) : Bool := g.lanes.all (fun l => (g.issued.thread l).rel)
def Group.atOnce (g : Group) (s : State) (scope : Nat) : Bool :=
  (g.released s scope).2.isEmpty && g.lanes.all (fun l => (g.issued.thread l).awaits.isEmpty)

/-- `a` is the state in which an instruction with a release acts: its release fence is over (R131, R143). -/
def Group.ReleaseOver (g : Group) (s : State) (scope : Nat) (a : State) : Prop :=
  let before := if g.waited then g.start s else (g.released s scope).1
  (g.waited || g.atOnce s scope) = true ∧ ∃ p, before.pack g.core g.slot = some p ∧
    a = before.setPack g.core g.slot (p.mapLanes g.lanes (fun _ t => { t with rel := false }))

/-- `a` is the state in which the group waits for its release fence, to issue the instruction again. -/
def Group.ReleaseWaits (g : Group) (s : State) (scope : Nat) (a : State) : Prop :=
  let r := s.packFence g.core g.slot scope 2
  (g.waited || g.atOnce s scope) = false ∧ ∃ p, r.1.pack g.core g.slot = some p ∧
    a = r.1.setPack g.core g.slot (p.mapLanes g.lanes (fun _ t =>
      { t with wait := fenceWait r.2 t.awaits, rel := true, since := s.time, waitPc := g.pc }))

/-! ### An address program's instruction (R144) -/

/-- What runs on a coach core: the core, its lap, the launch. -/
structure Program where
  core : Nat
  lap : LapRun
  launch : Launch

/-- The coach core executes its next instruction: it runs and does not wait, its fetch translates, and it awaits no load
into the listed registers. -/
structure Program.Runs (g : Program) (s : State) (regs : List Nat) : Prop where
  core : g.core < s.nCores
  alive : s.alive = true
  lap : (s.core g.core).lap = some g.lap
  launch : s.launch g.lap.launch = some g.launch
  running : (s.core g.core).coach.running = true
  idle : (s.core g.core).coach.wait = .none
  fetch : s.fetchFault g.launch (s.core g.core).coach.pc = none
  ready : (s.core g.core).coach.awaits.any (fun r => regs.contains r) = false

/-- The engine that executes it. -/
def Program.eng (g : Program) : Eng := .coach g.core

/-- The state once the instruction is fetched. -/
def Program.start (g : Program) (s : State) : State :=
  let pc := (s.core g.core).coach.pc
  ((s.tlbUse g.core g.launch.part pc).coachFetch g.core g.launch pc).tally (s.workMeter g.launch) Site.coach (g.core / 80) 1

/-- The state after the coach core has become `k`. -/
def Program.after (g : Program) (s : State) (k : Coach) : State := (g.start s).setCoach g.core k

/-- The state after the instruction faults: the lap stops with ADDR_PROG (R91, R144). -/
def Program.faults (g : Program) (s : State) (status : Nat) : State := (g.start s).coachFault g.core status 0

/-! ### Laps and launches -/

/-- An event of the lap on core `c` in a module that runs work: `u` is the state once dispatch has gone on, `l` the lap
and `x` its launch there, which nothing has stopped. -/
structure State.LapAt (s u : State) (c : Nat) (l : LapRun) (x : Launch) : Prop where
  core : c < s.nCores
  alive : s.alive = true
  now : u = s.dispatch c
  lap : u.lapOn c = some (l, x)
  going : lapGoing l x = true

/-- The oldest incomplete command of the lap, which begins nothing yet: its ordinal and word. -/
def LapRun.Oldest (l : LapRun) (ord w : Nat) : Prop :=
  l.pendingCmds.head? = some (ord, w) ∧ ord = l.oldest ∧ l.feeding.any (fun r => r.ord = ord) = false

/-- The feeder's next command, which R85 lets begin. -/
def LapRun.Feeds (l : LapRun) (ord w : Nat) : Prop := l.nextFeed = some (ord, w) ∧ l.mayBegin ord w = true

/-! ### Coherence messages (R186 to R193) -/

/-- The request of agent `req` that a row names. -/
def askMsg (kind home line req data : Nat) (bytes : List (Nat × Byte)) : Msg :=
  { Msg.plain 0 kind line req home true with req := req, data := data % 2 ^ 1024, bytes := bytes }

/-- The forward that a row names, from the line's home. -/
def State.fwdMsg (s : State) (kind agent line req : Nat) : Msg :=
  { Msg.plain 1 kind line ((s.homeOf line).getD 0) agent false with req := req }

/-- The request `b` that a row names reaches the home of its line, which has room for it: `t` is the state once the message has
left the network, `m` the message as it was sent where it was in flight, else `b`. -/
structure State.Asked (s t : State) (b m : Msg) : Prop where
  number : b.dst < 20
  alive : s.alive = true
  isHome : s.homeOf b.line = some b.dst
  room : (s.dir b.dst).waiting.length < 256
  sender : (b.req ≤ 20 ∧ s.agentOn b.req = true) ∨ (b.req = 31 ∧ (b.kind = 4 ∨ b.kind = 5))
  arrived : s.arrive b (some b.req) = some (t, m)
  whole : m.req = b.req

/-- The forward or answer `b` that a row names reaches an agent: `t` and `m` as above. -/
structure State.Told (s t : State) (b m : Msg) (src : Option Nat) : Prop where
  number : b.dst ≤ 20
  alive : s.alive = true
  arrived : s.arrive b src = some (t, m)

/-- The answer `b` that a row names reaches a home whose entry of the line is `e`, busy with `x`. -/
structure State.Owed (s t : State) (b m : Msg) (e : DirEntry) (x : HomeTxn) : Prop where
  number : b.dst < 20
  alive : s.alive = true
  arrived : s.arrive b (some b.src) = some (t, m)
  entry : s.dirEntry b.dst b.line = some e
  busy : e.txn = some x

/-- Nothing is under way in the coherence domain, no cache and no directory holds a line. -/
structure State.Quiet (s : State) : Prop where
  net : s.net = []
  agents : ∀ g ∈ s.agents, g.2.lines = [] ∧ g.2.accepted = [] ∧ g.2.loads = [] ∧ g.2.atoms = []
  dirs : ∀ d ∈ s.dirs, d.2.entries = [] ∧ d.2.waiting = []

/-! ### The Starter's packets (R231, R242, R243) -/

/-- Packet `k`, number `n` of queue `q`, has opcode `op` and is the queue's next one, which the partition's pass starts
with DMA engine `dma`: `t` is the state once everything due on waiting packets is done. -/
structure State.Starts (s t : State) (q op n : Nat) (k : Packet) (dma : Nat) : Prop where
  number : q < 65536
  alive : s.alive = true
  settled : t = s.settle
  fetching : t.fetching = true
  next : (t.queue q).nextStart = some (n, k)
  listed : (t.queue q).packets.look n = some k
  opcode : pOpcode k.raw = op
  chosen : ∃ m, (t.pass (t.qPart q)).2.find? (fun r => r.1 = q) = some (q, m, dma)

/-- The packet in the state `u` in which it has started, its engine begun. -/
structure State.Began (t u : State) (q n dma : Nat) (k p : Packet) : Prop where
  listed : (u.queue q).packets.look n = some p
  started : p.st = .started
  time : p.start = t.time
  raw : p.raw = k.raw
  slot : p.slot = (t.queue q).cur
  engine : p.dma = dma
  waits : p.waitSince = none
  reserved : (u.queue q).reserved = (t.queue q).reserved + 1

/-! ### Host accesses (R12, R419 to R424) -/

/-- A posted write or a read of function `fn` to a BAR (0, 1, 2: BAR0, BAR2, BAR4) reaches the module: the function
exists and is in D0, the BARs answer, and IDE is in force where it is required. -/
structure State.Reaches (s : State) (fn bar : Nat) : Prop where
  number : fn ≤ 8
  present : s.fnOn fn = true
  bars : s.barOn = true
  ide : s.ideOk fn bar = true
  awake : (s.pfn fn).d3 = false

/-! ### Ralxon requests (R350, R358 to R361, R376) -/

/-- The module takes a request in from a source: `t` is the state in which it performs it. -/
def State.Hears (s t : State) : Source → Prop
  | .mailbox => s.barOn = true ∧ s.reg Reg.hifMbxStatus % 2 = 0 ∧ t = s.setReg Reg.hifMbxStatus 1
  | .segment f mac _ => f.via = .own ∧ f.bad = none ∧ s.segmentOn = true ∧ s.recovery = false ∧ s.lockedOut mac = false ∧ t = s
  | .session f n seq tagOk => f.via = .own ∧ f.bad = none ∧ s.segmentOn = true ∧ s.recovery = false ∧ tagOk = true ∧
      ∃ k, s.dict.sessions.look n = some k ∧ k.opened = true ∧ s.lockedOut k.mac = false ∧ k.nextSeq ≤ seq ∧
      t = { s with dict := { s.dict with
        sessions := Tab.put s.dict.sessions n { k with nextSeq := seq + 1, since := s.time } } }

/-! ### Frames -/

/-- What an instruction of a pack that touches no memory leaves: only the cores, the counters in the registers, the metering
counts, the use of free values, the translation caches and what the walk of its fetch leaves in its cluster's cache and on the
way to homes differ, and of the cores only the pack in this slot and the order of issue. -/
structure Group.OnlyPack (g : Group) (s t : State) : Prop where
  rest : t = { s with cores := t.cores, regs := t.regs, pmap := { s.pmap with tlb := t.pmap.tlb },
                      meter := { s.meter with acts := t.meter.acts }, freeCtr := t.freeCtr, agents := t.agents, net := t.net }
  walk : t.agents = (s.tlbUse g.core g.launch.part g.pc).agents ∧ t.net = (s.tlbUse g.core g.launch.part g.pc).net
  others : ∀ c, c ≠ g.core → t.core c = s.core c
  core : t.core g.core = { s.core g.core with packs := (t.core g.core).packs, issue := (t.core g.core).issue }
  slots : ∀ k, k ≠ g.slot → t.pack g.core k = s.pack g.core k
  regs : ∀ o, o ∉ [Reg.dbgSimtIssued g.core, Reg.dbgSimtLanes g.core, Reg.dbgSimtAged g.core,
    Reg.cchXlatMiss g.launch.part, Reg.cchHit (g.core / 8), Reg.cchMiss (g.core / 8)] → t.reg o = s.reg o

end Sys2Proof.Machine
end

