-- ==== Sys2Proof/Certificates/Slice0/Obligations.lean ====
section
/-! DEFINITION. The statements for the provers. -/

open Sys2Proof Sys2Proof.Machine

/-! ### Instructions of a kernel and of an address program (chapter 06) -/

/-- R125: each integer and move instruction of the vector class writes, in every thread of its issue group, the value of
the table of R125 to D, on operands of 32 bits (FMT 0) or 64 bits in register pairs (FMT 1); the group goes on at the
next instruction. B is IMM sign-extended where I is 1. -/
def Obligations.VectorIntegerResults : Prop :=
  ∀ (g : Group) (s : State) (w : BitVec 64),
    let r := rword w
    let n := if r.fmt = 1 then 64 else 32
    let m := if r.fmt = 1 then 2 else 1
    let A (t : Thread) : Nat := if r.fmt = 1 then t.pair r.a else t.reg r.a
    let B (t : Thread) : Nat :=
      if r.isImm then wrapInt n (sx 32 r.imm) else if r.fmt = 1 then t.pair r.b else t.reg r.b
    let C (t : Thread) : Nat := if r.fmt = 1 then t.pair r.c else t.reg r.c
    let done (i : Instr) (v : Thread → Nat) : Prop :=
      exec i s = .next (g.after s (fun _ t => t.setRegs r.d (v t) m))
    r.rnd = 0 → r.fmt ≤ 1 →
    (g.Takes s w { d := m, a := m, b := m, c := 0 } →
      done (.iadd g.eng w) (fun t => (A t + B t) % 2 ^ n) ∧
      done (.isub g.eng w) (fun t => wrapInt n ((A t : Int) - B t)) ∧
      done (.imul g.eng w) (fun t => A t * B t % 2 ^ n) ∧
      done (.and g.eng w) (fun t => A t &&& B t) ∧
      done (.or g.eng w) (fun t => A t ||| B t) ∧
      done (.xor g.eng w) (fun t => A t ^^^ B t) ∧
      done (.shl g.eng w) (fun t => A t * 2 ^ (B t % n) % 2 ^ n) ∧
      done (.shr g.eng w) (fun t => A t / 2 ^ (B t % n)) ∧
      done (.sar g.eng w) (fun t => wrapInt n (sx n (A t) / (2 ^ (B t % n) : Nat))) ∧
      done (.imin g.eng w) (fun t => if sx n (A t) ≤ sx n (B t) then A t else B t) ∧
      done (.imax g.eng w) (fun t => if sx n (B t) ≤ sx n (A t) then A t else B t) ∧
      done (.umin g.eng w) (fun t => min (A t) (B t)) ∧
      done (.umax g.eng w) (fun t => max (A t) (B t)) ∧
      done (.iseq g.eng w) (fun t => if A t = B t then 1 else 0) ∧
      done (.isne g.eng w) (fun t => if A t = B t then 0 else 1) ∧
      done (.islt g.eng w) (fun t => if sx n (A t) < sx n (B t) then 1 else 0) ∧
      done (.isle g.eng w) (fun t => if sx n (A t) ≤ sx n (B t) then 1 else 0) ∧
      done (.isltu g.eng w) (fun t => if A t < B t then 1 else 0) ∧
      done (.isleu g.eng w) (fun t => if A t ≤ B t then 1 else 0)) ∧
    (g.Takes s w { d := m, a := m, b := m, c := 0 } → r.fmt = 0 →
      done (.imulh g.eng w) (fun t => wrapInt 32 (sx 32 (A t) * sx 32 (B t) / (2 ^ 32 : Nat))) ∧
      done (.imulhu g.eng w) (fun t => A t * B t / 2 ^ 32)) ∧
    (g.Takes s w { d := m, a := m, b := m, c := m } → r.isImm = false →
      done (.imad g.eng w) (fun t => (A t * B t + C t) % 2 ^ n) ∧
      done (.sel g.eng w) (fun t => if C t = 0 then B t else A t)) ∧
    (g.Takes s w { d := m, a := m, b := 0, c := 0 } →
      done (.popc g.eng w) (fun t => ((List.range n).filter (fun i => (A t).testBit i)).length) ∧
      ∃ z : Thread → Nat, done (.clz g.eng w) z ∧
        ∀ t, z t ≤ n ∧ A t < 2 ^ (n - z t) ∧ (A t ≠ 0 → 2 ^ (n - 1 - z t) ≤ A t)) ∧
    (g.Takes s w { d := m, a := if r.isImm then 0 else m, b := 0, c := 0 } →
      done (.mov g.eng w) (fun t => if r.isImm then wrapInt n (sx 32 r.imm) else A t)) ∧
    (g.Takes s w { d := m, a := 0, b := 0, c := 0 } → scalarOk r.a = true →
      done (.movs g.eng w) (fun _ => g.pack.sreg r.a % 2 ^ n))

/-- R125, R144: each scalar instruction writes, once for the issue group or on the coach core, the 64-bit value of the
table of R125 to s[D]; field 0xFF reads as zero and discards. VTOS writes the lowest lane's register, or its pair. -/
def Obligations.ScalarResults : Prop :=
  ∀ (s : State) (w : BitVec 64),
    let r := rword w
    let table (A B : Nat) (done : (Eng → BitVec 64 → Instr) → Nat → Prop) : Prop :=
      done .sadd ((A + B) % 2 ^ 64) ∧
      done .ssub ((A + 2 ^ 64 - B) % 2 ^ 64) ∧
      done .smul (A * B % 2 ^ 64) ∧
      done .sand (A &&& B) ∧
      done .sor (A ||| B) ∧
      done .sxor (A ^^^ B) ∧
      done .sshl (A * 2 ^ (B % 64) % 2 ^ 64) ∧
      done .sshr (A / 2 ^ (B % 64)) ∧
      done .ssar (wrapInt 64 (sx 64 A / (2 ^ (B % 64) : Nat))) ∧
      done .sseq (if A = B then 1 else 0) ∧
      done .sslt (if sx 64 A < sx 64 B then 1 else 0) ∧
      done .ssltu (if A < B then 1 else 0)
    r.clean = true → r.rnd = 0 → r.fmt ≤ 1 → scalarOk r.d = true →
    (∀ g : Group, g.Issues s [] → scalarOk r.a = true → (r.isImm = false → scalarOk r.b = true) →
      table (g.pack.sreg r.a) (if r.isImm then wrapInt 64 (sx 32 r.imm) else g.pack.sreg r.b)
        (fun i v => exec (i g.eng w) s = .next (g.afterScalar s r.d v))) ∧
    (∀ c : Program, c.Runs s ([r.d, r.a] ++ if r.isImm then [] else [r.b]) → scalarOk r.a = true →
      (r.isImm = false → scalarOk r.b = true) →
      let k := (s.core c.core).coach
      table (k.reg r.a) (if r.isImm then wrapInt 64 (sx 32 r.imm) else k.reg r.b)
        (fun i v => exec (i c.eng w) s = .next (c.after s (k.setReg r.d v).advance))) ∧
    (∀ g : Group, g.Issues s [] → (r.isImm = false → scalarOk r.a = true) → exec (.smov g.eng w) s =
      .next (g.afterScalar s r.d (if r.isImm then wrapInt 64 (sx 32 r.imm) else g.pack.sreg r.a))) ∧
    (∀ c : Program, c.Runs s (r.d :: if r.isImm then [] else [r.a]) → (r.isImm = false → scalarOk r.a = true) →
      let k := (s.core c.core).coach
      exec (.smov c.eng w) s =
        .next (c.after s (k.setReg r.d (if r.isImm then wrapInt 64 (sx 32 r.imm) else k.reg r.a)).advance)) ∧
    (∀ g : Group, let m := if r.fmt = 1 then 2 else 1
      g.Issues s (named r.a m) → g.holds r.a m →
      exec (.vtos g.eng w) s = .next (g.afterScalar s r.d
        (let t := g.pack.thread (g.lanes.headD 0)
         if r.fmt = 1 then t.pair r.a else t.reg r.a)))

/-- R125, R126: each floating-point and conversion instruction writes, in every thread of its group, the value that
IEEE 754 gives: the exact result rounded once into the format. FMT 1 and 2 act on two 16-bit elements. B is IMM where I
is 1. Class C results are the model's free function within the error bound where the spec states no value. -/
def Obligations.FloatResults : Prop :=
  ∀ (g : Group) (s : State) (w : BitVec 64),
    let r := rword w
    let f : Fmt := if r.fmt = 1 then .bf16 else if r.fmt = 2 then .fp16 else .fp32
    let rm : Rnd := if r.rnd = 2 then .rtz else .rne
    let val (x : Nat) : Machine.Num := decodeElem f x
    let A (t : Thread) : Nat := t.reg r.a
    let B (t : Thread) : Nat := if r.isImm then r.imm else t.reg r.b
    let C (t : Thread) : Nat := t.reg r.c
    let done (i : Instr) (v : Thread → Nat) : Prop :=
      exec i s = .next (g.after s (fun _ t => t.setRegs r.d (v t) 1))
    let round (x : Machine.Num) : Nat := (convertTo f rm x).1
    let below (x y : Nat) : Bool := (val x).lt (val y) ||
      ((val x).eq (val y) && bitOf x (fmtWidth f - 1) && !bitOf y (fmtWidth f - 1))
    let nan (x y : Nat) : Bool := val x = .nan || val y = .nan
    (r.fmt ≤ 2 → r.rnd ≤ 2 → g.Takes s w { d := 1, a := 1, b := 1, c := 0 } →
      done (.fadd g.eng w) (fun t => perElem r.fmt (fun x y _ => round ((val x).add (val y))) (A t) (B t) 0) ∧
      done (.fsub g.eng w) (fun t => perElem r.fmt (fun x y _ => round ((val x).add (val y).neg)) (A t) (B t) 0) ∧
      done (.fmul g.eng w) (fun t => perElem r.fmt (fun x y _ => round ((val x).mul (val y))) (A t) (B t) 0)) ∧
    (r.fmt ≤ 2 → r.rnd ≤ 2 → r.isImm = false → g.Takes s w { d := 1, a := 1, b := 1, c := 1 } →
      done (.ffma g.eng w)
        (fun t => perElem r.fmt (fun x y z => round (((val x).mul (val y)).add (val z))) (A t) (B t) (C t))) ∧
    (r.fmt ≤ 2 → r.rnd = 0 → g.Takes s w { d := 1, a := 1, b := 1, c := 0 } →
      done (.fmin g.eng w) (fun t => perElem r.fmt
        (fun x y _ => if nan x y then fmtNaN f else if below y x then y else x) (A t) (B t) 0) ∧
      done (.fmax g.eng w) (fun t => perElem r.fmt
        (fun x y _ => if nan x y then fmtNaN f else if below x y then y else x) (A t) (B t) 0)) ∧
    (r.fmt = 0 → r.rnd = 0 → g.Takes s w { d := 1, a := 1, b := 1, c := 0 } →
      done (.fseq g.eng w) (fun t => if (val (A t)).eq (val (B t)) then 1 else 0) ∧
      done (.fslt g.eng w) (fun t => if (val (A t)).lt (val (B t)) then 1 else 0) ∧
      done (.fsle g.eng w) (fun t => if (val (A t)).lt (val (B t)) || (val (A t)).eq (val (B t)) then 1 else 0) ∧
      done (.fsun g.eng w) (fun t => if nan (A t) (B t) then 1 else 0)) ∧
    (r.fmt = 0 → r.rnd = 0 → g.Takes s w { d := 1, a := 1, b := 0, c := 0 } →
      done (.frcp g.eng w) (fun t => recip (A t)) ∧
      done (.frsq g.eng w) (fun t => rsqrt (A t)) ∧
      done (.fexp2 g.eng w) (fun t => match val (A t) with
        | .nan => 0x7FC00000 | .inf n => if n then 0 else 0x7F800000 | .fin .. => approxF 0x4E (A t)) ∧
      done (.flog2 g.eng w) (fun t => match val (A t) with
        | .nan => 0x7FC00000 | .inf n => if n then 0x7FC00000 else 0x7F800000
        | .fin neg n _ => if n = 0 then 0xFF800000 else if neg then 0x7FC00000 else approxF 0x4F (A t)) ∧
      done (.fsin g.eng w) (fun t => if (val (A t)).nonfinite then 0x7FC00000 else approxF 0x50 (A t)) ∧
      done (.fcos g.eng w) (fun t => if (val (A t)).nonfinite then 0x7FC00000 else approxF 0x51 (A t))) ∧
    (r.fmt = 0 → r.rnd ≤ 2 → g.Takes s w { d := 1, a := 1, b := 0, c := 0 } →
      done (.itof g.eng w) (fun t => round (.fin (decide (sx 32 (A t) < 0)) (sx 32 (A t)).natAbs 1)) ∧
      done (.ftoi g.eng w) (fun t => ftoi rm (A t))) ∧
    (r.isImm = false → r.b ≤ 10 → r.fmt ≤ 9 → (r.rnd = 3 ∨ r.c = 255) →
      g.Takes s w { d := 1, a := 1, b := 0, c := 1 } →
      done (.cvt g.eng w) (fun t => cvtElem r.b r.fmt r.rnd (A t) (C t))) ∧
    (r.isImm = false → r.fmt = 0 → r.rnd = 0 → scalarOk r.a = true → g.Takes s w { d := 1, a := 0, b := 2, c := 0 } →
      done (.rndd g.eng w) (fun t => srMix (g.pack.sreg r.a) (t.pair r.b) / 2 ^ 32))

/-- R120, R149, R150: control flow, lane exchange and special registers of a kernel. A branch is per thread; a target is
PC + 8 × IMM; field 0xFF at A of BRA is always taken. NOP only goes on. EXIT drains the store queue and ends the threads,
and with the last one of the team, the team; their reservations stay. A pack that its scheduler does not choose issues
nothing. -/
def Obligations.KernelControlFlow : Prop :=
  ∀ (g : Group) (s : State) (w : BitVec 64),
    let r := rword w
    let target : Nat := wrapInt 64 ((g.pc : Int) + 8 * sx 32 r.imm)
    r.clean = true → r.rnd = 0 →
    (r.isImm = true → r.fmt ≤ 1 → g.Issues s (named r.a 1) → g.holds r.a 1 →
      exec (.bra g.eng w) s = .next (g.jumps s fun _ t =>
        { t with pc := if r.a = 255 ∨ (if r.fmt = 0 then t.reg r.a ≠ 0 else t.reg r.a = 0) then target else g.pc + 8 })) ∧
    (g.Issues s (named r.a 2) → g.holds r.a 2 → (∀ l ∈ g.lanes, (g.pack.thread l).pair r.a % 8 = 0) →
      exec (.jmpr g.eng w) s = .next (g.jumps s fun _ t => { t with pc := t.pair r.a }) ∧
      exec (.ret g.eng w) s = .next (g.jumps s fun _ t => { t with pc := t.pair r.a })) ∧
    (r.isImm = true → g.Issues s (named r.d 2) → g.holds r.d 2 →
      exec (.call g.eng w) s = .next (g.jumps s fun _ t => { t.setRegs r.d (g.pc + 8) 2 with pc := target })) ∧
    (g.Issues s [] → exec (.nop g.eng w) s = .next (g.after s fun _ t => t)) ∧
    (∀ k, s.alive = true → g.core < s.nCores → g.slot < 64 → (s.core g.core).kernel = some g.lid →
      s.launch g.lid = some g.launch → s.pack g.core g.slot = some k → k.choose.isSome = true →
      s.elects g.core g.slot = true ∨ exec (.nop g.eng w) s = .next (s.useFree 1)) ∧
    (g.Issues s [] →
      let u := (g.start s).drainPack g.core g.slot
      (∀ p, u.pack g.core g.slot = some p →
        let v := (u.setPack g.core g.slot (p.mapLanes g.lanes fun _ t => { t with exited := true })).hurdles
          g.core g.pack.team
        exec (.exit g.eng w) s = .next
          (if ((v.core g.core).teamPacks g.pack.team).all (fun q => q.2.threads.all (fun t => t.exited))
           then v.endTeam g.core g.pack.team g.lid else v)) ∧
      (g.pack.sq = [] → u = g.start s ∧ u.pack g.core g.slot = some g.issued)) ∧
    (r.fmt = 0 → g.Takes s w { d := 1, a := 1, b := 1, c := 0 } →
      exec (.shfl g.eng w) s = .next (g.after s fun _ t =>
        let other := (if r.isImm then wrapInt 32 (sx 32 r.imm) else t.reg r.b) % 32
        t.setRegs r.d (if other ∈ g.lanes then (g.pack.thread other).reg r.a else t.reg r.a) 1)) ∧
    (r.fmt ≤ 2 → g.Takes s w { d := 1, a := 1, b := 0, c := 0 } →
      let yes := g.lanes.filter (fun l => (g.pack.thread l).reg r.a ≠ 0)
      exec (.vote g.eng w) s = .next (g.after s fun _ t => t.setRegs r.d
        (if r.fmt = 0 then (if yes = [] then 0 else 1)
         else if r.fmt = 1 then (if yes = g.lanes then 1 else 0)
         else (yes.map (2 ^ ·)).sum) 1)) ∧
    (r.isImm = true → r.fmt ≤ 1 → g.Issues s (named r.d (r.fmt + 1)) → g.holds r.d (r.fmt + 1) →
      let srd (v : Nat → Nat) : Prop :=
        exec (.srd g.eng w) s = .next (g.after s fun l t => t.setRegs r.d (v l) (r.fmt + 1))
      (r.imm = 0x00 → srd fun l => l) ∧ (r.imm = 0x01 → srd fun _ => g.pack.pack) ∧ (r.imm = 0x03 → srd fun _ => g.core) ∧
      (r.imm = 0x08 → srd fun _ => (g.lanes.map (2 ^ ·)).sum) ∧ (r.imm = 0x11 → srd fun _ => s.time))

/-- R91, R142, R144 to R150: control flow, hardware loops, the address stream and special registers of an address
program. A taken branch pops the levels its target leaves; LOOP pushes a level of N trips over the LEN + 1 instructions
that follow, or skips them where N is 0; ASPUSH waits for room; EXIT ends the run and pushes its replay's marker. -/
def Obligations.AddressProgramControlFlow : Prop :=
  ∀ (c : Program) (s : State) (w : BitVec 64),
    let r := rword w
    let k := (s.core c.core).coach
    let stream := (s.core c.core).stream
    let target : Nat := wrapInt 64 ((k.pc : Int) + 8 * sx 32 r.imm)
    let inBody := k.loops.any (fun l => decide (l.start ≤ k.pc ∧ k.pc ≤ l.stop))
    let atEnd := k.loops.any (fun l => decide (l.stop = k.pc))
    (r.clean = true → r.rnd = 0 →
      (r.isImm = true → r.fmt ≤ 1 → scalarOk r.a = true → c.Runs s [r.a] → atEnd = false →
        exec (.bra c.eng w) s = .next (c.after s
          (if r.a = 255 ∨ (if r.fmt = 0 then k.reg r.a ≠ 0 else k.reg r.a = 0) then
            { k with pc := target, loops := loopBranch target k.loops } else k.advance))) ∧
      (scalarOk r.a = true → c.Runs s [r.a] → inBody = false → k.reg r.a % 8 = 0 →
        exec (.jmpr c.eng w) s = .next (c.after s (k.goto (k.reg r.a))) ∧
        exec (.ret c.eng w) s = .next (c.after s (k.goto (k.reg r.a)))) ∧
      (r.isImm = true → scalarOk r.d = true → c.Runs s [r.d] → inBody = false →
        exec (.call c.eng w) s = .next (c.after s ((k.setReg r.d (k.pc + 8)).goto target))) ∧
      (c.Runs s [] → exec (.nop c.eng w) s = .next (c.after s k.advance)) ∧
      (c.Runs s [] → atEnd = false → stream.length < 256 → ∃ t, exec (.exit c.eng w) s = .next t ∧
        (t.core c.core).coach = { k with running := false, loops := [] } ∧
        (t.core c.core).lap = some { c.lap with returned := c.lap.returned + 1 } ∧
        (t.core c.core).stream = stream ++ [.marker c.lap.returned]) ∧
      (r.isImm = true → r.fmt ≤ 1 → scalarOk r.d = true → c.Runs s [r.d] →
        let srd (v : Nat) : Prop := exec (.srd c.eng w) s = .next (c.after s (k.setReg r.d v).advance)
        (r.imm = 0x03 → srd c.core) ∧ (r.imm = 0x11 → srd s.time) ∧ (r.imm = 0x24 → srd k.loops.length)) ∧
      (r.isImm = false → scalarOk r.a = true → scalarOk r.b = true → c.Runs s [r.a, r.b] →
        (stream.length < 256 → ∃ t, exec (.aspush c.eng w) s = .next t ∧ (t.core c.core).coach = k.advance ∧
          (t.core c.core).stream = stream ++ [.desc (BitVec.ofNat 128 (k.reg r.a + 2 ^ 64 * k.reg r.b))]) ∧
        (256 ≤ stream.length → exec (.aspush c.eng w) s = .next s)) ∧
      (scalarOk r.d = true → c.Runs s [r.d] →
        exec (.aslvl c.eng w) s = .next (c.after s (k.setReg r.d stream.length).advance))) ∧
    (let n := w.toNat
     let a := fld n 16 8
     let stop := k.pc + 8 * (fld n 32 12 + 1)
     let looped (i : Instr) (trips : Nat) : Prop :=
       (trips = 0 → k.loops.head?.all (fun l => l.stop ≠ stop) = true →
         exec i s = .next (c.after s { k with pc := stop + 8 })) ∧
       (trips ≠ 0 → k.loops.length < 4 → k.loops.head?.all (fun l => stop ≤ l.stop) = true →
         exec i s = .next (c.after s
           { k with loops := { start := k.pc + 8, stop := stop, remaining := trips - 1 } :: k.loops, pc := k.pc + 8 }))
     fld n 8 8 = 0 → fld n 24 8 = 0 → fld n 44 4 = 0 → atEnd = false →
     (fld n 48 16 = 0 → scalarOk a = true → c.Runs s [a] → looped (.loop c.eng w) (k.reg a % 2 ^ 32)) ∧
     (a = 0 → c.Runs s [] → looped (.loopi c.eng w) (fld n 48 16)))

/-- R122 to R125, R144, R151: a word with a reserved bit set, a reserved opcode, or a register field that names no
aligned group faults with ILLEGAL; a register at or above the kernel's count faults with REG_RANGE; and on the coach core
every vector instruction stops the lap with ILLEGAL. -/
def Obligations.IllegalAndRegisterRange : Prop :=
  ∀ (s : State) (w : BitVec 64),
    let r := rword w
    let m := if r.fmt = 1 then 2 else 1
    let vector : List (Eng → BitVec 64 → Instr) :=
      [.iadd, .isub, .imul, .and, .or, .xor, .shl, .shr, .sar, .imin, .imax, .umin, .umax, .iseq, .isne, .islt, .isle,
       .isltu, .isleu]
    (∀ g : Group, g.Issues s [] → exec (.reservedOpcode g.eng w) s = .next (g.faults s Stat.illegal)) ∧
    (∀ c : Program, c.Runs s [] → exec (.reservedOpcode c.eng w) s = .next (c.faults s Stat.illegal)) ∧
    (∀ i ∈ vector, ∀ g : Group,
      let fields := ({ d := m, a := m, b := m, c := 0 } : Shape).fields r
      g.Issues s (fields.flatMap (fun o => named o.1 o.2)) →
      ((r.clean = false ∨ r.rnd ≠ 0 ∨ 1 < r.fmt ∨ ∃ o ∈ fields, o.1 ≠ 255 ∧ o.1 % o.2 ≠ 0) →
        exec (i g.eng w) s = .next (g.faults s Stat.illegal)) ∧
      (r.clean = true → r.rnd = 0 → r.fmt ≤ 1 → (∀ o ∈ fields, o.1 = 255 ∨ o.1 % o.2 = 0) →
        (∃ o ∈ fields, o.1 ≠ 255 ∧ min (roundedRegs g.launch.regs) 255 < o.1 + o.2) →
        exec (i g.eng w) s = .next (g.faults s Stat.regRange))) ∧
    (∀ i ∈ vector ++ [.lds, .sts, .atoms, .l1inv, .l1wb, .hurdle, .harrive, .shfl, .vote], ∀ c : Program, c.Runs s [] →
      exec (i c.eng w) s = .next (c.faults s Stat.illegal))

/-- The frame of the register instructions of a kernel: beside the pack that issues, the issue counters of its core and
the translation cache's, nothing changes: no byte of memory, no other pack, core, register or unit. In the pack the
scalar registers, the store queue and the lanes outside the group stay; in a lane of the group every register but D's
stays and the pc goes on by 8. A scalar instruction leaves every vector register and every scalar one but s[D]. Register
field 0xFF reads as zero and discards (R122); any other register reads what was last written to it, in 32 bits for a vector
register and 64 for a scalar one. -/
def Obligations.RegisterInstructionFrame : Prop :=
  (∀ (g : Group) (s t : State) (w : BitVec 64),
    let r := rword w
    let m := if r.fmt = 1 then 2 else 1
    let integers : List (Eng → BitVec 64 → Instr) :=
      [.iadd, .isub, .imul, .and, .or, .xor, .shl, .shr, .sar, .imin, .imax, .umin, .umax, .iseq, .isne, .islt, .isle,
       .isltu, .isleu]
    let floats : List (Eng → BitVec 64 → Instr) := [.fadd, .fsub, .fmul, .fmin, .fmax]
    let scalars : List (Eng → BitVec 64 → Instr) :=
      [.sadd, .ssub, .smul, .sand, .sor, .sxor, .sshl, .sshr, .ssar, .sseq, .sslt, .ssltu]
    let vectorFrame (d : List Nat) : Prop :=
      g.OnlyPack s t ∧ ∃ p, t.pack g.core g.slot = some p ∧ p.team = g.pack.team ∧ p.pack = g.pack.pack ∧
        p.sregs = g.pack.sregs ∧ p.sq = g.pack.sq ∧ p.slots = g.pack.slots + 1 ∧
        (∀ l, l ∉ g.lanes → p.thread l = g.pack.thread l) ∧
        ∀ l ∈ g.lanes, l < g.pack.threads.length →
          (∀ x, x ∉ d → (p.thread l).reg x = (g.pack.thread l).reg x) ∧
          p.thread l = { g.pack.thread l with
            v := (p.thread l).v, pc := g.pc + 8, lastIssue := g.pack.slots + 1 }
    (∀ i ∈ integers, r.rnd = 0 → r.fmt ≤ 1 → g.Takes s w { d := m, a := m, b := m, c := 0 } →
      exec (i g.eng w) s = .next t → vectorFrame (named r.d m)) ∧
    (∀ i ∈ floats, r.rnd = 0 → r.fmt ≤ 2 → g.Takes s w { d := 1, a := 1, b := 1, c := 0 } →
      exec (i g.eng w) s = .next t → vectorFrame (named r.d 1)) ∧
    (∀ i ∈ scalars, r.clean = true → r.rnd = 0 → r.fmt ≤ 1 → scalarOk r.d = true → scalarOk r.a = true →
      (r.isImm = false → scalarOk r.b = true) → g.Issues s [] → exec (i g.eng w) s = .next t →
      g.OnlyPack s t ∧ ∃ p, t.pack g.core g.slot = some p ∧ p.sq = g.pack.sq ∧
        (∀ x, x ≠ r.d → p.sreg x = g.pack.sreg x) ∧
        (∀ l, l ∉ g.lanes → p.thread l = g.pack.thread l) ∧
        ∀ l ∈ g.lanes, l < g.pack.threads.length →
          p.thread l = { g.pack.thread l with pc := g.pc + 8, lastIssue := g.pack.slots + 1 })) ∧
  (∀ (t : Thread) (x : Nat), t.reg 255 = 0 ∧ t.setReg 255 x = t ∧ t.pair 255 = 0 ∧ ∀ n, t.setRegs 255 x n = t) ∧
  (∀ (p : Pack) (x : Nat), p.sreg 255 = 0 ∧ p.setSreg 255 x = p) ∧
  (∀ (k : Coach) (x : Nat), k.reg 255 = 0 ∧ k.setReg 255 x = k) ∧
  (∀ (t : Thread) (r q x : Nat), r ≠ 255 → (t.setReg r x).reg r = x % 2 ^ 32 ∧
    (q ≠ r → (t.setReg r x).reg q = t.reg q)) ∧
  (∀ (t : Thread) (r x : Nat), r < 254 → (t.setRegs r x 2).pair r = x % 2 ^ 64) ∧
  (∀ (p : Pack) (r q x : Nat), r < 64 → (p.setSreg r x).sreg r = x % 2 ^ 64 ∧
    (q ≠ r → (p.setSreg r x).sreg q = p.sreg q)) ∧
  (∀ (k : Coach) (r q x : Nat), r < 64 → (k.setReg r x).reg r = x % 2 ^ 64 ∧
    (q ≠ r → (k.setReg r x).reg q = k.reg q))

/-! ### Memory instructions (chapters 06 and 07) -/

/-- R128, R129, R154, R162: a load of a kernel makes its registers await the data and goes on, each lane's access then
performed at its place; a store joins the pack's store queue as one entry of the lanes' addresses and bytes, 16 B of a UC page as
two pieces of 8 B (R166), and touches no memory before it leaves the queue; a full queue takes none. -/
def Obligations.KernelLoadsAndStores : Prop :=
  ∀ (g : Group) (s : State) (w : BitVec 64) (ps : List (Nat × Xlat)),
    let m := mword w
    let a := g.addr m
    let queued (t : State) (e : SqEntry) : Prop :=
      t = { s with cores := t.cores, regs := t.regs, pmap := { s.pmap with tlb := t.pmap.tlb },
                   meter := { s.meter with acts := t.meter.acts }, freeCtr := t.freeCtr, agents := t.agents, net := t.net } ∧
      t.agents = (g.ctx.tlb (g.start s) a).agents ∧ t.net = (g.ctx.tlb (g.start s) a).net ∧
      ∃ p, t.pack g.core g.slot = some p ∧ p.sq = g.pack.sq ++ [e] ∧ ∀ l ∈ g.lanes, l < g.pack.threads.length →
        (p.thread l).pc = g.pc + 8 ∧ (p.thread l).v = (g.pack.thread l).v
    (g.Accesses s m.legal m.fields →
      g.ctx.places (g.start s) (g.launch.xreq false true true) m.size a = .inl ps →
      (∀ p ∈ ps, p.2.attr ≠ Attr.dev ∧ (g.start s).legRead p.2 = false) →
      let u := (g.ctx.tlb (g.start s) a).setPack g.core g.slot (g.issued.mapLanes g.lanes fun _ t =>
        { t with awaits := t.awaits ++ named m.vr (vecRegs m.size), pc := g.pc + 8 })
      let load (sext : Bool) : State := (ps.foldl (fun u p =>
        u.loadAt (.lane g.core g.slot p.1) g.launch.part g.pc (a p.1) m sext p.2) u).pump
      exec (.ld g.eng w) s = .next (load false) ∧ exec (.ldsx g.eng w) s = .next (load true)) ∧
    (g.Accesses s m.legal m.fields →
      g.ctx.places (g.start s) (g.launch.xreq true true true) m.size a = .inl ps →
      ps ≠ [] → (∀ p ∈ ps, p.2.attr ≠ Attr.dev) →
      (g.pack.sq.length < 16 → ∃ t, exec (.st g.eng w) s = .next t ∧ queued t
        { zero := false, lanes := ps.flatMap (fun p => memLanes p.1 p.2.attr p.2.pa ((g.pack.thread p.1).bytesOf m.vr m.size)) }) ∧
      (16 ≤ g.pack.sq.length → exec (.st g.eng w) s = .next (sqFull g.core s))) ∧
    (g.Issues s (named m.vi (if m.xm = 2 then 2 else 1)) → g.holds m.vi (if m.xm = 2 then 2 else 1) →
      m.legal = true → m.vr = 255 → m.sz = 0 →
      g.ctx.places (g.start s) (g.launch.xreq true true true) 128 a = .inl ps →
      (∀ p ∈ ps, p.2.attr ≠ Attr.dev) → (ps.map fun p => p.2.pa).Nodup → g.pack.sq.length < 16 →
      ∃ t, exec (.linez g.eng w) s = .next t ∧ queued t { zero := true, lanes := ps.map fun p =>
        { lane := p.1, attr := p.2.attr, pa := p.2.pa, bytes := List.replicate 128 0#8 } })

/-- R129, R213: the first lane's access that is not naturally aligned faults with ALIGN, and one whose page does not
translate faults with PAGE_FAULT and its reason, its walk counted (R214); each carries the lane and the address. -/
def Obligations.AlignmentAndPageFaults : Prop :=
  ∀ (g : Group) (s : State) (w : BitVec 64) (l reason : Nat) (ls : List Nat),
    let m := mword w
    let fault (st why : Nat) : KFault := { status := st, lane := l, addr := g.addr m l, reason := why, wait := 0 }
    let i := g.start s
    g.Accesses s m.legal m.fields → g.lanes = l :: ls →
    (g.addr m l % m.size ≠ 0 →
      exec (.ld g.eng w) s = .next (i.kernelFault g.core g.slot g.pc (fault Stat.align 0)) ∧
      exec (.ldsx g.eng w) s = .next (i.kernelFault g.core g.slot g.pc (fault Stat.align 0)) ∧
      exec (.st g.eng w) s = .next (i.kernelFault g.core g.slot g.pc (fault Stat.align 0))) ∧
    (g.addr m l % m.size = 0 → i.stale g.launch.part g.launch.stamp (g.addr m l) = false →
      i.translate g.launch.part (g.launch.xreq true true true) (g.addr m l) = .inr reason →
      let walked := (g.lanes.filter (· ≤ l)).foldl (fun i k => i.tlbUse g.core g.launch.part (g.addr m k)) i
      exec (.st g.eng w) s = .next ((walked.countPf g.launch.part).kernelFault g.core g.slot g.pc (fault Stat.pageFault reason)))

/-- R130, R133: LDS reads and STS writes the team's scratch at (index << SH) + OFS; ATOMS performs one combined operation
for each address, in lane order; an access at or beyond the team's declared scratch faults with SCRATCH_RANGE. Nothing
else in memory changes. -/
def Obligations.TeamScratch : Prop :=
  ∀ (g : Group) (s : State) (w : BitVec 64) (team : Team),
    let m := mword w
    let o (l : Nat) : Nat := m.addr 0 (m.index (g.pack.thread l))
    let fits (l : Nat) : Prop := o l % m.size = 0 ∧ o l + m.size ≤ g.launch.scratch * 1024
    let n := aword w
    let oa (l : Nat) : Nat := (g.issued.thread l).reg n.a
    (s.core g.core).teams.look g.pack.team = some team →
    (g.Accesses s (m.legal && m.sb = 0 && m.xm = 0) m.fields →
      ((∀ l ∈ g.lanes, fits l) →
        exec (.lds g.eng w) s =
          .next (g.after s fun l t => t.setRegs m.vr (leNat (team.bytes (o l) m.size)) (vecRegs m.size)) ∧
        ∃ t, exec (.sts g.eng w) s = .next t ∧ t.dram = s.dram ∧ t.rstore = s.rstore ∧ t.agents = s.agents ∧
          (t.core g.core).teams.look g.pack.team =
            some (g.lanes.foldl (fun x l => x.write (o l) ((g.pack.thread l).bytesOf m.vr m.size)) team)) ∧
      (∀ l ls, g.lanes = l :: ls → o l % m.size = 0 → g.launch.scratch * 1024 < o l + m.size →
        ∀ i ∈ [Instr.lds g.eng w, .sts g.eng w], exec i s = .next ((g.start s).kernelFault g.core g.slot g.pc
          { status := Stat.scratchRange, lane := l, addr := o l, reason := 0, wait := 0 }))) ∧
    (g.Accesses s (n.legal 0) (n.fields 0 true) →
      (∀ l ∈ g.lanes, oa l % n.size = 0 ∧ oa l + n.size ≤ g.launch.scratch * 1024) →
      (∀ a team, (if n.release then g.ReleaseOver s n.scope a else a = g.start s) →
        (a.core g.core).teams.look g.pack.team = some team →
        ∃ t, exec (.atoms g.eng w) s = .next t ∧ t.dram = a.dram ∧ t.rstore = a.rstore ∧ t.agents = a.agents ∧
          (t.core g.core).teams.look g.pack.team = some ((distinct (g.lanes.map oa)).foldl (fun x o =>
            let named := (g.lanes.filter fun l => oa l = o).map fun l =>
              (l, (g.issued.thread l).operand n.b n.size, (g.issued.thread l).operand n.c n.size)
            x.write o (leBytes n.size (atomOp n.size n.aop named (leNat (x.bytes o n.size))).2)) team)) ∧
      (n.release = true → ∀ a, g.ReleaseWaits s n.scope a → exec (.atoms g.eng w) s = .next a))

/-- R133: the combined operation of one address on `n`-bit values. For integer ADD each lane, in ascending order,
receives the old value plus the operands of the lanes below it, and the sum of all is stored; an exchange hands the value
along; a compare-and-swap stores a lane's operand where the running value equals its compare value; every lane of a
floating add receives the old value. -/
def Obligations.CombinedAtomicResults : Prop :=
  ∀ (size old : Nat) (lanes : List (Nat × Nat × Nat)),
    let n := 8 * size
    old < 2 ^ n → (∀ l ∈ lanes, l.2.1 < 2 ^ n ∧ l.2.2 < 2 ^ n) →
    ((atomOp size 0 lanes old).2 = (old + (lanes.map fun l => l.2.1).sum) % 2 ^ n ∧
      ∀ i (h : i < lanes.length), (atomOp size 0 lanes old).1[i]? =
        some (lanes[i].1, (old + ((lanes.take i).map fun l => l.2.1).sum) % 2 ^ n)) ∧
    ((atomOp size 8 lanes old).2 = (lanes.getLast?.map fun l => l.2.1).getD old ∧
      ∀ i (h : i < lanes.length), (atomOp size 8 lanes old).1[i]? =
        some (lanes[i].1, ((lanes.take i).getLast?.map fun l => l.2.1).getD old)) ∧
    (∀ lane b c, b < 2 ^ n → c < 2 ^ n →
      atomOp size 9 [(lane, b, c)] old = ([(lane, old)], if old = c then b else old)) ∧
    (atomOp size 10 lanes old).1 = lanes.map fun l => (l.1, old)

/-- R131 to R135: an atomic or a reservation of a group, after the release fence its ORD asks for, drains the pack's store queue, takes the lines out of
the L1 (STX does not) and sends one combined access for each address, STX one for each lane in lane order, to the agent that
performs it; its threads wait for the results. An access to a DEV region, or of LDX and STX to a UC one, faults with ATOM_REGION. -/
def Obligations.AtomicsAndReservations : Prop :=
  ∀ (g : Group) (s : State) (w : BitVec 64) (ps : List (Nat × Xlat)),
    let m := aword w
    let a (l : Nat) : Nat := (g.issued.thread l).pair m.a
    let cases (kind : Nat) (i : Instr) : Prop :=
      let region (p : Xlat) : Bool := p.attr = Attr.dev || (kind != 0 && p.attr = Attr.uc)
      g.Accesses s (m.legal kind) (m.fields kind false) →
      g.ctx.places (g.start s) (g.launch.xreq (kind != 1) true false) m.size a = .inl ps →
      (∀ p, ps.find? (fun p => region p.2) = some p → exec i s = .next ((g.start s).kernelFault g.core g.slot g.pc
        { status := Stat.atomRegion, lane := p.1, addr := a p.1, reason := 0, wait := 0 })) ∧
      (ps.all (fun p => !region p.2) = true →
        (∀ a0, (if m.release then g.ReleaseOver s m.scope a0 else a0 = g.start s) →
          let u := (g.ctx.tlb a0 a).drainPack g.core g.slot
          let u := if kind = 2 then u else (distinct (ps.map fun p => p.2.pa / 128)).foldl (fun u line =>
            (u.l1WriteBack g.core line).setCore g.core (((u.l1WriteBack g.core line).core g.core).l1Drop line)) u
          let access (pa : Nat) (ps : List (Nat × Xlat)) : AtomWait :=
            { who := .lane g.core g.slot 0, kind := kind, pa := pa, size := m.size, aop := m.aop, asked := false,
              lanes := ps.map fun p => (p.1, m.d,
                (g.issued.thread p.1).operand m.b m.size, (g.issued.thread p.1).operand m.c m.size) }
          let each : List AtomWait := if kind = 2 then ps.map fun p => access p.2.pa [p]
            else (distinct (ps.map fun p => p.2.pa)).map fun pa => access pa (ps.filter fun p => p.2.pa = pa)
          let u := if kind = 0 then u.count (Reg.dbgSimtAtoms g.core) each.length else u
          ∀ p, u.pack g.core g.slot = some p → exec i s = .next
            ((each.foldl (fun u x => u.sendAtom (g.core / 8) x) (u.setPack g.core g.slot (p.mapLanes g.lanes fun _ t =>
              { t with wait := .access, acq := m.acquire, since := u.time, waitPc := g.pc, pc := g.pc + 8 }))).pump)) ∧
        (m.release = true → ∀ b, g.ReleaseWaits s m.scope b → exec i s = .next b))
    cases 0 (.atom g.eng w) ∧ cases 1 (.ldx g.eng w) ∧ cases 2 (.stx g.eng w)

/-- R136, R137, R160, R162: FENCE does its part at once and makes the group wait for what it must, FENCE_COMPLETE ends the
waits whose stores are performed and whose loads have returned; L1WB writes the core's dirty lines back, and L1INV also
drops every line; a store leaves its queue for its place, and a younger one before an older only where they share no
byte. R161: a coach core's fence waits for nothing at CORE scope, for its own stores at CLUSTER and for every store in the cluster
cache at SYS. -/
def Obligations.FencesAndStoreQueues : Prop :=
  ∀ (g : Group) (c : Program) (s : State) (w : BitVec 64),
    let f := fword w
    let waits (ids : List Nat) (t : Thread) : Thread :=
      { t with wait := fenceWait ids t.awaits, since := s.time, waitPc := g.pc, pc := g.pc + 8 }
    (f.clean = true → f.sc ≤ 2 → f.type ≤ 2 →
      (g.Issues s [] →
        let r := (g.start s).packFence g.core g.slot f.sc f.type
        (∀ p, r.1.pack g.core g.slot = some p →
          exec (.fence g.eng w) s = .next (r.1.setPack g.core g.slot (p.mapLanes g.lanes fun _ t => waits r.2 t))) ∧
        (g.pack.sq = [] → (f.sc = 0 ∨ f.type = 1) → r = (g.start s, []))) ∧
      (c.Runs s [] →
        let r := (c.start s).coachFence c.core f.sc f.type
        let k := (r.1.core c.core).coach
        let in' (p : Accepted → Bool) : List Nat := ((r.1.agent (c.core / 8)).accepted.filter p).map fun a => a.id
        exec (.fence c.eng w) s = .next (r.1.setCoach c.core
          { k.advance with wait := fenceWait r.2 k.awaits, since := s.time }) ∧
        ((f.sc = 0 ∨ f.type = 1) → r.2 = []) ∧
        (f.type ≠ 1 → f.sc = 1 → r.2 = in' fun a => a.core = some c.core) ∧
        (f.type ≠ 1 → f.sc = 2 → r.2 = in' fun a => a.core = some c.core || a.core.isNone || a.nc))) ∧
    (∀ p, s.boot.off = false → g.core < s.nCores → g.slot < 64 → s.pack g.core g.slot = some p →
      let ids := (s.agent (g.core / 8)).accepted.map fun a => a.id
      let ended (t : Thread) : Bool := fenceOver ids t.wait t.awaits
      p.threads.any ended = true → ∃ t q, exec (.fenceComplete g.eng) s = .next t ∧ t.pack g.core g.slot = some q ∧
        q.threads = p.threads.map (fun t => if ended t then { t with wait := .none } else t) ∧
        t.dram = s.dram ∧ t.rstore = s.rstore ∧ t.agents = s.agents) ∧
    (s.boot.off = false → c.core < s.nCores →
      let k := (s.core c.core).coach
      fenceOver ((s.agent (c.core / 8)).accepted.map fun a => a.id) k.wait k.awaits = true →
      exec (.fenceComplete c.eng) s = .next (s.setCoach c.core { k with wait := .none })) ∧
    (g.Issues s [] → f.clean = true → f.sc = 0 → f.type = 0 →
      let u := ((g.start s).l1WriteAll g.core).1.pump
      let v := u.setCore g.core { u.core g.core with l1 := [] }
      (∀ p, u.pack g.core g.slot = some p → exec (.l1wb g.eng w) s =
        .next (u.setPack g.core g.slot (p.mapLanes g.lanes fun _ t => { t with pc := g.pc + 8 }))) ∧
      (∀ p, v.pack g.core g.slot = some p → exec (.l1inv g.eng w) s =
        .next (v.setPack g.core g.slot (p.mapLanes g.lanes fun _ t => { t with pc := g.pc + 8 })))) ∧
    (∀ p n x, s.boot.off = false → g.core < s.nCores → g.slot < 64 → s.pack g.core g.slot = some p → p.sq[n]? = some x →
      (∀ y ∈ p.sq.take n, ∀ a ∈ y.lanes, ∀ b ∈ x.lanes,
        a.pa + a.bytes.length ≤ b.pa ∨ b.pa + b.bytes.length ≤ a.pa) →
      exec (.storeLeavesQueue g.eng n) s = .next
        (((s.setPack g.core g.slot { p with sq := p.sq.eraseIdx n }).entryLeave g.core x).pump)) ∧
    (∀ n x, s.boot.off = false → c.core < s.nCores →
      let k := (s.core c.core).coach
      k.sq[n]? = some x → (∀ y ∈ k.sq.take n, ∀ a ∈ y.lanes, ∀ b ∈ x.lanes,
        a.pa + a.bytes.length ≤ b.pa ∨ b.pa + b.bytes.length ≤ a.pa) →
      exec (.storeLeavesQueue c.eng n) s = .next
        ((s.setCoach c.core { k with sq := k.sq.eraseIdx n }).coachLeave c.core x).pump)

/-- R138 to R140: each thread of the group arrives at the hurdle named by bits 17:16; HURDLE makes it wait for the
team's current generation and does not arrive again where the thread already has, HARRIVE goes on; a generation completes
when every thread that has not exited has arrived in it, and then no thread waits for it. -/
def Obligations.HurdleGenerations : Prop :=
  (∀ (g : Group) (s : State) (w : BitVec 64),
    let f := fword w
    let gen := match (s.core g.core).teams.look g.pack.team with | some m => nth 0 m.gens f.sc | none => 0
    let arrive (t : Thread) : Thread := { t with arrivals := setNth t.arrivals f.sc (nth 0 t.arrivals f.sc + 1) }
    let wait (t : Thread) : Thread := { t with wait := .hurdle f.sc gen, since := s.time, waitPc := g.pc }
    g.Issues s [] → f.clean = true → f.type = 0 → g.pack.sq = [] →
    g.lanes.any (fun l => !(g.pack.thread l).awaits.isEmpty) = false →
    exec (.harrive g.eng w) s = .next ((g.after s fun _ t => arrive t).hurdles g.core g.pack.team) ∧
    exec (.hurdle g.eng w) s = .next ((g.after s fun _ t =>
      wait (if nth 0 t.arrivals f.sc ≤ gen then arrive t else t)).hurdles g.core g.pack.team)) ∧
  (∀ (s : State) (c team : Nat) (t : Team) (id : Nat), id < 4 → (s.core c).teams.look team = some t →
    let live := ((s.core c).teamPacks team).flatMap (fun p => p.2.threads.filter fun x => !x.exited)
    live ≠ [] → (∀ x ∈ live, nth 0 t.gens id < nth 0 x.arrivals id) →
    ∃ u, ((s.hurdles c team).core c).teams.look team = some u ∧ nth 0 t.gens id < nth 0 u.gens id ∧
      ∀ p ∈ ((s.hurdles c team).core c).packs, p.2.team = team → ∀ x ∈ p.2.threads,
        x.wait ≠ .hurdle id (nth 0 t.gens id))

/-- R18, R143, R272, R273: BWAIT takes a unit of a baton of its partition whose value is not 0 and goes on, else waits in
place; BSIG, once the group's earlier accesses are ordered, adds its count and releases waiters in the order they began;
a number above 8191 or a count outside 1 to 65535 faults with BAD_BATON. -/
def Obligations.KernelBatons : Prop :=
  ∀ (g : Group) (c : Program) (s : State) (w : BitVec 64),
    let r := rword w
    let i := g.start s
    let j := c.start s
    let k := (s.core c.core).coach
    (let o := batonOp r false g.pack.sreg
     let x := s.baton o.baton
     g.Issues s [] → o.legal = true →
     (o.inRange = false → exec (.bwait g.eng w) s = .next (i.kernelFault g.core g.slot g.pc
       { status := Stat.badBaton, lane := g.lanes.headD 0, addr := o.baton, reason := 0, wait := 0 })) ∧
     (o.inRange = true → s.batonCheck (i.simtActor g.core).part o.baton (some g.core) = Stat.ok →
       (0 < x.value → ∃ t, exec (.bwait g.eng w) s = .next t ∧ (t.baton o.baton).value = x.value - 1 ∧
         (t.baton o.baton).waiters = x.waiters ∧ ∃ p, t.pack g.core g.slot = some p ∧
           ∀ l ∈ g.lanes, l < g.pack.threads.length → (p.thread l).pc = g.pc + 8) ∧
       (x.value = 0 → ∃ t, exec (.bwait g.eng w) s = .next t ∧ (t.baton o.baton).value = 0 ∧
         (t.baton o.baton).waiters = x.waiters ++ [(.pack g.core g.slot g.lanes, s.time)] ∧
         ∃ p, t.pack g.core g.slot = some p ∧ ∀ l ∈ g.lanes, l < g.pack.threads.length →
           (p.thread l).pc = (g.pack.thread l).pc ∧ (p.thread l).wait = .baton o.baton))) ∧
    (let o := batonOp r true g.pack.sreg
     let scope := if (s.baton o.baton).coreScope then 0 else 2
     g.Issues s [] → o.legal = true → o.inRange = true →
     (∀ a, g.ReleaseOver s scope a →
       let u := a.batonSignal o.baton o.count (a.simtActor g.core) (some g.core)
       u.2 = Stat.ok → ∀ p, u.1.pack g.core g.slot = some p → exec (.bsig g.eng w) s =
         .next (u.1.setPack g.core g.slot (p.mapLanes g.lanes fun _ t => { t with pc := g.pc + 8 }))) ∧
     (∀ a, g.ReleaseWaits s scope a → exec (.bsig g.eng w) s = .next a)) ∧
    (let o := batonOp r false k.reg
     let x := s.baton o.baton
     c.Runs s [r.a] → o.legal = true → o.inRange = true →
     s.batonCheck (j.coachActor c.core).part o.baton (some c.core) = Stat.ok →
     (0 < x.value → ∃ t, exec (.bwait c.eng w) s = .next t ∧ (t.baton o.baton).value = x.value - 1 ∧
       (t.core c.core).coach = { k.advance with wait := waitLoads k.awaits }) ∧
     (x.value = 0 → ∃ t, exec (.bwait c.eng w) s = .next t ∧
       (t.baton o.baton).waiters = x.waiters ++ [(.coach c.core, s.time)] ∧
       (t.core c.core).coach = { k with wait := .baton o.baton, since := s.time })) ∧
    (let o := batonOp r true k.reg
     c.Runs s [r.a, r.b] → o.legal = true → o.inRange = true → k.rel = true →
     let a := j.setCoach c.core { k with rel := false }
     let u := a.batonSignal o.baton o.count (a.coachActor c.core) (some c.core)
     u.2 = Stat.ok → exec (.bsig c.eng w) s = .next (u.1.setCoach c.core (u.1.core c.core).coach.advance))

/-- R131, R144, R155: loads, stores, LINEZ, atomics and reservations of an address program, on 64-bit scalar registers
with addresses formed as s[SB] + (index << SH) + OFS or taken from s[A]. -/
def Obligations.AddressProgramMemory : Prop :=
  ∀ (c : Program) (s : State) (w : BitVec 64) (x : Xlat),
    let m := mword w
    let k := (s.core c.core).coach
    let j := c.start s
    let a := m.addr (k.reg m.sb) (m.cIndex k)
    let regs := [m.vr, m.vi, m.sb] ++ (if m.size = 16 then [m.vr + 1] else [])
    let stored (zero : Bool) (lanes : List SqLane) (t : State) : Prop :=
      (t.core c.core).coach = { k.advance with
        resv := (t.core c.core).coach.resv, sq := k.sq ++ [{ zero := zero, lanes := lanes }] } ∧
      t.dram = s.dram ∧ t.rstore = s.rstore ∧ t.agents = (j.tlbUse c.core c.launch.part a).agents
    (c.Runs s regs → m.legal = true → scalarOk m.vr = true → scalarOk m.vi = true →
      (m.size = 16 → alignedReg m.vr 2 = true) →
      (j.dataXlate c.launch (c.launch.xreq false true true) a m.size = .inl x → x.attr ≠ Attr.dev → j.legRead x = false →
        let u := (j.tlbUse c.core c.launch.part a).setCoach c.core
          { k.advance with awaits := k.awaits ++ named m.vr (if m.size = 16 then 2 else 1) }
        exec (.ld c.eng w) s = .next (u.loadAt (.coach c.core) c.launch.part k.pc a m false x).pump ∧
        exec (.ldsx c.eng w) s = .next (u.loadAt (.coach c.core) c.launch.part k.pc a m true x).pump) ∧
      (j.dataXlate c.launch (c.launch.xreq true true true) a m.size = .inl x → x.attr ≠ Attr.dev → k.sq.length < 16 →
        ∃ t, exec (.st c.eng w) s = .next t ∧ stored false (memLanes 0 x.attr x.pa (k.bytesOf m.vr m.size)) t) ∧
      (a % m.size ≠ 0 →
        exec (.ld c.eng w) s = .next (c.faults s Stat.align) ∧ exec (.st c.eng w) s = .next (c.faults s Stat.align))) ∧
    (c.Runs s [m.vi, m.sb] → m.legal = true → m.vr = 255 → m.sz = 0 → scalarOk m.vi = true →
      j.dataXlate c.launch (c.launch.xreq true true true) a 128 = .inl x → x.attr ≠ Attr.dev → k.sq.length < 16 →
      ∃ t, exec (.linez c.eng w) s = .next t ∧ stored true [{ lane := 0, attr := x.attr, pa := x.pa, bytes := List.replicate 128 0#8 }] t) ∧
    (let n := aword w
     let a := k.reg n.a
     let sent (kind : Nat) (i : Instr) : Prop :=
       let region := x.attr = Attr.dev ∨ (kind ≠ 0 ∧ x.attr = Attr.uc)
       c.Runs s [n.d, n.a, n.b, n.c] → n.legal kind = true → [n.d, n.a, n.b, n.c].all scalarOk = true →
       j.dataXlate c.launch (c.launch.xreq (kind != 1) true false) a n.size = .inl x →
       (region → exec i s = .next (c.faults s Stat.atomRegion)) ∧
       (¬region → n.release = false →
         let u := (j.tlbUse c.core c.launch.part a).drainCoach c.core
         let u := if kind = 2 then u else (u.l1WriteBack c.core (x.pa / 128)).setCore c.core
           (((u.l1WriteBack c.core (x.pa / 128)).core c.core).l1Drop (x.pa / 128))
         exec i s = .next (((u.setCoach c.core { (u.core c.core).coach.advance with
             wait := .access, acq := n.acquire, since := u.time }).sendAtom (c.core / 8)
           { who := .coach c.core, kind := kind, pa := x.pa, size := n.size, aop := n.aop, asked := false,
             lanes := [(0, n.d, k.reg n.b % 2 ^ (8 * n.size), k.reg n.c % 2 ^ (8 * n.size))] }).pump))
     sent 0 (.atom c.eng w) ∧ sent 1 (.ldx c.eng w) ∧ sent 2 (.stx c.eng w))

/-! ### Kernels and laps (chapters 03, 04, 05 and 06) -/

/-- R116 to R119, R151, R152: teams start in ascending order on the first placement core with room, every thread at the
entry with v0 its index in the team; a core whose last team has ended begins its kernel boundary and is free once its
write-backs are performed; the kernel completes when every team has ended and no core holds it; and a wait longer than
KERNEL_WATCHDOG faults with WATCHDOG. -/
def Obligations.KernelLife : Prop :=
  (∀ (s : State) (i : Nat) (l : Launch) (c rank : Nat), s.alive = true → s.launch i = some l → l.lap = false →
    l.status = 0 → l.next < l.teams → l.place.zipIdx.find? (fun e => s.hasRoom i l e.1) = some (c, rank) →
    ∃ t, exec (.teamStart i) s = .next t ∧
      (t.core c).kernel = some i ∧ t.launch i = some { l with next := l.next + 1 } ∧
      (∀ d, d ≠ c → t.core d = s.core d) ∧
      ∀ k n, ((s.core c).freeSlots l.packs)[n]? = some k → ∃ p, t.pack c k = some p ∧
        p.team = l.next ∧ p.pack = n ∧ p.sq = [] ∧
        p.sreg 0 = l.next % 2 ^ 64 ∧ p.sreg 1 = l.teams % 2 ^ 64 ∧ p.sreg 2 = l.arg % 2 ^ 64 ∧
        p.sreg 3 = l.ptag % 2 ^ 64 ∧ p.sreg 4 = rank % 2 ^ 64 ∧ (∀ r, 5 ≤ r → p.sreg r = 0) ∧
        p.threads.length = 32 ∧ ∀ lane, lane < 32 → (p.thread lane).pc = l.entry ∧ (p.thread lane).exited = false ∧
          (p.thread lane).reg 0 = (32 * n + lane) % 2 ^ 32 ∧ ∀ r, r ≠ 0 → (p.thread lane).reg r = 0) ∧
  (∀ (s : State) (c i : Nat) (l : Launch), s.alive = true → c < s.nCores → (s.core c).kernel = some i →
    s.launch i = some l → l.teams ≤ l.next → (s.core c).packs = [] →
    exec (.kernelBoundary c) s =
      .next ((if (s.core c).boundary = none then s.beginBoundary c else s).endBoundary c)) ∧
  (∀ (s : State) (c : Nat) (ids : List Nat), (s.core c).boundary = some ids →
    (∀ a ∈ (s.agent (c / 8)).accepted, a.id ∉ ids) →
    (s.endBoundary c).core c = { s.core c with kernel := none, boundary := none, scratchSets := 0, l1 := [], l1Tree := [] }) ∧
  (∀ (s : State) (i : Nat) (l : Launch), s.alive = true → s.launch i = some l → l.lap = false → l.teams ≤ l.next →
    l.teams ≤ l.ended → (∀ c ∈ s.cores, c.2.kernel ≠ some i) →
    exec (.kernelComplete i) s = .next (s.setLaunch i { l with complete := true })) ∧
  (∀ (s : State) (c dt : Nat) (v : Waiting), s.alive = true → c < s.nCores →
    let t := s.tick dt
    t.longest (t.core c).waiting = some v → t.entry 0x2210 2 * 1000 ≤ t.since v.since →
    (∀ id gen, v.wait = .hurdle id gen → exec (.kernelWatchdogExpiry c dt) s = .next (t.kernelFault c v.slot v.pc
      { status := Stat.watchdog, lane := v.lane, addr := v.pc, reason := 0, wait := 1 + 4 * id })) ∧
    (∀ b, v.wait = .baton b → exec (.kernelWatchdogExpiry c dt) s = .next (t.kernelFault c v.slot v.pc
      { status := Stat.watchdog, lane := v.lane, addr := b, reason := 0, wait := 2 })))

/-- R77, R78, R93, R94, R96 to R98, R109: a lap is loaded whole before any core runs it; its list is fetched in blocks or,
paced, broadcast command by command with READY and GO; the launch completes when every core has run its lap or drained and its
coach core's stores are performed (R168);
the watchdog stops a core on which no command has completed for LAP_WATCHDOG; and health slot words are written between
laps only. -/
def Obligations.LapDelivery : Prop :=
  (∀ (s : State) (i : Nat) (x : Launch), s.alive = true → s.launch i = some x → x.lap = true →
    (x.loaded = false → x.status = 0 → x.replays ≠ 0 → exec (.lapLoad i) s = .next (s.loadLap i x) ∧
      ((x.addr % 32 ≠ 0 ∨ x.ncmd = 0 ∨ 4096 < x.ncmd) →
        exec (.lapLoad i) s = .next (s.refuseLap i x Stat.badLap 0 0 0))) ∧
    (x.loaded = true → x.paced = true → x.status = 0 → exec (.pacedBroadcast i) s = .next (s.broadcast i x)) ∧
    (x.complete = false → (x.loaded = true ∨ x.status ≠ 0 ∨ x.replays = 0) →
      (x.replays = 0 ∨ ∀ p ∈ s.lapCores i x, s.lapOver p.1 = true ∧ s.coachQuiet p.1 = true) → ∃ t, exec (.lapLaunchComplete i) s = .next t ∧
        t.launch i = some { x with complete := true } ∧
        ∀ p ∈ s.lapCores i x, (t.core p.1).lap = none)) ∧
  (∀ (s : State) (i ord : Nat) (x : Launch), s.alive = true → s.launch i = some x → x.lap = true → x.paced = true →
    x.loaded = true → x.status = 0 → x.place.Nodup →
    let cs := s.lapCores i x
    cs ≠ [] → cs.length = x.place.length → (∀ p ∈ cs, p.2.ready = some ord ∧ p.2.go = none) →
    ∃ t, exec (.pacedGo i) s = .next t ∧ ∀ p ∈ cs, (t.core p.1).lap = some { p.2 with go := some ord }) ∧
  (∀ (s u : State) (c : Nat) (l : LapRun) (x : Launch), s.LapAt u c l x →
    (∀ ord w swap, (u.core c).gate l = some (ord, w, swap) → x.paced = true → l.ready = none →
      exec (.pacedReady c) s = .next ((u.setLap c { l with ready := some ord }).dispatch c)) ∧
    (∀ block b y, x.paced = false → l.next < l.total →
      let n := (l.len + 127) / 128
      let i := l.next % l.len / 128
      let ahead := (block + n - i) % n
      block < n → ahead ≤ 4 → (i + ahead < n ∨ l.len ≤ 1024 ∨ l.next / l.len + 1 < l.replays) →
      l.cache.look (128 * block) = none →
      let va := x.addr + 4096 * block
      let v := u.tlbUse c x.part va
      v.readList x (c / 8) va (32 * min 128 (l.len - 128 * block)) = (y, .inl b) →
      let cache := (cmdsOf b).zipIdx.foldl (fun t w => Tab.put t (128 * block + w.2) w.1) l.cache
      exec (.listFetch c block) s = .next
        ((((y.setLap c { l with cache := cache }).count (Reg.mtxListWait c) (y.freeVal 64)).useFree 1).dispatch c))) ∧
  (∀ (s u : State) (c dt cause b : Nat) (l : LapRun) (x : Launch), (s.tick dt).LapAt u c l x →
    u.lapHeld c l x = some (cause, b) → u.lapOver c = false → u.entry 0x2210 1 * 1000 ≤ u.since l.lastDone →
    exec (.lapWatchdogExpiry c dt) s = .next (((u.setReg (Reg.mtxWdogCause c) (cause + 16 * b)).lapStop c l.oldest
      { l.fault l.oldest Stat.watchdog with cause := cause, baton := b } true).dispatch c)) ∧
  (∀ (s : State) (fn c i v : Nat), s.Reaches fn 0 → c < s.nCores → i < 32 → s.actsForCore fn c = true →
    (s.lapOn c = none → exec (.slotDataWrite fn c i v) s = .next (s.setCore c
      ((s.core c).setSlotWord (s.reg (Reg.mtxSlotSel c) % 256) i (v % 2 ^ 32 &&& slotMask i)))) ∧
    (s.lapState c ≠ 0 →
      exec (.slotDataWrite fn c i v) s = .next (s.setRegFld (Reg.mtxSlotSel c) 31 1 1)))

/-- R79 to R92, R145: the front end completes NOP, takes WAITB's unit or waits, performs SIGB, HEALTH and SCALE in their
order, and begins LOAD and STORE with the descriptors of the address stream; a transfer completes when its bytes have
moved, or stops the lap at the first page it may not use; a run of the address program starts for each replay and its
marker is popped once the replay's commands are complete. -/
def Obligations.LapCommands : Prop :=
  ∀ (s u : State) (c : Nat) (l : LapRun) (x : Launch) (ord w : Nat), s.LapAt u c l x →
    let k := u.core c
    (∀ b, x.paced = false → l.room = true → l.cache.look (l.next % l.len) = some b → cOp b.toNat = 0x01 →
      changedBad u.optionalUnits (l.cmds.map (fun y => y.toNat)) (l.next % l.len) b.toNat = false →
      let m := ({ l with win := Tab.put l.win l.next b, next := l.next + 1, cache := l.passed (l.next % l.len) } :
        LapRun).prune (k.array.last.map (fun m => m.1))
      exec (.lapNop c) s = .next (((u.setLap c m).lapDone c l.next).dispatch c)) ∧
    (l.pendingCmds.find? (fun e => isBarrier e.2) = some (ord, w) → cOp w = 0x40 → l.waiting = none →
      let r := u.batonWait (fld w 64 13) (.lap c) (u.lapActor c ord) (some c)
      (r.2 = (Stat.ok, true) → exec (.waitb c) s = .next ((r.1.lapDone c ord).dispatch c)) ∧
      (r.2 = (Stat.ok, false) →
        exec (.waitb c) s = .next ((r.1.setLap c { l with waiting := some (ord, fld w 64 13) }).dispatch c)) ∧
      (r.2.1 ≠ Stat.ok → exec (.waitb c) s = .next ((r.1.lapStop c ord (l.fault ord r.2.1) true).dispatch c))) ∧
    (l.pendingCmds.head? = some (ord, w) → ord = l.oldest → cOp w = 0x41 →
      let r := u.batonSignal (fld w 64 13) (fld w 96 16) (u.lapActor c ord) (some c)
      exec (.sigb c) s = .next ((if r.2 = Stat.ok then r.1.lapDone c ord
        else r.1.lapStop c ord (l.fault ord r.2) true).dispatch c)) ∧
    (l.Oldest ord w → cOp w = 0x50 →
      (fld w 24 2 = 0 → exec (.healthStore c) s = .next ((u.beginFeed c l ord w).dispatch c)) ∧
      (fld w 24 2 = 1 → exec (.healthClear c) s = .next (((u.setCore c
        ((List.range (fld w 72 8 + 1)).foldl (fun k i => k.slotClear (fld w 64 8 + i)) k)).lapDone c ord).dispatch c)) ∧
      (fld w 24 2 = 2 → exec (.healthSum c) s = .next
        (((u.setCore c (k.slotSum (fld w 64 8) (fld w 72 8 + 1) (fld w 80 8))).lapDone c ord).dispatch c))) ∧
    (l.Feeds ord w →
      (cOp w = 0x20 → exec (.load c) s = .next ((u.beginFeed c l ord w).dispatch c)) ∧
      (cOp w = 0x21 → exec (.store c) s = .next ((u.beginFeed c l ord w).dispatch c)) ∧
      (cOp w = 0x30 → exec (.scale c) s = .next ((((u.setCore c
        { k with tile := Mem.write k.tile (4 * fld w 64 18) (leBytes 4 (fld w 96 32)) }).count
          (Reg.mtxFeedBytes c) 4).lapDone c ord).dispatch c))) ∧
    (∀ f, let ps := l.parts f
      (l.loads.head? = some f → u.feedFault x false ps = none → exec (.loadComplete c) s =
        .next (((((u.movePieces c x (l.cmd f.ord) ps).endFeed c f).lapDone c f.ord).pump).dispatch c)) ∧
      (l.stores.head? = some f → u.feedFault x true ps = none → exec (.storeComplete c) s =
        .next (((((u.movePieces c x (l.cmd f.ord) ps).endFeed c f).lapDone c f.ord).pump).dispatch c)) ∧
      (∀ p st reason fs, l.feeding = f :: fs →
        u.feedFault x (isStore (cOp (l.cmd f.ord))) ps = some (p, st, reason) →
          let v := ((u.endFeed c f).lose c (lapWrites (l.cmd f.ord))).movePieces c x (l.cmd f.ord)
            (ps.takeWhile fun q => q ≠ p)
          let v := if st = Stat.pageFault then (v.tlbUse c x.part p.va).countPf x.part else v
          exec (.feederPageFault c) s = .next (((v.lapStop c f.ord
            { l.fault f.ord st with dtag := p.dtag, addr := p.va, reason := reason } true).pump).dispatch c))) ∧
    (k.coach.running = false → l.returned < l.replays → exec (.addressProgramRun c) s =
      .next ((u.setCoach c { ((((k.coach.setReg 0 l.returned).setReg 1 l.rank).setReg 2 x.arg).setReg 3 x.ptag) with
        running := true, pc := x.entry, loops := [], wait := .none, awaits := [], acq := false, rel := false }).dispatch c)) ∧
    (∀ r st, l.popped < l.returned → (l.popped + 1) * l.len ≤ l.oldest → k.stream = .marker r :: st →
      exec (.markerPop c) s =
        .next ((u.setCore c { k with stream := st, lap := some { l with popped := l.popped + 1 } }).dispatch c))

/-- R54 to R57, R62, R64 to R72: the loader fills the shadow bank for the earliest MM that needs a load; an MM issues
when its gate is open, swapping the banks where it loaded; the oldest issued command retires, writing its outputs; and a
check that mismatches stops the lap with CHECKSUM. -/
def Obligations.MatrixArray : Prop :=
  (∀ (s u : State) (c : Nat) (l : LapRun) (x : Launch), s.LapAt u c l x →
    let k := u.core c
    (∀ ord w, k.toLoad l (k.unissued l) = some (ord, w) → k.array.shadow = none →
      l.resident ord (mmOf w).stationary = true → exec (.stationaryLoad c) s = .next ((u.setCore c
        { k with array := { k.array with shadow := some { ord := ord, complete := false, flip := false } } }).dispatch c)) ∧
    (∀ h, k.array.shadow = some h → h.complete = false → exec (.stationaryLoadComplete c) s = .next ((u.setCore c
      { k with array := { k.array with
        shadow := some { h with complete := true, flip := k.array.injCell }, injCell := false } }).dispatch c)) ∧
    (∀ ord w swap m co, k.gate l = some (ord, w, swap) → (x.paced = true → l.go = some ord) →
      k.mmCompute (mmOf w) ⟨x.seed, ord / l.len % 2 ^ 16, ord % l.len, l.rank, Tab.get 0 l.tiles (ord % l.len)⟩ ord
        (BitVec.ofNat 256 w) = some (m, co) → (mmOf w).overlaps = false →
      exec (.mm c) s = .next ((u.issueNow c l (mmOf w) m co swap).dispatch c)) ∧
    (∀ m ms, k.array.issued = m :: ms → m.fails = false →
      exec (.mmRetire c) s = .next ((u.retire c l x m).dispatch c)) ∧
    (∀ m ms product row tile, k.array.issued = m :: ms →
      let y := mmOf m.cmd.toNat
      tile < y.tiles → (product = true → row < 64 ∧ 64 * tile + row ∈ m.madeRows) →
      let injected := m.flip || (product && m.inj.any (fun i => i.1 = 64 * tile + row))
      let stopped := u.lapStop c m.ord { l.fault m.ord Stat.checksum with
        ltag := cTag m.cmd.toNat, injected := injected, check := if product then 1 else 2,
        row := if product then row else 0, tile := (m.tile0 + tile) % 2 ^ 16, discarded := ms.length % 256 } true
      let kept := { (stopped.core c).array with
        issued := (stopped.core c).array.issued.filter (fun n => n.ord ≠ m.ord) }
      let lost := (stopped.setCore c { stopped.core c with array := kept }).lose c y.outputs
      exec (.checksumMismatch c product row tile) s =
        .next ((if injected then lost else lost.countMismatch c).dispatch c))) ∧
  (∀ (s : State) (c : Nat), s.alive = true → c < s.nCores → s.coreOn c = true →
    exec (.injectProduct c) s = .next (s.injectProduct c) ∧
    ((s.core c).array.issued = [] → exec (.injectProduct c) s =
      .next (s.setCore c { s.core c with array := { (s.core c).array with injProduct := true } })) ∧
    exec (.injectCell c) s =
      .next (s.setCore c { s.core c with array := { (s.core c).array with injCell := true } }))

/-! ### Coherence (chapter 08) -/

/-- R193: the home's table. A request for a line that is not busy makes it busy, keeps the directory's state until
CompAck, and sends the forwards and the grant of its row, with the ack count of the listed agents other than the
requester; a busy line holds it, as does one that an earlier request waits for; a full set recalls a victim first (R184). WrNC in
I and Puts complete at the home. A message in flight arrives as it was sent; a row's own content counts where no agent of the
model sent one (log 46). An
Upg that finds the directory in I is answered as the RdX R192 makes of it (log 66). -/
def Obligations.HomeRequests : Prop :=
  ∀ (s t : State) (m : Msg) (home line req data : Nat) (bytes : List (Nat × BitVec 8)),
    let e := (s.dirEntry home line).getD { st := 0, owner := 0, sharers := 0, txn := none }
    let all := listed e.sharers
    let others := all.filter (fun a => a ≠ req)
    let n := others.length
    let fwd (k a : Nat) : Msg := { Msg.plain 1 k line home a false with req := req }
    let dataG (inst acks : Nat) : Msg :=
      { Msg.plain 2 13 line home req false with install := inst, acks := acks, data := s.memLine line }
    let grant (acks : Nat) (inst : Nat) : Msg :=
      { Msg.plain 2 14 line home req false with install := inst, acks := acks }
    let room := (s.dirEntry home line).isSome = true ∨
      ((s.dir home).entries.filter (fun p => lineHash p.1 % 8192 = lineHash line % 8192)).length < 16
    let asked (k : Nat) : Prop := s.Asked t (askMsg k home line req (if 6 ≤ k then data else 0)
      (if k = 5 then bytes.filter (fun b => b.1 < 128) else [])) m
    let busy (i : Instr) (k owed : Nat) (out : List Msg) : Prop :=
      asked k → ∃ u : State, exec i s = .next u ∧ u.net = t.net ++ out ∧ u.agents = s.agents ∧ u.dram = s.dram ∧
        ∃ x, u.dirEntry home line = some { e with txn := some x } ∧
          x.request.kind = k ∧ x.request.req = req ∧ x.owed = owed ∧ x.isRecall = false
    let put (i : Instr) (k : Nat) (stale : Bool) (next : Option DirEntry) : Prop :=
      asked k → ∃ u : State, exec i s = .next u ∧
        u.net = t.net ++ [{ Msg.plain 2 18 line home req false with flag := stale }] ∧
        u.dirEntry home line = next ∧
        (stale = true → u.dram = s.dram) ∧
        (stale = false → u.memLine line = m.data % 2 ^ 1024 ∧
          ∀ a, a / 128 ≠ line → Mem.byte u.dram a = Mem.byte s.dram a)
    e.txn = none → ((s.dirEntry home line).isSome = true ∨ (s.dir home).claimed line = false) →
    (∀ a ∈ all, s.agentOn a = true) →
    (e.st = 0 → room →
      busy (.rds home line req) 0 0 [dataG 2 0] ∧
      busy (.rdx home line req) 1 0 [dataG 3 0] ∧
      busy (.upg home line req) 2 0 [dataG 3 0] ∧
      busy (.claimz home line req) 3 0 [grant 0 3] ∧
      busy (.rdcur home line req) 4 0 [dataG 0 0]) ∧
    (e.st = 1 → room →
      busy (.rds home line req) 0 0 [dataG 1 0] ∧
      busy (.rdx home line req) 1 0 (others.map (fwd 11) ++ [dataG 3 n]) ∧
      busy (.claimz home line req) 3 0 (others.map (fwd 11) ++ [grant n 3]) ∧
      busy (.upg home line req) 2 0
        (others.map (fwd 11) ++ [if bitOf e.sharers req then grant n 3 else dataG 3 n]) ∧
      busy (.rdcur home line req) 4 0 [dataG 0 0]) ∧
    (e.st = 2 → room →
      busy (.rds home line req) 0 0 [fwd 8 e.owner, grant 0 1] ∧
      busy (.rdx home line req) 1 0 [fwd 9 e.owner, grant 0 3] ∧
      (e.owner ≠ req → busy (.upg home line req) 2 0 [fwd 9 e.owner, grant 0 3]) ∧
      busy (.claimz home line req) 3 0 [fwd 11 e.owner, grant 1 3] ∧
      busy (.rdcur home line req) 4 0 [fwd 10 e.owner]) ∧
    (e.st = 3 → room →
      busy (.rds home line req) 0 0 [fwd 8 e.owner, grant 0 1] ∧
      busy (.rdx home line req) 1 0
        (fwd 9 e.owner :: ((others.filter (fun a => a ≠ e.owner)).map (fwd 11) ++ [grant (n - 1) 3])) ∧
      (bitOf e.sharers req = true → busy (.upg home line req) 2 0 (others.map (fwd 11) ++ [grant n 3])) ∧
      busy (.claimz home line req) 3 0 (others.map (fwd 11) ++ [grant n 3]) ∧
      busy (.rdcur home line req) 4 0 [fwd 10 e.owner]) ∧
    (e.st = 0 → asked 5 → ∃ u : State, exec (.wrnc home line req bytes) s = .next u ∧
      u.net = t.net ++ [Msg.plain 2 19 line home req false] ∧ u.dirs = s.dirs ∧
      u.dram = putBytes s.dram line m.bytes) ∧
    (e.st ≠ 0 → busy (.wrnc home line req bytes) 5 all.length (all.map (fwd 12))) ∧
    (e.st = 2 → e.owner = req → put (.putm home line req data) 6 false none) ∧
    (e.st = 3 → e.owner = req →
      let left := setFld e.sharers req 1 0
      put (.puto home line req data) 7 false
        (if left = 0 then none else some { st := 1, owner := 0, sharers := left, txn := none })) ∧
    ((e.st < 2 ∨ e.owner ≠ req) →
      put (.putm home line req data) 6 true (s.dirEntry home line) ∧
      put (.puto home line req data) 7 true (s.dirEntry home line))

/-- R187: a request for a busy line waits at the home, at the end of its queue; R184: a request whose entry finds its
set full recalls a victim of the set that is not busy from every agent listed for it, and is not answered yet; until the recall
is over a later request for its own line waits too. -/
def Obligations.HomeHolds : Prop :=
  ∀ (s t : State) (m : Msg) (home line req data : Nat) (bytes : List (Nat × BitVec 8)),
    let asked (k : Nat) : Prop := s.Asked t (askMsg k home line req (if 6 ≤ k then data else 0)
      (if k = 5 then bytes.filter (fun b => b.1 < 128) else [])) m
    let known : Prop := ∀ e, s.dirEntry home line = some e → ∀ a ∈ listed e.sharers, s.agentOn a = true
    let holds (i : Instr) (k : Nat) : Prop :=
      asked k → known → ((∃ e, s.dirEntry home line = some e ∧ e.txn ≠ none) ∨
          (s.dirEntry home line = none ∧ (s.dir home).claimed line = true)) →
        ∃ (u : State) (r : HReq), exec i s = .next u ∧ (u.dir home).waiting = (s.dir home).waiting ++ [r] ∧
          r.kind = k ∧ r.line = line ∧ r.req = req ∧ (u.dir home).entries = (s.dir home).entries ∧
          u.net = t.net ∧ u.agents = s.agents ∧ u.dram = s.dram
    let set := (s.dir home).entries.filter (fun p => lineHash p.1 % 8192 = lineHash line % 8192)
    let recalls (i : Instr) (k : Nat) : Prop :=
      asked k → s.dirEntry home line = none → (s.dir home).claimed line = false → 16 ≤ set.length →
        (∃ p ∈ set, p.2.txn = none) →
        ∃ (u : State) (v : Nat × DirEntry) (x : HomeTxn), exec i s = .next u ∧ v ∈ set ∧ v.2.txn = none ∧
          u.net = t.net ++ (listed v.2.sharers).map
            (fun a => { Msg.plain 1 12 v.1 home a false with req := req }) ∧
          u.dirEntry home v.1 = some { v.2 with txn := some x } ∧ x.isRecall = true ∧
          x.owed = (listed v.2.sharers).length ∧ x.request.kind = k ∧ x.request.line = line ∧ x.request.req = req ∧
          u.dirEntry home line = none
    holds (.rds home line req) 0 ∧ holds (.rdx home line req) 1 ∧ holds (.upg home line req) 2 ∧
    holds (.claimz home line req) 3 ∧ holds (.rdcur home line req) 4 ∧ holds (.wrnc home line req bytes) 5 ∧
    holds (.putm home line req data) 6 ∧ holds (.puto home line req data) 7 ∧
    recalls (.rds home line req) 0 ∧ recalls (.rdx home line req) 1 ∧ recalls (.upg home line req) 2 ∧
    recalls (.claimz home line req) 3 ∧ recalls (.rdcur home line req) 4

/-- R184, R188, R193: FwdMiss makes the home send the line from memory, which is current, with DIRTY 0; the answers of a
recall are counted, dirty data going to memory, and the last frees the entry: the WrNC is merged and answered, or the
request that found the set full goes on. CompAck gives the directory its next state and takes up the held requests. -/
def Obligations.HomeAnswers : Prop :=
  ∀ (s t : State) (m : Msg) (home line src data : Nat) (dirty : Bool) (e : DirEntry) (x : HomeTxn),
    let done : Msg := Msg.plain 2 19 line home x.request.req false
    let miss : Prop := s.Owed t (Msg.plain 2 16 line src home true) m e x
    let recalled : Prop := s.Owed t { Msg.plain 2 17 line src home true with data := data % 2 ^ 1024 } m e x
    let acked : Prop := s.Owed t (Msg.plain 3 20 line src home true) m e x
    let complete : Prop := s.Owed t { Msg.plain 3 21 line src home true with req := src, flag := dirty } m e x
    let saved : Mem := Mem.write s.dram (128 * line) (leBytes 128 m.data)
    (miss → e.st ≠ 3 → x.isRecall = false → ∃ u : State, exec (.fwdmiss home line src) s = .next u ∧
      u.net = t.net ++ [{ Msg.plain 2 15 line home x.request.req false with data := s.memLine line }] ∧
      u.dirs = s.dirs ∧ u.agents = s.agents ∧ u.dram = s.dram) ∧
    (recalled → 1 < x.owed → ∃ u : State, exec (.recalldata home line src data) s = .next u ∧ u.dram = saved ∧
      u.dirEntry home line = some { e with txn := some { x with owed := x.owed - 1 } } ∧ u.net = t.net) ∧
    (recalled → x.owed = 1 → x.isRecall = false →
      ∃ u : State, exec (.recalldata home line src data) s = .next (u.homeNext home) ∧
        u.dram = putBytes saved line x.request.bytes ∧ u.dirEntry home line = none ∧ u.net = t.net ++ [done]) ∧
    (recalled → x.owed = 1 → x.isRecall = true →
      ∃ u : State, exec (.recalldata home line src data) s = .next ((u.homeTake home x.request).homeNext home) ∧
        u.dram = saved ∧ u.dirEntry home line = none ∧ u.net = t.net) ∧
    (acked → 1 < x.owed → ∃ u : State, exec (.invack true home line src) s = .next u ∧
      u.dirEntry home line = some { e with txn := some { x with owed := x.owed - 1 } } ∧ u.net = t.net ∧
      u.dram = s.dram) ∧
    (acked → x.owed = 1 → x.isRecall = false →
      ∃ u : State, exec (.invack true home line src) s = .next (u.homeNext home) ∧
        u.dram = putBytes s.dram line x.request.bytes ∧ u.dirEntry home line = none ∧ u.net = t.net ++ [done]) ∧
    (acked → x.owed = 1 → x.isRecall = true →
      ∃ u : State, exec (.invack true home line src) s = .next ((u.homeTake home x.request).homeNext home) ∧
        u.dirEntry home line = none ∧ u.net = t.net ∧ u.dram = s.dram) ∧
    (complete → x.isRecall = false → x.owed = 0 → x.request.req = src →
      ∃ u : State, exec (.compack home line src dirty) s = .next (u.homeNext home) ∧ u.net = t.net ∧ u.dram = s.dram ∧
        u.agents = s.agents ∧
        let with' := setFld e.sharers src 1 1
        (x.request.kind = 0 → u.dirEntry home line = some
          (if e.st = 0 then { st := 2, owner := src, sharers := 2 ^ src, txn := none }
           else if e.st = 2 then
             if m.flag then { st := 3, owner := e.owner, sharers := with', txn := none }
             else { st := 1, owner := 0, sharers := with', txn := none }
           else { st := e.st, owner := e.owner, sharers := with', txn := none })) ∧
        (1 ≤ x.request.kind ∧ x.request.kind ≤ 3 →
          u.dirEntry home line = some { st := 2, owner := src, sharers := 2 ^ src, txn := none }) ∧
        (x.request.kind = 4 → u.dirEntry home line = if e.st = 0 then none else some { e with txn := none }))

/-- R188, R189, R192: an agent's answer to each forward by the state of its line. Within the hold of R189 a forward
other than FwdCur is parked, and its end acts on those parked, in the order they came; while all 16 slots are taken every forward
to the agent waits where it is. -/
def Obligations.AgentForwards : Prop :=
  ∀ (s t : State) (m : Msg) (agent line req : Nat),
    let toReq (l : CLine) (dirty : Bool) : Msg :=
      { Msg.plain 2 15 line agent m.req false with data := l.data, flag := dirty }
    let ack : Msg := Msg.plain 3 20 line agent m.req false
    let home (h : Nat) : Prop := s.homeOf line = some h
    let told (k : Nat) : Prop := s.Told t (s.fwdMsg k agent line (if k = 12 then 0 else req)) m none
    let acts (k : Nat) (i : Instr) (out : List Msg) (next : Option LineState) : Prop :=
      told k → (s.agent agent).parkedCount < 16 → ∃ u : State, exec i s = .next u.pump ∧ u.net = t.net ++ out ∧
        (u.line agent line).map (·.st) = next ∧ u.dram = s.dram ∧ u.dirs = s.dirs ∧
        ∀ b, b ≠ agent → u.agent b = s.agent b
    (∀ h, home h → s.line agent line = none →
      let miss : List Msg := [Msg.plain 2 16 line agent h true]
      acts 8 (.fwds agent line req) miss none ∧ acts 9 (.fwdx agent line req) miss none ∧
      acts 10 (.fwdcur agent line req) miss none ∧ acts 11 (.inv agent line req) [ack] none ∧
      acts 12 (.recall agent line) [Msg.plain 3 20 line agent h true] none) ∧
    (∀ h l, home h → s.line agent line = some l → l.hold ≠ 1 →
      let homeAck : Msg := Msg.plain 3 20 line agent h true
      let recalled : Msg := { Msg.plain 2 17 line agent h true with data := l.data }
      (l.st = .S → acts 11 (.inv agent line req) [ack] none ∧ acts 12 (.recall agent line) [homeAck] none) ∧
      (l.st = .E → acts 8 (.fwds agent line req) [toReq l false] (some .S) ∧
        acts 9 (.fwdx agent line req) [toReq l false] none ∧ acts 10 (.fwdcur agent line req) [toReq l false] (some .E) ∧
        acts 11 (.inv agent line req) [ack] none ∧ acts 12 (.recall agent line) [homeAck] none) ∧
      (l.st = .M → acts 8 (.fwds agent line req) [toReq l true] (some .O) ∧
        acts 9 (.fwdx agent line req) [toReq l true] none ∧ acts 10 (.fwdcur agent line req) [toReq l false] (some .M) ∧
        acts 11 (.inv agent line req) [ack] none ∧ acts 12 (.recall agent line) [recalled] none) ∧
      (l.st = .O → acts 8 (.fwds agent line req) [toReq l true] (some .O) ∧
        acts 9 (.fwdx agent line req) [toReq l true] none ∧ acts 10 (.fwdcur agent line req) [toReq l false] (some .O) ∧
        acts 11 (.inv agent line req) [ack] none ∧ acts 12 (.recall agent line) [recalled] none) ∧
      (l.st = .SMA → acts 11 (.inv agent line req) [ack] (some .IMAD)) ∧
      (l.st = .OMA → acts 9 (.fwdx agent line req) [toReq l true] (some .IMAD) ∧
        acts 11 (.inv agent line req) [ack] (some .IMAD)) ∧
      (l.st = .MIA ∨ l.st = .OIA → acts 8 (.fwds agent line req) [toReq l true] (some .OIA) ∧
        acts 9 (.fwdx agent line req) [toReq l true] (some .IIA) ∧
        acts 10 (.fwdcur agent line req) [toReq l false] (some l.st) ∧
        acts 11 (.inv agent line req) [ack] (some .IIA) ∧ acts 12 (.recall agent line) [recalled] (some .IIA))) ∧
    (∀ l k, s.line agent line = some l → l.hold = 1 → (s.agent agent).parkedCount < 16 →
      k ∈ [8, 9, 11, 12] → told k →
      let i : Instr := if k = 8 then .fwds agent line req else if k = 9 then .fwdx agent line req
        else if k = 11 then .inv agent line req else .recall agent line
      ∃ u : State, exec i s = .next u.pump ∧ u.net = t.net ∧ u.line agent line =
        some { l with parked := l.parked ++ [{ kind := k, req := m.req }] }) ∧
    (16 ≤ (s.agent agent).parkedCount →
      (told 8 → exec (.fwds agent line req) s = .next s) ∧ (told 9 → exec (.fwdx agent line req) s = .next s) ∧
      (told 10 → exec (.fwdcur agent line req) s = .next s) ∧ (told 11 → exec (.inv agent line req) s = .next s) ∧
      (told 12 → exec (.recall agent line) s = .next s)) ∧
    (∀ l, agent ≤ 20 → s.line agent line = some l → l.hold = 1 → s.alive = true →
      (l.parked = [] → ∃ u : State, exec (.holdTimeEnd agent line) s = .next u.pump ∧ u.net = s.net ∧
        u.line agent line = some { l with hold := 0, parked := [] }) ∧
      (∀ p, l.parked = [p] → p.kind = 8 → l.st = .M → ∃ u : State, exec (.holdTimeEnd agent line) s = .next u.pump ∧
        u.net = s.net ++ [{ Msg.plain 2 15 line agent p.req false with data := l.data, flag := true }] ∧
        (u.line agent line).map (·.st) = some .O))

/-- R187, R192: data and grants may come in either order; a requester that holds the data, the grant and as many InvAcks
as it counts installs the granted state, sends CompAck and performs the accesses that wait; until then it keeps what it
has. A write-back buffer is freed by WbAck, and DoneNC completes the oldest write sent for the line. R181: errors corrected on a
line's way are counted, and the message has its effect. -/
def Obligations.AgentResponses : Prop :=
  ∀ (s t : State) (m : Msg) (agent line src data install acks h n : Nat) (dirty stale : Bool) (l : CLine),
    let free := l.way < 16 ∨ ∃ w < agentWays agent, ∀ p ∈ (s.agent agent).lines,
      agentSet agent p.1 = agentSet agent line → p.2.way ≠ w
    let installs (i : Instr) (st : LineState) (d : Nat) (flag : Bool) : Prop :=
      free → ∃ u : State, exec i s = .next u.pump ∧
        u.net = t.net ++ [{ Msg.plain 3 21 line agent h true with req := agent, flag := flag }] ∧
        (∃ x, u.line agent line = some x ∧ x.st = st ∧ x.data = d ∧ x.way < 16 ∧
          (x.hold = 1 ↔ agentDie h = agentDie agent ∧ (st = .M ∨ st = .E))) ∧ u.dirs = s.dirs
    let keeps (i : Instr) (x : CLine) : Prop :=
      ∃ u : State, exec i s = .next u.pump ∧ u.line agent line = some x ∧ u.net = t.net ∧ u.dirs = s.dirs
    let held : Option GrantHeld := some { install := m.install, acks := m.acks }
    let dataG : Instr := .datag agent line data install acks
    let grant : Instr := .grant agent line install acks
    let given : Instr := .data agent line src data ⟨dirty, .none⟩
    let gData : Prop := s.Told t { Msg.plain 2 13 line h agent false with
      data := data % 2 ^ 1024, install := install, acks := acks } m none
    let gGrant : Prop := s.Told t { Msg.plain 2 14 line h agent false with install := install, acks := acks } m none
    let gGiven : Prop := s.Told t { Msg.plain 2 15 line src agent false with data := data % 2 ^ 1024, flag := dirty } m (some src)
    let gAck : Prop := s.Told t (Msg.plain 3 20 line src agent false) m (some src)
    s.homeOf line = some h → s.line agent line = some l →
    (gData → l.zero = false → l.st = .ISD →
      (m.install = 1 → installs dataG .S m.data l.dirtyBit) ∧ (m.install = 2 → installs dataG .E m.data l.dirtyBit)) ∧
    (gData → l.zero = false → l.st = .IMAD → m.install = 3 →
      (l.acks = m.acks → installs dataG .M m.data l.dirtyBit) ∧
      (l.acks ≠ m.acks → keeps dataG { l with data := m.data, got := true, grant := held })) ∧
    (gGrant → l.st = .ISD → m.install = 1 →
      (l.got = true → installs grant .S l.data l.dirtyBit) ∧ (l.got = false → keeps grant { l with grant := held })) ∧
    (gGrant → m.install = 3 → l.st = .SMA ∨ l.st = .OMA ∨ (l.st = .IMAD ∧ l.got = true) →
      (l.acks = m.acks → installs grant .M l.data l.dirtyBit) ∧ (l.acks ≠ m.acks → keeps grant { l with grant := held })) ∧
    (gGiven → l.zero = false → l.got = false →
      (s.agent agent).ncReads.any (fun r => r.line = line) = false → l.st = .ISD ∨ l.st = .IMAD →
      (l.grant = none → keeps given { l with data := m.data, got := true, dirtyBit := m.flag }) ∧
      (∀ g, l.st = .ISD → l.grant = some g → g.install = 1 → installs given .S m.data m.flag) ∧
      (∀ g, l.st = .IMAD → l.grant = some g → g.acks = l.acks → installs given .M m.data m.flag)) ∧
    (agent < 20 → s.alive = true → exec (.data agent line src data ⟨dirty, .corrected n⟩) s =
      exec given (s.countSat (Reg.cchCe agent) n)) ∧
    (gAck → l.st = .SMA ∨ l.st = .OMA ∨ (l.st = .IMAD ∧ l.got = true) →
      (∀ g, l.grant = some g → g.acks = l.acks + 1 → installs (.invack false agent line src) .M l.data l.dirtyBit) ∧
      (l.grant = none → keeps (.invack false agent line src) { l with acks := l.acks + 1 })) ∧
    (s.Told t { Msg.plain 2 18 line h agent false with flag := stale } m none →
      l.st = .MIA ∨ l.st = .OIA ∨ (l.st = .IIA ∧ m.flag = true) →
      ∃ u : State, exec (.wback agent line stale) s = .next u.pump ∧ u.line agent line = none ∧ u.net = t.net) ∧
    (∀ x, s.Told t (Msg.plain 2 19 line h agent false) m none →
      (s.agent agent).accepted.find? (fun x => x.line = line && x.sent) = some x →
      ∃ u : State, exec (.donenc agent line) s = .next u.pump ∧ u.net = t.net ∧
        (u.agent agent).accepted = (s.agent agent).accepted.erase x)

/-- R181, R192, R196, R197: a message with no row, a directory that lists an absent agent, an uncorrectable error, a message owed
for 1 ms and a bridge whose retries are exhausted bring the coherence domain down: the cause, agent, class and address are latched with the time, every copy, transaction, message
and launch is discarded, no core runs, memory keeps what was written, and alarm FATAL is raised; of the agents only the
random state goes on. Only the first cause is latched. -/
def Obligations.CoherenceFailures : Prop :=
  ∀ (s t : State) (m : Msg) (agent home line req src data pa cls dt : Nat) (dirty : Bool),
    let stops (i : Instr) (cause a c at' now : Nat) : Prop :=
      ∃ u : State, exec i s = .next u ∧ u.boot.fatal = cause ∧ u.boot.start = 9 ∧
        u.reg Reg.cchFatal = cause + 2 ^ 4 * (a % 32) + 2 ^ 9 * (c % 4) + 2 ^ 11 ∧
        u.reg Reg.cchFatalAddr = at' % 2 ^ 48 ∧ u.reg Reg.cchFatalTime = now % 2 ^ 64 ∧
        u.net = [] ∧ u.launches = [] ∧ (∀ b, (u.agent b).lines = [] ∧ (u.agent b).accepted = [] ∧
          (u.agent b).loads = [] ∧ (u.agent b).atoms = []) ∧
        (∀ h, (u.dir h).entries = [] ∧ (u.dir h).waiting = []) ∧
        (∀ k, (u.core k).kernel = none ∧ (u.core k).lap = none ∧ (u.core k).l1 = [] ∧ (u.core k).dcache.lines = []) ∧
        u.dram = s.dram ∧ u.rstore = s.rstore ∧ bitOf u.dict.alarmLatched 0 = true
    s.boot.start = 7 → s.boot.off = false → s.boot.fatal = 0 →
    (agent ≤ 20 → cls < 4 → stops (.agentSilentTimeout agent line cls dt) 2 agent cls (128 * line)
      (wrap64 (s.time + dt))) ∧
    (agent ≤ 20 → cls < 4 → s.oneDie = false →
      stops (.bridgeRetriesExhausted agent cls pa) 4 agent cls pa s.time) ∧
    (agent ≤ 20 → stops (.data agent line src data ⟨dirty, .uncorrectable⟩) 3 agent 2 (128 * line) s.time) ∧
    (s.Told t { Msg.plain 2 13 line ((s.homeOf line).getD 0) agent false with data := data % 2 ^ 1024, install := 1 } m none →
      m.install ≠ 0 → s.line agent line = none →
      stops (.datag agent line data 1 0) 1 agent m.cls (128 * line) s.time) ∧
    (s.Told t { Msg.plain 2 15 line src agent false with data := data % 2 ^ 1024, flag := dirty } m (some src) →
      s.line agent line = none → (s.agent agent).ncReads = [] →
      stops (.data agent line src data ⟨dirty, .none⟩) 1 agent m.cls (128 * line) s.time) ∧
    (∀ e x, s.Owed t (Msg.plain 2 16 line src home true) m e x → e.st = 3 →
      stops (.fwdmiss home line src) 1 src m.cls (128 * line) s.time) ∧
    (home < 20 → s.arrive { Msg.plain 3 21 line src home true with req := src, flag := dirty } (some src) = some (t, m) →
      (∀ e, s.dirEntry home line = some e → e.txn = none) →
      stops (.compack home line src dirty) 1 src m.cls (128 * line) s.time) ∧
    (∀ e a, s.Asked t (askMsg 0 home line req 0 []) m → s.dirEntry home line = some e → a ∈ listed e.sharers →
      s.agentOn a = false → stops (.rds home line req) 1 req 0 (128 * line) s.time)

/-- R204, R207, R208, R221: what the memory's events leave. A corrected word is counted; an uncorrectable one is
module-fatal. A cleared slice or unit reads as zeros and leaves every other byte. A hot channel shows in CCH_CHAN_HOT
until it has cooled. An LPDDR5X transfer is retried up to 4 times, each counted; a write lost at the fifth attempt
leaves its 256 B granule undefined (the model's free bytes) and touches no other byte. -/
def Obligations.MemoryEvents : Prop :=
  ∀ (s : State), s.boot.off = false →
    (∀ n, ∃ u : State, exec (.rsPatrol n none) s = .next u ∧
      u.reg Reg.cchRsCe = min (s.reg Reg.cchRsCe + n) (2 ^ 32 - 1) ∧ u.rstore = s.rstore ∧ u.dram = s.dram) ∧
    (∀ n pa k, s.sliceOf pa = some k → s.boot.fatal = 0 → ∃ u : State, exec (.rsPatrol n (some pa)) s = .next u ∧
      u.boot.fatal = 5 ∧ u.launches = [] ∧ u.rstore = s.rstore) ∧
    (∀ n, n < 20 → n ∈ s.pmap.clearSlices → ∃ u : State, exec (.clearingComplete true n) s = .next u ∧
      n ∉ u.pmap.clearSlices ∧ (∀ k, k ≠ n → (k ∈ u.pmap.clearSlices ↔ k ∈ s.pmap.clearSlices)) ∧ u.dram = s.dram ∧
      ∀ a, Mem.byte u.rstore a =
        if rsBase + n * 0x4000000 ≤ a ∧ a < rsBase + n * 0x4000000 + 0x3000000 then 0 else Mem.byte s.rstore a) ∧
    (∀ n, n < s.nUnits → n ∈ s.pmap.clearUnits → ∃ u : State, exec (.clearingComplete false n) s = .next u ∧
      n ∉ u.pmap.clearUnits ∧ (∀ k, k ≠ n → (k ∈ u.pmap.clearUnits ↔ k ∈ s.pmap.clearUnits)) ∧
      u.rstore = s.rstore ∧ ∀ a, Mem.byte u.dram a =
        if n * 0x40000000 ≤ a ∧ a < (n + 1) * 0x40000000 then 0 else Mem.byte s.dram a) ∧
    (∀ c, c < s.nChannels → ∃ u : State, exec (.channelHot c) s = .next u ∧
      (∀ k, bitOf (u.reg Reg.cchChanHot) k = (decide (k = c) || bitOf (s.reg Reg.cchChanHot) k)) ∧
      bitOf u.dict.alarmActive 13 = true ∧ bitOf u.dict.alarmLatched 13 = true) ∧
    (∀ c dt, c < s.nChannels → ∃ u : State, exec (.channelCool c dt) s = .next u ∧
      (∀ k, bitOf (u.reg Reg.cchChanHot) k = (decide (k ≠ c) && bitOf (s.reg Reg.cchChanHot) k)) ∧
      (u.reg Reg.cchChanHot = 0 → bitOf u.dict.alarmActive 13 = false)) ∧
    (∀ pa cause n, s.inDram pa = true → s.barOn = true → n < 5 →
      ∃ u : State, exec (.lpddr5xTransferComplete pa cause n) s = .next u ∧
        u.reg Reg.cchChanRetry = wrap64 (s.reg Reg.cchChanRetry + min n 4) ∧ u.dram = s.dram) ∧
    (∀ pa, s.inDram pa = true → 0x40000000 ≤ pa → s.barOn = true →
      ∃ u : State, exec (.lpddr5xTransferComplete pa .write 5) s = .next u ∧
        u.reg Reg.cchChanRetry = wrap64 (s.reg Reg.cchChanRetry + 4) ∧
        (∀ a, a / 256 ≠ pa / 256 → Mem.byte u.dram a = Mem.byte s.dram a) ∧
        (∀ a, a / 256 = pa / 256 → Mem.byte u.dram a = (s.freeBytes 256).getD (a % 256) 0))

/-! ### Translation, BARs and registers (chapters 09 and 17) -/

/-- R209, R211, R215, R216, R222: READ of the page map registers shows the entry at INDEX in DATA; WRITE of an allowed
entry puts DATA there, counts it and drops every cached translation of the page the old and of the page the new entry
maps; an index past the partition's map units, an entry of a wrong form, and an entry outside the carve-out leave the
map unchanged with RANGE, BAD_ENTRY and CARVE. A WRITE issued while the one before is still under way is ignored with
BUSY_IGNORED; whether it is, is a free value (log 63). -/
def Obligations.PageMapRegisters : Prop :=
  ∀ (s : State) (fn p : Nat),
    let i := s.reg (Reg.cchMapIndex p)
    let e := s.reg (Reg.cchMapData0 p) + 2 ^ 64 * s.reg (Reg.cchMapData1 p)
    let refuses (c : Instr) (r : Nat) : Prop := ∃ u : State, exec c s = .next u ∧
      u.reg (Reg.cchMapStatus p) = 2 * r ∧ u.pmap = s.pmap ∧
      (∀ o, o ≠ Reg.cchMapStatus p → u.reg o = s.reg o)
    p < 8 → s.Reaches fn 0 → s.alive = true → actsFor fn p = true →
    (Reg.cchMapStatus p ∈ s.busy → exec (.mapWrite fn p) s =
      if s.freeVal 1 = 1 then .next ((s.useFree 1).setReg (Reg.cchMapStatus p) 8)
      else exec (.mapWrite fn p) (s.seenDone (Reg.cchMapStatus p))) ∧
    (Reg.cchMapStatus p ∉ s.busy →
    (i < s.mapUnits p * 32768 → ∃ u : State, exec (.mapRead fn p) s = .next u ∧
      u.reg (Reg.cchMapData0 p) = s.mapEntry p i % 2 ^ 64 ∧ u.reg (Reg.cchMapData1 p) = s.mapEntry p i / 2 ^ 64 ∧
      u.reg (Reg.cchMapStatus p) = 0 ∧ u.pmap = s.pmap) ∧
    (i < s.mapUnits p * 32768 →
      eV e = false ∨ (entryFormOk e = true ∧ s.physOk p (eTgt e) (ePage e) = true ∧
        (eTgt e ≤ 1 → s.inCarve p (eTgt e) (ePage e) = true)) →
      ∃ u : State, exec (.mapWrite fn p) s = .next u ∧ u.mapEntry p i = e ∧
        (∀ k j, s.mapFirst k * 32768 + j ≠ s.mapFirst p * 32768 + i → u.mapEntry k j = s.mapEntry k j) ∧
        (∀ t ∈ u.pmap.tlb, t ∈ s.pmap.tlb ∧ (t.2.1 = p → t.2.2.1 ≠ eVpn (s.mapEntry p i) ∧ t.2.2.1 ≠ eVpn e)) ∧
        u.reg (Reg.cchMapWrites p) = (s.reg (Reg.cchMapWrites p) + 1) % 2 ^ 64 ∧
        u.reg (Reg.cchMapStatus p) = 0 ∧ (s.Quiet → u.rstore = s.rstore ∧
          ∀ b, b / 128 ≠ s.mapFirst p * 4096 + i / 8 → Mem.byte u.dram b = Mem.byte s.dram b)) ∧
    (s.mapUnits p * 32768 ≤ i → refuses (.mapRead fn p) 1 ∧ refuses (.mapWrite fn p) 1) ∧
    (i < s.mapUnits p * 32768 → eV e = true → entryFormOk e = false ∨ s.physOk p (eTgt e) (ePage e) = false →
      refuses (.mapWrite fn p) 2) ∧
    (i < s.mapUnits p * 32768 → eV e = true → entryFormOk e = true → s.physOk p (eTgt e) (ePage e) = true →
      eTgt e ≤ 1 → s.inCarve p (eTgt e) (ePage e) = false → refuses (.mapWrite fn p) 3))

/-- R212: a virtual page is looked for in the four buckets from its home bucket, slots ascending, and the first valid entry
of the page in that order is used; a page at or above 2^48, or that no slot of the four holds, is not mapped. A holder's
miss brings the bucket lines it reads into its cluster's cache (R214; where the map lies in the reserve is the model's
choice, log 82), takes the entry into the holder's own and is counted, memory and every register but the cluster's hits and
misses unchanged. The first check that fails gives the reason of the fault, in the order not mapped, context, carve, write,
attribute. -/
def Obligations.TranslationOrder : Prop :=
  ∀ (s : State) (holder p ctx va : Nat) (r : XReq),
    let n := s.mapUnits p * 4096
    let vpn := va / 2 ^ 15
    let at' (probe slot : Nat) : Nat := ((vpn ^^^ (vpn / 2 ^ 13) ^^^ (vpn / 2 ^ 26)) % n + probe) % n * 8 + slot
    let hits (i : Nat) : Prop := eV (s.mapEntry p i) = true ∧ eVpn (s.mapEntry p i) = vpn
    (∀ i e, s.walk p (va / 0x8000) = some (i, e) → e = s.mapEntry p i ∧ i < 8 * n ∧
      ∃ k < 4, ∃ j < 8, i = at' k j ∧ hits i ∧ ∀ k' < 4, ∀ j' < 8, 8 * k' + j' < 8 * k + j → ¬ hits (at' k' j')) ∧
    (s.walk p (va / 0x8000) = none → 0 < n → ∀ k < 4, ∀ j < 8, ¬ hits (at' k j)) ∧
    (2 ^ 48 ≤ va ∨ s.walk p (va / 0x8000) = none → s.translate p r va = .inr 1) ∧
    (∀ i e, va < 2 ^ 48 → s.walk p (va / 0x8000) = some (i, e) →
      let pa := ePage e + va % 0x8000
      let foreign := eSH e = false ∧ ∃ c, r.ctx = some c ∧ eOwner e ≠ c
      let attr := (eAttr e = 4 ∧ r.devOk = false) ∨ (eK e = true ∧ r.kOk = false)
      (foreign → s.translate p r va = .inr 2) ∧
      (¬ foreign → s.inCarve p (eTgt e) pa = false → s.translate p r va = .inr 3) ∧
      (¬ foreign → s.inCarve p (eTgt e) pa = true → eWP e = true → r.write = true → s.translate p r va = .inr 4) ∧
      (¬ foreign → s.inCarve p (eTgt e) pa = true → ¬ (eWP e = true ∧ r.write = true) → attr →
        s.translate p r va = .inr 5) ∧
      (¬ foreign → s.inCarve p (eTgt e) pa = true → ¬ (eWP e = true ∧ r.write = true) → ¬ attr →
        s.translate p r va = .inl { pa := pa, tgt := eTgt e, attr := eAttr e, k := eK e })) ∧
    (holder ≤ 188 → p < 8 → s.alive = true → s.holds holder p = true → va < 2 ^ 48 →
      ∃ u : State, exec (.translationWalk holder p ctx va) s = .next u ∧ u.dram = s.dram ∧
        u.pmap.entries = s.pmap.entries ∧
        (∀ o, o ∉ [Reg.cchXlatMiss p, Reg.cchHit (walkAgent holder), Reg.cchMiss (walkAgent holder)] → u.reg o = s.reg o) ∧
        ((∃ e, (holder, p, va / 0x8000, e) ∈ s.pmap.tlb) → u = s) ∧
        ((∀ e, (holder, p, va / 0x8000, e) ∉ s.pmap.tlb) →
          u.reg (Reg.cchXlatMiss p) = (s.reg (Reg.cchXlatMiss p) + 1) % 2 ^ 64 ∧
          (walkAgent holder ≤ 20 → ∀ line ∈ s.walkLines p (va / 0x8000), s.homeOf line ≠ none →
            u.line (walkAgent holder) line ≠ none) ∧
          ∀ i e, s.walk p (va / 0x8000) = some (i, e) → (holder, p, va / 0x8000, BitVec.ofNat 128 e) ∈ u.pmap.tlb))

/-- R194, R218: the PF's BAR4 is LPDDR5X but its unit 0: a write in a domain with nothing under way puts its bytes there and leaves
every line it does not touch, a read answers the bytes as they stand. A VF's BAR4 is translated; an access that fails is
dropped or answered with Completer Abort, and counted. -/
def Obligations.BarFour : Prop :=
  ∀ (s : State) (off len : Nat) (bytes : List (BitVec 8)),
    let one (n : Nat) : Prop := 0 < n ∧ off % 0x8000 + n ≤ 0x8000
    (s.Reaches 0 2 → s.alive = true → off + bytes.length ≤ s.bar4Size 0 → one bytes.length → s.bar4Phys off = true →
      s.Quiet →
      ∃ u : State, exec (.bar4Write 0 off bytes false) s = .next u ∧
        (∀ i, i < bytes.length → Mem.byte u.dram (off + i) = bytes.getD i 0) ∧
        (∀ a, a / 128 ∉ linesOf off bytes.length → Mem.byte u.dram a = Mem.byte s.dram a) ∧ u.rstore = s.rstore) ∧
    (s.Reaches 0 2 → s.alive = true → off + len ≤ s.bar4Size 0 → one len → s.bar4Phys off = true →
      let r := s.physRead 31 none false off len
      exec (.bar4Read 0 off len) s = .next
        { r.1.tally moduleIndex Site.tlpOut 0 r.2.length with out := r.1.out ++ [.readBytes r.2] }) ∧
    (s.Reaches 0 2 → s.alive = true → off + len ≤ s.bar4Size 0 → one len → one bytes.length →
      off + bytes.length ≤ s.bar4Size 0 → s.bar4Phys off = false →
      let t := s.count Reg.dbgPfBar4 1
      exec (.bar4Read 0 off len) s = .next { t with out := t.out ++ [.completerAbort] } ∧
      exec (.bar4Write 0 off bytes false) s = .next ((s.tally moduleIndex Site.tlpIn 0 bytes.length).count Reg.dbgPfBar4 1)) ∧
    (∀ fn reason, 1 ≤ fn → s.Reaches fn 2 → s.alive = true → off + len ≤ s.bar4Size fn → one len →
      s.translate (fn - 1) { ctx := none, write := false, devOk := true, kOk := true } off = .inr reason →
      ∃ u : State, exec (.bar4Read fn off len) s = .next u ∧ u.out = s.out ++ [.completerAbort] ∧
        u.reg (Reg.cchPfCount (fn - 1)) = (s.reg (Reg.cchPfCount (fn - 1)) + 1) % 2 ^ 64 ∧ u.dram = s.dram) ∧
    (∀ fn, s.Reaches fn 2 → exec (.bar4Write fn off bytes true) s = .next (s.count Reg.hifPoisonRx 1))

/-- R10, R12, R423, R424: a read of a register its requester may make answers the register and changes nothing, but that
an RS counter clears when it is read whole and not frozen; a write of a read-only or counter register changes nothing,
and of an RW register without an action of its own it stores the value. An access of a block the function does not reach
reads 0 or is dropped, and is counted. A poisoned write is dropped and counted. -/
def Obligations.RegisterAccess : Prop :=
  ∀ (s : State) (fn off size value : Nat) (row : RegRow) (a : Nat),
    s.Reaches fn 0 → off + size ≤ 2 ^ 26 → 0 < size →
    (s.reaches fn off = true → s.blockOn off = true → arrayOf fn off = none → regOf off size = some (row, a) →
      let v := if row.access = .wo then 0 else s.seenReg fn row a
      let answer : Out := .readData (leNat (leBytes size (if a = off then v else v / 2 ^ 32))) size
      (mayRead fn off row = true → row.access ≠ .rs → a ∉ s.busy → a ∉ s.countingNow →
        exec (.registerRead fn off size) s = .next { s with out := s.out ++ [answer] }) ∧
      (mayRead fn off row = true → row.access = .rs → a = off → size = row.bytes → s.blockOn a = true →
        (row.counts = false ∨ s.freeze.copy = none) → a ∉ s.busy → a ∉ s.countingNow → ∃ u : State, exec (.rsCounterRead fn off size) s = .next u ∧
          u.out = s.out ++ [answer] ∧ u.reg a = row.reset % 2 ^ 64 ∧ ∀ o, o ≠ a → u.reg o = s.reg o) ∧
      (mayRead fn off row = true → row.counts = true → s.freeze.copy ≠ none → a ∉ s.busy →
        exec (.rsCounterRead fn off size) s = .next { s with out := s.out ++ [answer] }) ∧
      (mayWrite fn row = true → row.access = .ro ∨ row.access = .rs →
        exec (.registerWrite fn off size value false) s = .next s) ∧
      (mayWrite fn row = true → row.access = .rw → a = off → size = row.bytes →
        (∃ p r, blockOf a = some (.window, p, r) ∧
          r ∈ [0x0, 0x8, 0x100, 0x108, 0x1000, 0x1008, 0x1010, 0x2008, 0x3000, 0x3008]) →
        ∃ u : State, exec (.registerWrite fn off size value false) s = .next u ∧
          u.reg a = (value % 2 ^ (8 * size)) &&& (2 ^ row.bits - 1) ∧ ∀ o, o ≠ a → u.reg o = s.reg o) ∧
      (mayRead fn off row = false → exec (.registerRead fn off size) s =
        .next ((s.count Reg.dbgBadAccess 1).emit (.readData 0 size))) ∧
      (mayWrite fn row = false → exec (.registerWrite fn off size value false) s = .next (s.count Reg.dbgBadWrite 1))) ∧
    (s.reaches fn off = false →
      exec (.registerRead fn off size) s = .next ((s.count Reg.dbgBadAccess 1).emit (.readData 0 size)) ∧
      exec (.registerWrite fn off size value false) s = .next (s.count Reg.dbgBadWrite 1)) ∧
    exec (.registerWrite fn off size value true) s = .next (s.count Reg.hifPoisonRx 1)

/-! ### The Starter (chapter 10) -/

/-- R225, R226, R252, R254: the queue commands act on the queue STR_Q_SEL names, which must lie in the partition's range.
READ shows the descriptor, WRITE replaces that of a DISABLED queue, ENABLE makes a DISABLED queue with an acceptable
descriptor RUNNING with HEAD, TAIL and count 0, DISABLE drains a RUNNING queue and disables a STOPPED one, RESUME makes
a STOPPED one RUNNING at its HEAD; a wrong state answers STATE, a wrong descriptor BAD_QDESC. A command given while the
last one is BUSY is ignored and answers BUSY_IGNORED. -/
def Obligations.QueueCommands : Prop :=
  ∀ (s : State) (fn p : Nat),
    let q := s.reg (Reg.strQSel p)
    let x := s.queue q
    let ends (i : Instr) (r : Nat) (facts : State → Prop) : Prop :=
      ∃ u : State, exec i s = .next ((u.settle).qResult p r) ∧ (∀ k, k ≠ q → u.queue k = s.queue k) ∧
        u.dram = s.dram ∧ facts u
    let same (u : State) : Prop := u.queue q = x
    let d := (List.range 8).foldl (fun d i => d + s.reg (Reg.strQData p i) * 2 ^ (64 * i)) 0
    p < 8 → s.Reaches fn 0 → s.alive = true → actsFor fn p = true →
    (Reg.strQStatus p ∈ s.busy → ∀ i ∈ [Instr.queueRead fn p, .queueWrite fn p, .queueEnable fn p,
      .queueDisable fn p, .queueResume fn p], exec i s =
        if s.freeVal 1 = 1 then .next ((s.useFree 1).setReg (Reg.strQStatus p) 8) else exec i (s.seenDone (Reg.strQStatus p))) ∧
    (Reg.strQStatus p ∉ s.busy →
    (s.inRange p .queue q = false → exec (.queueRead fn p) s = .next (s.qResult p 1) ∧
      exec (.queueWrite fn p) s = .next (s.qResult p 1) ∧ exec (.queueEnable fn p) s = .next (s.qResult p 1) ∧
      exec (.queueDisable fn p) s = .next (s.qResult p 1) ∧ exec (.queueResume fn p) s = .next (s.qResult p 1)) ∧
    (s.inRange p .queue q = true →
      ends (.queueRead fn p) 0 (fun u => same u ∧
        ∀ i < 8, u.reg (Reg.strQData p i) = x.desc.toNat / 2 ^ (64 * i) % 2 ^ 64) ∧
      (x.st = .disabled → ends (.queueWrite fn p) 0 (fun u => (u.queue q).desc = BitVec.ofNat 512 d ∧
        (u.queue q).st = .disabled)) ∧
      (x.st ≠ .disabled → ends (.queueWrite fn p) 3 same ∧ ends (.queueEnable fn p) 3 same) ∧
      (x.st = .disabled → s.qdescOk p x = false → ends (.queueEnable fn p) 2 same) ∧
      (x.st = .disabled → s.qdescOk p x = true → ends (.queueEnable fn p) 0 (fun u =>
        let y := u.queue q
        y.st = .running ∧ y.desc = x.desc ∧ y.head = 0 ∧ y.tail = 0 ∧ y.ccount = 0 ∧ y.cqHead = 0 ∧ y.packets = [] ∧
          y.cur = none)) ∧
      (x.st = .running → x.inFlight ≠ 0 → ends (.queueDisable fn p) 0 (fun u =>
        let y := u.queue q
        y.st = .draining ∧ y.head = x.head ∧ y.packets = x.packets.filter (fun k => k.2.st != .decoded))) ∧
      (x.st = .running → x.inFlight = 0 → (s.ctx x.context).st ≠ .aborting → ends (.queueDisable fn p) 0 (fun u =>
        (u.queue q).st = .disabled ∧ (u.queue q).packets = [] ∧ (u.queue q).cur = none)) ∧
      (x.st = .stopped → ends (.queueDisable fn p) 0 (fun u => (u.queue q).st = .disabled ∧ (u.queue q).cur = none)) ∧
      (x.st = .draining ∨ x.st = .disabled → ends (.queueDisable fn p) 3 same) ∧
      (x.st = .stopped → ends (.queueResume fn p) 0 (fun u =>
        let y := u.queue q
        y.st = .running ∧ y.head = x.head ∧ y.tail = x.tail ∧ y.desc = x.desc ∧ y.cqLost = false)) ∧
      (x.st ≠ .stopped → ends (.queueResume fn p) 3 same)))

/-- R227, R228, R244, R249, R265: a doorbell moves a ring's TAIL forward by at most the ring's size, stamping the new
packets; any other value is a ring overrun that stops the queue. On a periodic queue it sets the next list; on a
DISABLED one it is ignored and counted. STR_DB_CQHEAD moves the consumed count up to the records written. A doorbell of
a queue outside the function's partition is counted. -/
def Obligations.Doorbells : Prop :=
  ∀ (s : State) (fn q v p : Nat),
    let x := s.queue q
    let t := v % 2 ^ 32
    let far := (t + 2 ^ 32 - x.head) % 2 ^ 32
    let now := (x.tail + 2 ^ 32 - x.head) % 2 ^ 32
    let rings (facts : State → Prop) : Prop :=
      (∃ u : State, exec (.strDbTail fn q v) s = .next u.settle ∧ (∀ k, k ≠ q → u.queue k = s.queue k) ∧ facts u) ∧
      (s.Reaches fn 0 → p < 8 → s.inRange p .queue q = true →
        ∃ u : State, exec (.strRing fn p (q + v % 2 ^ 32 * 2 ^ 32)) s = .next u.settle ∧
          (∀ k, k ≠ q → u.queue k = s.queue k) ∧ facts u)
    q < 65536 → s.Reaches fn 1 → s.alive = true →
    (s.partOf .queue q = some p → actsFor fn p = true →
      (x.st = .disabled → rings (fun u => u = s.count (Reg.strDbIgnored p) 1)) ∧
      (x.st ≠ .disabled → x.periodic = true →
        let ofs := v / 2 ^ 16 % 2 ^ 16
        let len := v % 2 ^ 16
        (ofs + len ≤ 2 ^ x.ringLog → rings (fun u => u.queue q = { x with nextList := (ofs, len) })) ∧
        (2 ^ x.ringLog < ofs + len → rings (fun u => u = s.count (Reg.strDbIgnored p) 1))) ∧
      (x.st ≠ .disabled → x.periodic = false → now ≤ far → far ≤ 2 ^ x.ringLog →
        rings (fun u => (u.queue q).tail = t ∧ (u.queue q).head = x.head ∧ (u.queue q).packets = x.packets ∧
          (t ≠ x.tail → ∃ n, (u.queue q).stamps = x.stamps ++ [(t, n)] ∧ Tab.get 0 u.enq p = n ∧
            n = (Tab.get 0 s.enq p + 1) % 2 ^ 64))) ∧
      (x.st = .running → x.halt = false → x.periodic = false → (far < now ∨ 2 ^ x.ringLog < far) →
        rings (fun u => (u.queue q).st = .stopped ∧ (u.queue q).head = x.head ∧ (u.queue q).tail = x.tail)) ∧
      ((x.ccount + 2 ^ 32 - t) % 2 ^ 32 ≤ 2 ^ x.cqLog →
        exec (.strDbCqhead fn q v) s =
          .next (((s.heldCycles p).setQueue q { x with cqHead := t }).cqFlush q x.owed.length).settle ∧
        (x.owed = [] → (((s.heldCycles p).setQueue q { x with cqHead := t }).cqFlush q x.owed.length).queue q =
          { x with cqHead := t })) ∧
      (2 ^ x.cqLog < (x.ccount + 2 ^ 32 - t) % 2 ^ 32 →
        exec (.strDbCqhead fn q v) s = .next (s.count (Reg.strDbIgnored p) 1).settle)) ∧
    ((s.partOf .queue q = none ∨ ∃ p, s.partOf .queue q = some p ∧ actsFor fn p = false) →
      exec (.strDbTail fn q v) s = .next (s.count Reg.dbgBadDoorbell 1) ∧
      exec (.strDbCqhead fn q v) s = .next (s.count Reg.dbgBadDoorbell 1))

/-- R232, R266: decode reads the packet at its ring slot in device memory and keeps it with its enqueue stamp; an opcode
of no packet gives BAD_OPCODE, a wrong header or payload BAD_FIELD, and a slot that does not translate PAGE_FAULT; the
packet then completes with that status in its turn. -/
def Obligations.PacketDecoding : Prop :=
  ∀ (s : State) (q n : Nat),
    let x := s.queue q
    let p := s.qPart q
    let va := x.ringBase + 64 * x.slotOf n
    let read := (s.tlbUse starterTlb p va).readFor q n p x.context va 64
    let decodes (v : State) (facts : Packet → Prop) : Prop :=
      ∃ (u : State) (k : Packet), exec (.packetDecode q) s = .next u.settle ∧ (u.queue q).packets.look n = some k ∧
        k.st = .decoded ∧ k.stamp = x.stampOf n ∧ facts k ∧ (u.queue q).head = x.head ∧ u.dram = v.dram
    q < 65536 → s.alive = true → s.fetching = true → x.st = .running → x.halt = false → x.periodic = false →
    x.skip = false → x.nextDecode = some n →
    (∀ r a, read = .fault r a → decodes s (fun k => k.dstat = Stat.pageFault ∧ k.reason = r ∧ k.faultAddr = a)) ∧
    (∀ v b, read = .data v b →
      let raw := BitVec.ofNat 512 (leNat b)
      (packetOpcodes.contains (pOpcode raw) = false →
        decodes v (fun k => k.raw = raw ∧ k.dstat = Stat.badOpcode)) ∧
      (packetOpcodes.contains (pOpcode raw) = true →
        (headerOk raw false = false ∨ v.payloadOk p raw = false) →
        decodes v (fun k => k.raw = raw ∧ k.dstat = Stat.badField)) ∧
      (packetOpcodes.contains (pOpcode raw) = true → headerOk raw false = true →
        v.payloadOk p raw = true → runsLaunch raw = false → pDeadline raw = 0 →
        decodes v (fun k => k.raw = raw ∧ k.dstat = v.lateChecks p (x.stampOf n) raw 0 [])))

/-- R116, R231, R237, R240, R241, R243: what the start of each packet leaves. The packet is started at the device time,
with a completion entry and its queue's request; a kernel or lap launch becomes its launch, a lap standing on every core
of its list; a copy or fill has its engine; NOP, waits, signals, requests and TIMESTAMP complete at once, with the
status their entries give; a wait takes one from each of its batons. -/
def Obligations.PacketStarts : Prop :=
  ∀ (s t : State) (q op n dma : Nat) (k : Packet), s.Starts t q op n k dma →
    let begins (i : Instr) (facts : State → Packet → Prop) : Prop :=
      ∃ (u : State) (p : Packet), exec i s = .next u.settle ∧ t.Began u q n dma k p ∧ facts u p
    let completes (i : Instr) (st : Nat) (facts : State → State → Prop) : Prop :=
      ∃ (u v : State) (p : Packet), exec i s = .next (v.completePacket q n st).settle ∧ t.Began u q n dma k p ∧
        facts u v
    let a := t.starterActor (t.qPart q) (pTag k.raw) q
    let slot := pAt k.raw 44 2
    let cur := (t.queue q).cur
    (op = 0x01 → completes (.nopPacket q) 0 (fun u v => v = u)) ∧
    (op = 0x02 → ∃ u p, t.Began u q n dma k p ∧
      let va := pAt k.raw 32 8
      let v := u.tlbUse starterTlb (u.qPart q) va
      (∀ w, v.stale (u.qPart q) k.stamp va = false →
        v.writePart 20 (u.qPart q) (u.queue q).context va (leBytes 8 t.time) = .inl w →
        exec (.timestamp q) s = .next (w.completePacket q n 0).settle)) ∧
    (op = 0x10 ∨ op = 0x11 → runsLaunch k.raw = true → t.placed k = false →
      completes (if op = 0x10 then .launchKernel q else .launchLap q) Stat.absentUnit (fun u v => v = u)) ∧
    (op = 0x10 → runsLaunch k.raw = true → t.placed k = true → begins (.launchKernel q) (fun u p =>
      ∃ i l, p.launch = some i ∧ u.launch i = some l ∧ l.lap = false ∧ l.q = q ∧ l.n = n ∧ l.place = k.place ∧
        l.entry = pAt k.desc 0 8 ∧ l.arg = pAt k.raw 40 8 ∧ l.teams = pAt k.raw 48 4 ∧ l.packs = pAt k.desc 17 1 ∧
        l.regs = pAt k.desc 18 1 ∧ l.scratch = pAt k.desc 19 1 ∧ l.stamp = k.stamp ∧ l.next = 0 ∧ l.ended = 0)) ∧
    (op = 0x11 → runsLaunch k.raw = true → t.placed k = true → begins (.launchLap q) (fun u p =>
      ∃ i l, p.launch = some i ∧ u.launch i = some l ∧ l.lap = true ∧ l.q = q ∧ l.n = n ∧ l.place = k.place ∧
        l.addr = pAt k.desc 0 8 ∧ l.entry = pAt k.desc 8 8 ∧ l.ncmd = pAt k.desc 26 2 ∧ l.replays = pAt k.raw 56 4 ∧
        l.seed = pAt k.raw 48 8 ∧ l.loaded = false ∧
        ∀ c ∈ k.place, (u.core c).stream = [] ∧ ∃ x, (u.core c).lap = some x ∧ x.launch = i ∧ x.cmds = [])) ∧
    (op = 0x10 ∨ op = 0x11 → runsLaunch k.raw = false →
      completes (if op = 0x10 then .launchKernel q else .launchLap q) 0 (fun u v => v = u)) ∧
    (op = 0x20 → begins (.copy q) (fun _ _ => True)) ∧
    (op = 0x21 → begins (.fill q) (fun _ _ => True)) ∧
    (op = 0x30 → completes (.waitFence q) 0 (fun u v => v = u)) ∧
    (op = 0x32 → completes (.waitBaton q) 0 (fun u v => v = u ∧ ((t.queue q).free5 k = false →
      ∀ b, (u.baton b).value = (t.baton b).value - (batonWaits k.raw).count b))) ∧
    (op = 0x31 → ∃ u p, t.Began u q n dma k p ∧ exec (.signalFence q) s =
      .next ((u.runSignalFence q k.raw a).1.completePacket q n (u.runSignalFence q k.raw a).2).settle) ∧
    (op = 0x33 → ∃ u p, t.Began u q n dma k p ∧ exec (.signalBaton q) s =
      .next ((u.runSignalBaton k.raw a).1.completePacket q n (u.runSignalBaton k.raw a).2).settle) ∧
    (op = 0x40 → pAt k.raw 46 1 = 0 →
      (cur.isSome = true ∨ (t.request slot).st ≠ 0 → completes (.openRequest q) Stat.reqBusy (fun u v => v = u)) ∧
      (cur = none → (t.request slot).st = 0 → completes (.openRequest q) 0 (fun _ v =>
        (v.request slot).st = 1 ∧ (v.request slot).reqid = pAt k.raw 32 8 ∧ (v.request slot).attached = 1 ∧
          (v.request slot).tenant = pAt k.raw 40 4 ∧ (v.queue q).cur = some slot))) ∧
    (op = 0x40 → pAt k.raw 46 1 ≠ 0 → cur = none →
      let r := t.request slot
      (r.st ≠ 1 ∨ r.reqid ≠ pAt k.raw 32 8 → completes (.openRequest q) Stat.reqMismatch (fun u v => v = u)) ∧
      (r.st = 1 → r.reqid = pAt k.raw 32 8 → 255 ≤ r.attached →
        completes (.openRequest q) Stat.reqBusy (fun u v => v = u)) ∧
      (r.st = 1 → r.reqid = pAt k.raw 32 8 → r.attached < 255 → completes (.openRequest q) 0 (fun _ v =>
        v.request slot = { r with attached := r.attached + 1 } ∧ (v.queue q).cur = some slot))) ∧
    (op = 0x41 →
      (cur = some slot → (t.request slot).reqid = pAt k.raw 32 8 →
        completes (.closeRequest q) 0 (fun _ v => (v.queue q).cur = none)) ∧
      (cur ≠ some slot ∨ (t.request slot).reqid ≠ pAt k.raw 32 8 → (t.queue q).skip = false →
        completes (.closeRequest q) Stat.reqMismatch (fun u v => v = u))) ∧
    (op = 0x50 → ∃ u p, t.Began u q n dma k p ∧ exec (.sendMessage q) s = .next (u.sendNow q n).settle)

/-- R97, R119, R236, R245, R248, R252: a packet whose engine is done completes, a launch with the launch's status, a copy
or fill once it has moved all its bytes, in pieces of 4 KiB, each byte as it stood at the source; one that was stopped
starts no further piece; one whose engine is not done stays. A packet dropped with its period, whose record counts the
list, waits until the list has been read. Completion takes the packet out of flight: OK
frees the head of the ring, a stopping status stops the queue once nothing of it is in flight, with HEAD at the packet
and the unstarted packets to be read again, counted in STR_FAILED. -/
def Obligations.PacketCompletion : Prop :=
  ∀ (s : State) (q n : Nat) (p : Packet),
    let x := s.queue q
    (q < 65536 → s.alive = true → x.packets.look n = some p → p.st = .started → x.counting n = true → s.fetching = true →
      exec (.packetComplete q n) s = .next (s.decodeNext q).settle) ∧
    (q < 65536 → s.alive = true → x.packets.look n = some p → p.st = .started → x.counting n = false →
      (∀ i l, pOpcode p.raw = 0x10 ∨ pOpcode p.raw = 0x11 → p.launch = some i → s.launch i = some l →
        (l.complete = true → ∃ v : State, exec (.packetComplete q n) s =
            .next (v.completePacket q n l.status).settle ∧
          v.dram = s.dram ∧ v.cores = s.cores) ∧
        (l.complete = false → exec (.packetComplete q n) s = .next s.settle)) ∧
      (pOpcode p.raw = 0x20 ∨ pOpcode p.raw = 0x21 → p.status = 0 → p.length ≤ p.moved →
        exec (.packetComplete q n) s = .next (s.completePacket q n 0).settle) ∧
      (pOpcode p.raw = 0x20 ∨ pOpcode p.raw = 0x21 → p.status ≠ 0 → ∃ u : State,
        exec (.packetComplete q n) s = .next (u.completePacket q n p.status).settle ∧
        (s.freeVal 1 = 0 → u = s.useFree 1)) ∧
      (∀ b r t m, pOpcode p.raw = 0x20 → p.status = 0 → p.moved % 4096 = 0 → p.moved < p.length →
        m = min (p.length - p.moved) 4096 →
        let src := pAt p.raw 32 8 + p.moved
        let dst := pAt p.raw 40 8 + p.moved
        let part := s.qPart q
        src % 0x8000 + m ≤ 0x8000 → dst % 0x8000 + m ≤ 0x8000 →
        let u := s.tlbUse (dmaTlb p.dma) part src
        let v := (if r.kPage part src then r.count (Reg.dbgKvRead part) m else r).useFree (m / 8 + 1)
        let w := v.tlbUse (dmaTlb p.dma) part dst
        u.stale part p.stamp src = false → u.readPart p.dma q n part x.context src m = .data r b →
        (∀ i < m, v.aliased part x.context p dst i = false) → b.length = m → w.stale part p.stamp dst = false →
        w.writePart p.dma part x.context dst b = .inl t → t.pcie.dmaRegs = [] →
        let y := (t.tally p.meter Site.dmaBytes (p.dma / 10) m).setPacket q n (fun k => { k with moved := p.moved + m })
        (p.moved + m = p.length → exec (.packetComplete q n) s = .next (y.completePacket q n 0).settle) ∧
        (p.moved + m < p.length → exec (.packetComplete q n) s = .next y.settle)) ∧
      (∀ t, pOpcode p.raw = 0x21 → p.status = 0 → p.moved = 0 → 0 < p.length → p.length ≤ 4096 →
        pAt p.raw 32 8 % 0x8000 + p.length ≤ 0x8000 →
        let d := pAt p.raw 32 8
        let u := s.tlbUse (dmaTlb p.dma) (s.qPart q) d
        u.stale (s.qPart q) p.stamp d = false →
        u.writePart p.dma (s.qPart q) x.context d
          ((List.range p.length).map (fun i => BitVec.ofNat 8 (pAt p.raw 40 8 / 2 ^ (8 * (i % 2 ^ pAt p.raw 56 1))))) =
            .inl t → t.pcie.dmaRegs = [] →
        ∃ v : State, exec (.packetComplete q n) s = .next (v.completePacket q n 0).settle ∧ v.dram = t.dram ∧
          v.agents = t.agents)) ∧
    (x.packets = [(n, p)] → x.st = .running → x.halt = false → x.periodic = false → x.head = n → n < 2 ^ 32 →
      x.skip = false → x.skipOwner = none → p.st = .started → p.glint = false → pCr p.raw = false →
      (pOpcode p.raw ≠ 0x41 → let u := s.completePacket q n 0
        (u.queue q).packets = [] ∧ (u.queue q).head = (n + 1) % 2 ^ 32 ∧ (u.queue q).st = .running ∧
        (u.queue q).ccount = x.ccount ∧ (u.queue q).reserved = x.reserved - 1) ∧
      (∀ st, stopping st = true → let u := s.completePacket q n st
        s.entry 0x2210 3 = 0 → (u.queue q).st = .stopped ∧ (u.queue q).packets = [] ∧ (u.queue q).head = n ∧
        (u.queue q).reserved = x.reserved - 1))

/-- R230, R244 to R246: what the Starter's clocks do. A packet of a ring that has not completed at its DEADLINE is
dropped late; a packet that has waited longer than its queue's limit completes with WAIT_TIMEOUT; a period begins at its
start with the list in force, and is dropped at its deadline; before their time they leave everything but the time and
what is due on waiting packets. -/
def Obligations.StarterClocks : Prop :=
  ∀ (s : State) (q n dt : Nat),
    let t := (s.tick dt).settle
    let x := t.queue q
    q < 65536 → s.alive = true →
    (∀ p, x.packets.look n = some p →
      let due := x.periodic = false ∧ x.st = .running ∧ pDeadline p.raw ≠ 0 ∧ pDeadline p.raw ≤ t.time ∧
        ((p.st = .decoded ∧ p.dstat = 0) ∨ (p.st = .started ∧ p.status = 0 ∧ t.faulted p = false))
      (¬ due → exec (.deadlineExpiry q n dt) s = .next t.settle) ∧
      (due → p.st = .decoded → x.cur = none → pOpcode p.raw ≠ 0x40 →
        ∃ u k, exec (.deadlineExpiry q n dt) s = .next (State.settle u) ∧ (u.queue q).packets.look n = some k ∧
          k.st = .decoded ∧ k.dstat = Stat.droppedLate ∧ k.waitSince = none ∧ k.raw = p.raw) ∧
      (due → p.st = .started → x.cur = none → pOpcode p.raw = 0x20 ∨ pOpcode p.raw = 0x21 →
        ∃ u k, exec (.deadlineExpiry q n dt) s = .next (State.settle u) ∧ (u.queue q).packets.look n = some k ∧
          k.st = .started ∧ k.status = Stat.droppedLate)) ∧
    (∀ k p w, x.nextStart = some (k, p) → p.waitSince = some w → x.cond123 k p = true →
      t.waitsMet p.raw = false → x.waitLimit ≠ 0 →
      (x.waitLimit * 1000 < t.since w → ∃ (u : State) (baton : Nat), exec (.waitTimeout q dt) s =
        .next (u.completePacket q k Stat.waitTimeout).settle ∧ u.dram = t.dram ∧
        u.queues = (t.setPacket q k (fun p => { p with faultAddr := baton })).queues ∧
        (batonWaits p.raw = [] → baton = 0) ∧ (∀ b, batonWaits p.raw = [b] → (t.baton b).value = 0 → baton = b)) ∧
      (t.since w ≤ x.waitLimit * 1000 → exec (.waitTimeout q dt) s = .next t.settle)) ∧
    (x.periodic = true → x.periodNs ≠ 0 → x.st = .running → x.active = false → x.halt = false →
      x.inFlight = 0 → t.fetching = true →
      (t.time < x.startOf x.next → exec (.periodStart q dt) s = .next t.settle) ∧
      (x.startOf x.next ≤ t.time → t.time < x.deadlineOf x.next → 0 < x.nextList.2 →
        ∃ u : State, exec (.periodStart q dt) s = .next u.settle ∧
          let y := u.queue q
          y.active = true ∧ y.period = x.next ∧ y.next = x.next + 1 ∧ y.list = x.nextList ∧ y.packets = [] ∧
            y.dropped = false ∧ y.st = .running ∧ y.desc = x.desc)) ∧
    (x.periodic = true → x.active = true → x.dropped = false → x.st = .running → x.halt = false →
      (t.time < x.deadlineOf x.period → exec (.periodDeadline q dt) s = .next t.settle) ∧
      (x.deadlineOf x.period ≤ t.time → x.list.2 = 1 → (∃ p, x.packets = [(0, p)] ∧ p.st = .decoded ∧
          pFinally p.raw = false ∧ p.waitSince = none) → x.cur = none → x.prec = false →
        ∃ u : State, exec (.periodDeadline q dt) s = .next u.settle ∧ (u.queue q).active = false ∧
          (u.queue q).packets = [] ∧ (u.queue q).next = x.next ∧ (u.queue q).st = .running)) ∧
    (x.periodic = true → x.st = .stopped ∨ x.st = .disabled → x.startOf x.next ≤ t.time → x.periodNs ≠ 0 →
      ∃ u : State, exec (.periodStart q dt) s = .next u.settle ∧ (u.queue q).next = x.firstAfter t.time ∧
        (u.queue q).st = x.st)

/-! ### Shared objects (chapter 11) -/

/-- R259, R280: a management command acts on the slot STR_OBJ_SEL names, which must lie in the partition's range of its
class, and is not taken while another is BUSY. R260 to R265: CREATE of a FREE context makes it LIVE; DESTROY of a LIVE
one begins its forced abort, in which none of its queues runs, and stays BUSY until it is DEFUNCT, when nothing of its
queues is in flight, they are DISABLED, its fences are in error and ORPHANED, its batons FREE and its memory objects FREEING; the scan clears its map
entries outside objects being freed. A memory object is created on a page range that no other of the partition
overlaps, is FREEING from DESTROY with the enqueue count as its stamp, and is released once no incomplete packet
carries that stamp or a lower one. -/
def Obligations.ContextsAndMemoryObjects : Prop :=
  ∀ (s : State) (fn p : Nat),
    let n := s.reg (Reg.strObjSel p)
    let busy := Reg.strObjStatus p
    let gave (u : State) : State := { u with busy := busy :: u.busy.filter (fun x => x ≠ busy) }
    let d (i : Nat) : Nat := s.reg (Reg.strObjData p i)
    let base := d 0 % 2 ^ 48
    let pages := d 1 % 2 ^ 25
    let owner := d 1 / 2 ^ 32 % 2 ^ 12
    let ends (i : Instr) (r b : Nat) (facts : State → Prop) : Prop :=
      ∃ u : State, exec i s = .next (gave (u.settle.setReg busy (b + 2 * r))) ∧ facts u
    let same (u : State) : Prop := u = s
    let ofClass (cls : Nat) : List Instr :=
      match cls with
      | 0 => [.contextCreate fn p, .contextDestroy fn p, .contextRead fn p]
      | 1 => [.mobjCreate fn p, .mobjDestroy fn p, .mobjRead fn p]
      | 2 => [.fenceCreate fn p, .fenceSignal fn p, .fenceSetexp fn p, .fenceRead fn p, .fenceDestroy fn p]
      | 3 => [.batonCreate fn p, .batonSignal fn p, .batonRead fn p, .batonDestroy fn p]
      | _ => [.requestRead fn p]
    p < 8 → s.Reaches fn 0 → s.alive = true → actsFor fn p = true →
    (s.reg busy % 2 = 1 → ∀ cls < 5, ∀ i ∈ ofClass cls, exec i s = .next (s.setReg busy 19)) ∧
    (s.reg busy % 2 = 0 → busy ∈ s.busy → ∀ cls < 5, ∀ i ∈ ofClass cls, exec i s =
      if s.freeVal 1 = 1 then .next ((s.useFree 1).setReg busy 18) else exec i (s.seenDone busy)) ∧
    (s.reg busy % 2 = 0 → busy ∉ s.busy → (∀ cls < 5, s.inRange p (classKind cls) n = false → ∀ i ∈ ofClass cls,
        exec i s = .next (gave (s.setReg busy 2))) ∧
      (s.inRange p .ctx n = true →
        ((s.ctx n).st = .free → ends (.contextCreate fn p) 0 0 (fun u =>
          u = s.setCtx n { Context.init with st := .live })) ∧
        ((s.ctx n).st ≠ .free → ends (.contextCreate fn p) 2 0 same) ∧
        ((s.ctx n).st ≠ .live → ends (.contextDestroy fn p) 2 0 same) ∧
        ((s.ctx n).st = .live → s.partOf .ctx n = some p → ends (.contextDestroy fn p) 0 1 (fun u =>
          (u.ctx n).st = .aborting ∧ (u.ctx n).byCmd = true ∧ (u.ctx n).since = s.time ∧
          ∀ k, (u.queue k).st = .running → (u.queue k).context = n → s.partOf .queue k ≠ some p)) ∧
        ends (.contextRead fn p) 0 0 (fun u => u.ctxs = s.ctxs ∧
          u.reg (Reg.strObjData p 3) % 2 ^ 16 = (s.ctx n).st.code ∧
          u.reg (Reg.strObjData p 3) / 2 ^ 16 = s.freeingOf p n % 2 ^ 16)) ∧
      (s.inRange p .mobj n = true →
        ((s.mobj n).st ≠ 0 → ends (.mobjCreate fn p) 2 0 same) ∧
        ((s.mobj n).st = 0 → d 0 < 2 ^ 48 → base % 0x8000 = 0 → d 1 = pages + 2 ^ 32 * owner → 0 < pages →
          pages ≤ 2 ^ 24 → s.ownerOk p owner = true → base + pages * 0x8000 < 2 ^ 48 →
          let clash := ∃ m x, (m, x) ∈ s.mobjs ∧ x.st ≠ 0 ∧ s.partOf .mobj m = some p ∧
            base < x.base + x.pages * 0x8000 ∧ x.base < base + pages * 0x8000
          (clash → ends (.mobjCreate fn p) 4 0 same) ∧
          (¬ clash → ends (.mobjCreate fn p) 0 0 (fun u =>
            u = s.setMobj n { MObj.init with st := 1, base := base, pages := pages, owner := owner }))) ∧
        ((s.mobj n).st ≠ 1 → ends (.mobjDestroy fn p) 2 0 same) ∧
        ((s.mobj n).st = 1 → d 2 = d 2 % 4 + 2 ^ 32 * (d 2 / 2 ^ 32 % 2 ^ 18) →
          (d 2 / 2 % 2 = 1 → s.inRange p .fence (d 2 / 2 ^ 32 % 2 ^ 18) = true) →
          (128 ≤ s.freeing p → ends (.mobjDestroy fn p) 5 0 same) ∧
          (s.freeing p < 128 → ends (.mobjDestroy fn p) 0 0 (fun u =>
            (u.mobj n).st = 2 ∧ (u.mobj n).stamp = Tab.get 0 s.enq p ∧ (u.mobj n).base = (s.mobj n).base ∧
            (u.mobj n).pages = (s.mobj n).pages ∧ (u.mobj n).zero = decide (d 2 % 2 = 1) ∧ ∀ m, m ≠ n → u.mobj m = s.mobj m))) ∧
        ends (.mobjRead fn p) 0 0 (fun u => u.mobjs = s.mobjs ∧ u.reg (Reg.strObjData p 0) = (s.mobj n).base % 2 ^ 64))) ∧
    (∀ c dt, c < 4096 → s.partOf .ctx c = some p → (s.ctx c).st = .aborting →
      ((∃ q ∈ s.queuesOf c, (s.queue q).inFlight ≠ 0) → exec (.contextDefunct c dt) s = .next (s.tick dt)) ∧
      ((∀ q ∈ s.queuesOf c, (s.queue q).inFlight = 0) → ∃ u : State, exec (.contextDefunct c dt) s = .next u ∧
        (u.ctx c).st = .defunct ∧ u.time = (s.time + dt) % 2 ^ 64 ∧
        (∀ q ∈ s.queuesOf c, (u.queue q).st = .disabled) ∧
        (∀ f, (s.fence f).st = 1 → (s.fence f).owner = c → s.partOf .fence f = some p →
          (u.fence f).st = 2 ∧ 2 ^ 63 ≤ (u.fence f).value) ∧
        (∀ b, (s.baton b).live = true → (s.baton b).owner = c → s.partOf .baton b = some p → u.baton b = Baton.init) ∧
        (∀ m, (s.mobj m).st = 1 → (s.mobj m).owner = c → s.partOf .mobj m = some p → (u.mobj m).st = 2) ∧
        ((s.ctx c).byCmd = true → u.reg busy % 2 = 0))) ∧
    (∀ c, c < 4096 → s.partOf .ctx c = some p → (s.ctx c).st = .defunct → (s.ctx c).scanned = false →
      Tab.wf 0#128 s.pmap.entries = true → ∃ u : State, exec (.mapScanComplete c) s = .next u ∧
        (∀ i < s.mapUnits p * 32768, u.mapEntry p i =
          let e := s.mapEntry p i
          if eV e = true ∧ eOwner e = c ∧ s.freeingPage p (eVpn e) = false then e - 1 else e) ∧
        ((u.ctx c).st = .free ↔ s.freeingOf p c = 0)) ∧
    (∀ m, m < 2 ^ 20 → s.partOf .mobj m = some p →
      (s.releasable p m = false → exec (.mobjRelease m) s = .next s) ∧
      (s.releasable p m = true → (s.mobj m).fv = false → Tab.wf 0#128 s.pmap.entries = true →
        ∃ u : State, exec (.mobjRelease m) s = .next (u.settle.contextFree (s.mobj m).owner) ∧ u.mobj m = MObj.init ∧
          (∀ k, k ≠ m → u.mobj k = s.mobj k) ∧ (∀ i < s.mapUnits p * 32768, eV (u.mapEntry p i) = true →
            ¬ ((s.mobj m).base / 0x8000 ≤ eVpn (u.mapEntry p i) ∧
               eVpn (u.mapEntry p i) < (s.mobj m).base / 0x8000 + (s.mobj m).pages))))

/-- R267 to R276: a fence is created with a value below 2^63, takes SET of a higher value, ADD that stays below 2^63 and
ERROR, and keeps its value once in error; a host fence export carries each new value by a posted write. A baton takes
signals up to 2^32 − 1, its waiters in place taking units in the order they began; DESTROY frees the slot. READ shows
the slot and changes none. -/
def Obligations.FencesBatonsAndRequests : Prop :=
  ∀ (s : State) (fn p : Nat),
    let n := s.reg (Reg.strObjSel p)
    let busy := Reg.strObjStatus p
    let d (i : Nat) : Nat := s.reg (Reg.strObjData p i)
    let f := s.fence n
    let b := s.baton n
    let r := s.request n
    let ends (i : Instr) (res : Nat) (facts : State → Prop) : Prop :=
      ∃ u v : State, exec i s = .next v ∧ v = { u.settle.setReg busy (2 * res) with busy := v.busy } ∧ facts u
    let same (u : State) : Prop := u = s
    p < 8 → s.Reaches fn 0 → s.alive = true → actsFor fn p = true → s.reg busy % 2 = 0 → busy ∉ s.busy →
    (s.inRange p .fence n = true → s.partOf .fence n = some p →
      (f.st ≠ 0 → ends (.fenceCreate fn p) 2 same) ∧
      (f.st = 0 → d 0 < 2 ^ 63 → d 1 / 2 ^ 12 % 2 ^ 4 = 0 → d 1 < 2 ^ 24 → s.ownerOk p (d 1 % 2 ^ 12) = true →
        exportOk (d 2) = true → exportOk (d 3) = true → ends (.fenceCreate fn p) 0 (fun u =>
          (u.fence n).st = 1 ∧ (u.fence n).value = d 0 ∧ (u.fence n).owner = d 1 % 2 ^ 12 ∧
          (u.fence n).any = decide (d 1 / 2 ^ 16 % 2 = 1) ∧ (u.fence n).imported = decide (d 1 / 2 ^ 17 % 2 = 1) ∧
          (u.fence n).source = d 1 / 2 ^ 18 ∧ (u.fence n).exports = [d 2, d 3] ∧ ∀ k, k ≠ n → u.fence k = s.fence k)) ∧
      (f.st = 0 → 2 ^ 63 ≤ d 0 → ends (.fenceCreate fn p) 3 same) ∧
      (∀ mode < 3, d 1 = mode * 2 ^ 48 → d 0 < 2 ^ 63 → (mode = 1 → 0 < d 0) → (mode = 2 → d 0 = 0) →
        let v := if mode = 0 then d 0 else if mode = 1 then f.value + d 0 else f.value + 2 ^ 63
        (f.st = 0 ∨ f.imported = true → ends (.fenceSignal fn p) 8 (fun u => u.fences = s.fences)) ∧
        (f.st ≠ 0 → f.imported = false →
          (2 ^ 63 ≤ f.value → ends (.fenceSignal fn p) 0 same) ∧
          (f.value < 2 ^ 63 → (mode = 0 ∧ d 0 ≤ f.value) ∨ (mode = 1 ∧ 2 ^ 63 ≤ v) → ends (.fenceSignal fn p) 6 same) ∧
          (f.value < 2 ^ 63 → mode = 2 ∨ (f.value < v ∧ v < 2 ^ 63) → ends (.fenceSignal fn p) 0 (fun u =>
            (u.fence n).value = v ∧ (u.fence n).st = f.st ∧ (∀ k, k ≠ n → u.fence k = s.fence k) ∧ u.dram = s.dram ∧
            ∀ e x, f.exports = [e, 0] → e / 2 ^ 62 % 4 = 2 → s.pcie.link = true → x.tgt = 3 →
              s.translate p { ctx := some f.owner, write := true, devOk := true, kOk := true } (e % 2 ^ 48) = .inl x →
              .pwrite x.pa (leBytes 8 v) ∈ u.out)))) ∧
      (f.st ≠ 1 → ends (.fenceSetexp fn p) 2 same) ∧
      (f.st = 1 → exportOk (d 2) = true → exportOk (d 3) = true → ends (.fenceSetexp fn p) 0 (fun u =>
        u = s.setFence n { f with exports := [d 2, d 3] })) ∧
      (f.st = 1 → exportOk (d 2) = false → ends (.fenceSetexp fn p) 3 same) ∧
      ends (.fenceRead fn p) 0 (fun u => u.fences = s.fences ∧ u.reg (Reg.strObjData p 0) = f.value % 2 ^ 64) ∧
      (f.st = 0 → ends (.fenceDestroy fn p) 2 same) ∧
      (f.st ≠ 0 → ends (.fenceDestroy fn p) 0 (fun u => u.fence n = Fence.init ∧
        ∀ e x, f.value < 2 ^ 64 → f.exports = [e, 0] → e / 2 ^ 62 % 4 = 2 → s.pcie.link = true → x.tgt = 3 →
          s.translate p { ctx := some f.owner, write := true, devOk := true, kOk := true } (e % 2 ^ 48) = .inl x →
          .pwrite x.pa (leBytes 8 (f.value % 2 ^ 63 + 2 ^ 63)) ∈ u.out))) ∧
    (s.inRange p .baton n = true →
      (b.live = true → ends (.batonCreate fn p) 2 same) ∧
      (b.live = false → d 0 < 2 ^ 32 → d 1 < 2 ^ 12 → s.ownerOk p (d 1) = true → ends (.batonCreate fn p) 0 (fun u =>
        u = s.setBaton n { live := true, value := d 0, owner := d 1, coreScope := false, core := 0, waiters := [] })) ∧
      (∀ core owner, b.live = false → d 0 < 2 ^ 32 → core < 256 → owner < 2 ^ 12 → d 1 = owner + 2 ^ 16 + 2 ^ 24 * core →
        s.ownerOk p owner = true →
        (s.coreOn core = true → bitOf (s.pClusters p) (core / 8) = true → ends (.batonCreate fn p) 0 (fun u =>
          u = s.setBaton n { live := true, value := d 0, owner := owner, coreScope := true, core := core, waiters := [] })) ∧
        (s.coreOn core = false → ends (.batonCreate fn p) 3 same)) ∧
      (b.live = false → ends (.batonSignal fn p) 2 same ∧ ends (.batonDestroy fn p) 2 same) ∧
      (b.live = true → d 0 = 0 ∨ 2 ^ 16 ≤ d 0 → ends (.batonSignal fn p) 3 same) ∧
      (b.live = true → 0 < d 0 → d 0 < 2 ^ 16 →
        let served := min b.waiters.length (b.value + d 0)
        (2 ^ 32 ≤ b.value + d 0 → ends (.batonSignal fn p) 7 (fun u => u.batons = s.batons)) ∧
        (b.value + d 0 < 2 ^ 32 → ends (.batonSignal fn p) 0 (fun u => (u.baton n).value = b.value + d 0 - served ∧
          (u.baton n).waiters = b.waiters.drop served ∧ ∀ k, k ≠ n → u.baton k = s.baton k))) ∧
      (b.live = true → ends (.batonDestroy fn p) 0 (fun u => u.baton n = Baton.init)) ∧
      ends (.batonRead fn p) 0 (fun u => u.batons = s.batons ∧ u.reg (Reg.strObjData p 0) = b.value % 2 ^ 64 ∧
        u.reg (Reg.strObjData p 2) = min (b.waiters.length + s.packetWaiters n) 0xFFFF)) ∧
    (s.inRange p .req n = true → ends (.requestRead fn p) 0 (fun u => u.reqs = s.reqs ∧
      u.reg (Reg.strObjData p 0) = r.reqid % 2 ^ 64 ∧ u.reg (Reg.strObjData p 1) =
        (r.tenant + 2 ^ 32 * r.st + 2 ^ 40 * r.attached) % 2 ^ 64))

/-! ### Energy and receipts (chapter 12) -/

/-- R289: the division of a whole by weights is exact, each part within one unit of its share. R290, R291, R294, R310:
the frame's attribution gives every unit of the inlet energy to a request or to an overhead account; the frame's end
charges each request its part and its share of the static pool, adds the rails and the inlet to the MTR counters and
moves to the next frame. -/
def Obligations.EnergyAttribution : Prop :=
  (∀ (total fb : Nat) (w : List Nat), w.sum ≠ 0 ∨ fb < w.length →
    (split total w fb).sum = total ∧ (split total w fb).length = w.length ∧
    (w.sum ≠ 0 → ∀ i < w.length, total * nth 0 w i / w.sum ≤ nth 0 (split total w fb) i ∧
      nth 0 (split total w fb) i ≤ total * nth 0 w i / w.sum + 1)) ∧
  ∀ (s : State) (rec : FrameRecord),
    let a := s.attribution rec
    let inv := s.invalidMask rec
    (a.idx.map (fun x => x.2.1 + x.2.2.2)).sum + a.ovh.sum = a.inlet ∧
    (inv / 2 ^ 12 % 2 = 0 → a.inlet = (rec.samples.map (fun x =>
      Config.volts s.meter.calOk x.1 * Config.amps s.meter.calOk rec.shunt x.2)).sum * 512 / 1000000) ∧
    (inv / 2 ^ 12 % 2 = 1 → let sum := a.rails.sum
      let v := Config.lossCurve s.meter.calOk sum
      let loss := a.inlet - sum
      2 * v.1 ≤ (2 * loss + 1) * (v.2 + 1) ∧ (2 * loss ≤ 1 ∨ (2 * loss - 1) * (v.2 + 1) < 2 * v.1)) ∧
    (∀ x r, x ≠ staticPool → s.modelled rec x r = (((s.activity rec).filter (fun e => e.idx = x && (siteRails e.event e.die).contains r)).map
      (fun e => e.n * Config.coefficient s.meter.calOk e.event r)).sum) ∧
    (∀ r < 12, inv / 2 ^ r % 2 = 0 → ¬ (s.oneDie = true ∧ (r = 1 ∨ r = 3)) → nth 0 a.rails r = nth 0 rec.rails r) ∧
    (s.boot.off = true → exec (.frameEnd rec) s = .next s) ∧
    (s.boot.off = false → ∃ u : State, exec (.frameEnd rec) s = .next u ∧
      u.meter.frame = (s.meter.frame + 1) % 2 ^ 64 ∧ u.meter.frameTime = s.time ∧
      u.reg Reg.mtrFrame = (s.meter.frame + 1) % 2 ^ 64 ∧ u.reg Reg.mtrEIn = (s.reg Reg.mtrEIn + a.inlet) % 2 ^ 64 ∧
      u.reg Reg.mtrSensor = inv ∧
      (∀ r < 12, u.reg (Reg.mtrERail r) = (s.reg (Reg.mtrERail r) + nth 0 a.rails r) % 2 ^ 64) ∧
      (∀ i t c g x, a.idx.find? (fun y => y.1 = i) = some (i, t, c, g) → s.meter.idx.look i = some x →
        ∃ z, u.meter.idx.look i = some z ∧ z.energy = x.energy + t + g ∧ z.stat = x.stat + g ∧
          (x.frameClose = none → z.cls = max x.cls (s.frameClass rec)) ∧
          (x.closed ≠ none → x.frameClose = none → z.frameClose = some s.meter.frame)) ∧
      (s.dict.state ≠ 3 → u.meter.acts = [] ∧ u.dram = s.dram ∧ u.rstore = s.rstore ∧ (s.meter.stopped = 0 → u.queues = s.queues ∧ u.reqs = s.reqs)))

/-- R296, R298 to R305: the block that is due is signed once an index of the HSS is available: the next block number and
HSS index are used, the chain goes on from its header, its receipts leave; with no ring configured it puts entries
nowhere. A reservation adds 1,024 indices, a failed one is tried again after 10 ms. An entry goes into its ring whole,
bytes 16 onward first, and moves HEAD by one; a write that fails turns the ring off. A note of a receipt goes to the
anchor, which issues one group receipt for a key once GROUP_WAIT has passed. -/
def Obligations.LedgerAndReceipts : Prop :=
  ∀ (s : State),
    (s.fetching = true → s.meter.due = [] → exec .ledgerBlock s = .next s) ∧
    (s.fetching = true → s.meter.due ≠ [] → s.meter.hssReady = false →
      exec .ledgerBlock s = .next { s with meter := { s.meter with blocked := true } }) ∧
    (∀ d last endTime rest, s.fetching = true → s.meter.due = (d, last, endTime) :: rest → s.meter.blocked = false →
      s.meter.hssReady = true →
      (∀ r < 9, s.ringBase r = 0) → s.meter.backlogBytes ≤ 2 ^ 28 → ∃ u : State, exec .ledgerBlock s = .next u ∧
        u.meter.block = s.meter.block + 1 ∧ u.reg Reg.mtrBlock = s.meter.block % 2 ^ 64 ∧ u.meter.due = rest ∧
        u.meter.hssQ = s.meter.hssQ + 1 ∧ (s.meter.hssEnd - s.meter.hssQ = 257 → u.meter.hssPending = true) ∧
        (∃ n root, u.meter.prev = Crypto.sha256 (s.blockHeader d last endTime n root)) ∧
        u.meter.idx = s.meter.idx.filter (fun x => !x.2.dueBy last) ∧ u.dram = s.dram) ∧
    (∀ d last eOpen, (s.leaves d last eOpen).length ≤ max 262144 (2 + (setBits d.carved 8).length + (s.meter.receiptsBy last).length)) ∧
    (s.fetching = true → s.meter.hssPending = true → s.meter.hssFailed = false →
      (∃ u : State, exec (.hssReservationWrite true) s = .next u ∧ u.meter.hssEnd = s.meter.hssEnd + 1024 ∧
        u.meter.hssPending = false ∧ u.meter.hssQ = s.meter.hssQ) ∧
      (∃ u : State, exec (.hssReservationWrite false) s = .next u ∧ u.meter.hssEnd = s.meter.hssEnd ∧
        u.meter.hssFailed = true ∧ u.meter.hssPending = true)) ∧
    (∀ dt, s.fetching = true → s.meter.hssPending = true → s.meter.hssFailed = true →
      (dt < 10000000 → exec (.hssReservationRetry true dt) s = .next (s.tick dt)) ∧
      (10000000 ≤ dt → ∃ u : State, exec (.hssReservationRetry true dt) s = .next u ∧
        u.meter.hssEnd = s.meter.hssEnd + 1024 ∧ u.meter.hssFailed = false ∧ u.time = (s.time + dt) % 2 ^ 64)) ∧
    (∀ r e rest, r ≤ 8 → nth [] s.meter.backlog r = e :: rest → s.fetching = true → s.alive = true → r = 8 ∨ bitOf s.meter.ringOn r = true →
      s.ringBase r ≠ 0 →
      let n := s.reg (ringHead r)
      let va := s.ringBase r + 4096 * (n % 2 ^ s.ringLog r)
      let bytes := s.entryBytes r n e
      let full := 2 ^ s.ringLog r ≤ (n + 2 ^ 32 - s.reg (ringTail r)) % 2 ^ 32
      (full → exec (.receiptRingWrite r) s = .next s) ∧
      (∀ t1 t2, ¬ full → s.ringPut r (va + 16) (bytes.drop 16) = .inl t1 → t1.ringPut r va (bytes.take 16) = .inl t2 →
        ∃ u : State, exec (.receiptRingWrite r) s = .next u ∧ u.reg (ringHead r) = (n + 1) % 2 ^ 32 ∧
          u.meter.backlog = setNth t2.meter.backlog r rest ∧ u.dram = t2.dram ∧ u.rstore = t2.rstore ∧
          (r = 8 → s.pcie.link = true →
            u.out = s.out ++ [.pwrite (va + 16) (bytes.drop 16), .pwrite va (bytes.take 16)])) ∧
      (∀ reason, ¬ full → s.ringPut r (va + 16) (bytes.drop 16) = .inr reason →
        ∃ u : State, exec (.receiptRingWrite r) s = .next u ∧ bitOf u.meter.ringOn r = false ∧
          bitOf u.meter.ringFault r = true ∧ u.meter.backlog = s.meter.backlog ∧ u.dram = s.dram)) ∧
    (∀ fn p v, p < 8 → s.Reaches fn 0 → actsFor fn p = true →
      (v % 2 = 0 → exec (.mtrRingCmd fn p v) s = .next s) ∧
      (v % 2 = 1 → ∃ u : State, exec (.mtrRingCmd fn p v) s = .next u ∧ bitOf u.meter.ringOn p = true ∧
        bitOf u.meter.ringFault p = false ∧ (∀ k, k ≠ p → bitOf u.meter.ringOn k = bitOf s.meter.ringOn k) ∧
        u.regs = s.regs)) ∧
    (∀ i dt n rest, s.boot.off = false → s.meter.notes.drop i = n :: rest →
      (∀ m ∈ s.links.sent, ¬ (m.kind = 4 ∧ m.reqid = n.reqid ∧ m.tenant = n.tenant ∧ m.data = noteBytes n)) →
      exec (.noteResend i dt) s = .next ((s.tick dt).sendNote n none)) ∧
    (∀ dt k, s.boot.off = false → s.meter.held.find? (fun x => x.is k.reqid k.tenant) = some k →
      let t := s.tick dt
      let waited := s.entry 0x6000 0x0C * 1000000 + t.since s.meter.cur.time ≤ t.since k.first
      (¬ waited → exec (.groupReceipt k.reqid k.tenant dt) s = .next t) ∧
      (waited → ∃ u : State, exec (.groupReceipt k.reqid k.tenant dt) s = .next u ∧
        u.meter.groupLeaves = s.meter.groupLeaves ++
          [(s.meter.frame, k.part.orElse (fun _ => s.keyPart k.reqid k.tenant), groupReceiptBytes k ((k.notes.foldr noteInsert []).take 64))] ∧
        (∀ x ∈ u.meter.keys, x.is k.reqid k.tenant = true → x.seq = (k.seq + 1) % 2 ^ 16 ∧ x.notes =
          (k.notes.foldr noteInsert []).drop 64) ∧ u.dram = s.dram))

/-! ### Cartal links (chapter 13) -/

/-- R315, R317, R322, R341, R342, R347: a training attempt of a port that may train brings it to authentication with the
stronger FEC mode and its beacon, or fails; the third failure in a row leaves it DOWN for 1 s. A lane loss or RETRAIN
retrains the port, its queue and replay buffer discarded; the third within 1 s puts it DOWN, quarantined when that
happens twice in 60 s; a retrain begins at step 3. A FINISH that verifies brings the port UP under the session keys; a failed or
late authentication puts it DOWN, quarantined at the third in a row. A quarantine doubles with each of the same serial, up to an hour, and ends. -/
def Obligations.LinkStates : Prop :=
  ∀ (s : State) (port : Nat),
    let x := s.port port
    let others (t u : State) : Prop := ∀ k, k ≠ port → (u.port k).st = (t.port k).st
    let left (t u : State) : Prop := others t u ∧ (u.port port).replay = [] ∧ (u.port port).queue = [] ∧
      u.dram = s.dram ∧ u.queues = s.queues
    let quarantined (t u : State) : Prop := left t u ∧ (u.port port).st = PortSt.quarantined ∧ (u.port port).since = t.time ∧
      (u.port port).quarLen = min 3600 (s.entry 0x5000 9 *
        2 ^ (if s.peerSerial port = x.quarSerial then x.quars else 0)) * 1000000000
    let failed (t u : State) : Prop := others t u ∧ (u.port port).attempts = x.attempts + 1 ∧
      (u.port port).st = if x.attempts + 1 < 3 then PortSt.training else PortSt.down
    let refused (t u : State) : Prop :=
      (x.badAuth < 2 → left t u ∧ (u.port port).st = PortSt.down ∧ (u.port port).badAuth = x.badAuth + 1) ∧
      (2 ≤ x.badAuth → quarantined t u)
    let retrains (i : Instr) : Prop := ∃ u : State, exec i s = .next u ∧
      u.reg (Reg.lnkRetrain port) = (s.reg (Reg.lnkRetrain port) + 1) % 2 ^ 64 ∧
      ((s.recent 1000000000 x.retrains).length < 3 → left s u ∧ (u.port port).st = PortSt.training ∧
        (u.port port).step = 3) ∧
      (3 ≤ (s.recent 1000000000 x.retrains).length → (s.recent 60000000000 x.downs).length < 2 →
        left s u ∧ (u.port port).st = PortSt.down) ∧
      (3 ≤ (s.recent 1000000000 x.retrains).length → 2 ≤ (s.recent 60000000000 x.downs).length → quarantined s u)
    port < s.nPorts →
    (s.mayTrain port = false → ∀ r, exec (.linkTraining port r) s = .next s) ∧
    (∀ fec, s.mayTrain port = true → ∃ u : State, exec (.linkTraining port (.done fec)) s = .next u ∧ others s u ∧
      (u.port port).st = PortSt.auth ∧ (u.port port).fec = max (fec % 4) (s.entry 0x5000 2) ∧ (u.port port).attempts = 0 ∧
      (u.port port).sentBeacon = beaconBytes (u.beaconOf port) ∧ ∃ l, (u.port port).queue = x.queue ++ l ∧
        l.map (fun f => (f.vc, f.head, f.payload)) = (flitsOf 0 (beaconBytes (u.beaconOf port))).map (fun f => (0, f.1, f.2))) ∧
    (∀ step, s.mayTrain port = true → if x.step ≤ step ∧ step ≤ 5 then
        ∃ u : State, exec (.linkTraining port (.failed step)) s = .next u ∧ failed s u
      else exec (.linkTraining port (.failed step)) s = .next s) ∧
    (∀ step dt, s.mayTrain port = true →
      let limit := nth 0 [5000000, 1000000, 50000000, 10000000, 1000000] (step - 1)
      1 ≤ step → x.step ≤ step → step ≤ 5 → (dt < limit → exec (.trainingStepTimeout port step dt) s = .next (s.tick dt)) ∧
        (limit ≤ dt → ∃ u : State, exec (.trainingStepTimeout port step dt) s = .next u ∧ failed (s.tick dt) u)) ∧
    (∀ dt, s.boot.off = false → x.st = PortSt.down → 3 ≤ x.attempts →
      ((s.tick dt).since x.since < 1000000000 → exec (.trainingBackoffEnd port dt) s = .next (s.tick dt)) ∧
      (1000000000 ≤ (s.tick dt).since x.since → exec (.trainingBackoffEnd port dt) s = .next ((s.tick dt).setPort port
        { x with attempts := 0, st := PortSt.training, since := (s.tick dt).time }))) ∧
    (s.beaconing port = true → retrains (.laneLockLoss port)) ∧
    (s.Reaches 0 0 → s.beaconing port = true ∨ x.st = PortSt.training → retrains (.retrain 0 port)) ∧
    (s.Reaches 0 0 → exec (.unquarantine 0 port) s = .next (s.setPort port { x with quars := 0 })) ∧
    (s.boot.off = false → x.st = PortSt.auth → x.finished = true →
      ∀ r q, match x.sessionKeys (r ++ q) with
        | some k => ∃ u : State, exec (.finish port r q) s = .next u ∧ (u.port port).keys = x.keys + 1 ∧
          (u.port port).txKey = k.1 ∧ (u.port port).rxKey = k.2 ∧
          ((u.port port).st = PortSt.up ∨ (u.port port).st = PortSt.miswired) ∧ (u.port port).badAuth = 0
        | none => ∃ u : State, exec (.finish port r q) s = .next u ∧ refused s u) ∧
    (∀ dt, s.boot.off = false → x.st = PortSt.auth →
      ((s.tick dt).since x.since < 100000000 → exec (.authTimeout port dt) s = .next (s.tick dt)) ∧
      (100000000 ≤ (s.tick dt).since x.since → ∃ u : State, exec (.authTimeout port dt) s = .next u ∧
        refused (s.tick dt) u)) ∧
    (∀ dt, s.boot.off = false → x.st = PortSt.quarantined →
      ((s.tick dt).since x.since < x.quarLen → exec (.quarantineEnd port dt) s = .next (s.tick dt)) ∧
      (x.quarLen ≤ (s.tick dt).since x.since → ∃ u : State, exec (.quarantineEnd port dt) s = .next u ∧
        (u.port port).st = PortSt.down ∧ others s u)) ∧
    (∀ dt, s.portUp port = true → 3600000000000 ≤ (s.tick dt).since x.since →
      exec (.quarantineCountClear port dt) s = .next ((s.tick dt).setPort port { x with quars := 0 }))

/-- R316, R318, R319, R322 to R326, R334, R341: a trained port sends the flit its classes' order chooses, numbered, with the
last number received in order, under the session keys or in clear before they exist, and keeps it until it is acknowledged; with
nothing to send it sends an idle flit. A flit
in order is taken and acknowledges up to its ACK; a damaged or unexpected one is answered with NAK, and an overrun or
the sixteenth tag failure in 1 s quarantines the port. After 2 µs without ACK every kept flit goes again, and the eighth
time the port retrains. The first beacon of a link is checked and answered with FINISH, a signature over both beacons. Beacons carry discovery, and the module settles once its coordinates hold for DISC_SETTLE. -/
def Obligations.FlitsAndBeacons : Prop :=
  ∀ (s : State) (port : Nat),
    let x := s.port port
    let y (u : State) : Port := u.port port
    port < s.nPorts → (∀ k, (s.port k).held = []) →
    (∀ h p, x.st = PortSt.auth → x.flitBytes h p = leBytes 8 h ++ (p ++ List.replicate 8 0#8) ++
      leBytes 8 (Crypto.crc64 (leBytes 8 h ++ (p ++ List.replicate 8 0#8)))) ∧
    (s.beaconing port = true → s.links.hostWrites = [] →
      (∀ j f served, x.replay.length < 256 → x.pick s.linkWeight = some (j, f, served) → ∃ (u : State) (h : Nat),
        exec (.flitSend port) s = .next u ∧ u.out = s.out ++ [.flit port (x.flitBytes h f.payload)] ∧
        x.queue[j]? = some f ∧ nth 0 x.credits (flitClass f.head.toNat) ≠ 0 ∧
        (f.vc = 1 → ∀ v ∈ [3, 0, 2], x.firstReady (fun g => g.vc = v) = none) ∧
        (y u).queue = x.queue.eraseIdx j ∧ (y u).txSeq = (x.txSeq + 1) % 2 ^ 16 ∧
        (y u).replay = x.replay ++ [{ seq := x.txSeq, bytes := x.flitBytes h f.payload, resends := 0 }] ∧
        (f.head.toNat % 2 ^ 32 = 0 → x.txSeq < 2 ^ 16 → x.rxSeq < 2 ^ 16 →
          h % 2 ^ 16 = x.txSeq ∧ h / 2 ^ 16 % 2 ^ 16 = x.rxSeq) ∧
        u.reg (Reg.lnkTxFlits port) = (s.reg (Reg.lnkTxFlits port) + 1) % 2 ^ 64 ∧
        (∀ k, k ≠ port → u.port k = s.port k)) ∧
      (256 ≤ x.replay.length ∨ x.pick s.linkWeight = none → ∃ (u : State) (h : Nat),
        exec (.flitSend port) s = .next u ∧ u.out = s.out ++ [.flit port (x.flitBytes h (List.replicate 232 0#8))] ∧
        (y u).queue = x.queue ∧ (y u).txSeq = x.txSeq ∧ (y u).replay = x.replay ∧
        (x.rxSeq < 2 ^ 16 → h / 2 ^ 36 % 2 = 1))) ∧
    (∀ f : FlitIn, let head := f.header.toNat
      let seq := head % 2 ^ 16
      let nak (u : State) : Prop := (y u).nakDue = true ∧ (y u).rxSeq = x.rxSeq ∧ (y u).replay = x.replay ∧
        ∀ k, k ≠ port → u.port k = s.port k
      let outcome (facts : State → Prop) : Prop := ∃ u : State, exec (.flitReceive port f) s = .next u ∧ facts u
      s.portUp port = true → (f.corrected = false ∨ x.fec = 0) →
      (f.crcOk = false → outcome (fun u => nak u ∧
        u.reg (Reg.lnkCrcErr port) = (s.reg (Reg.lnkCrcErr port) + 1) % 2 ^ 64)) ∧
      (f.crcOk = true → f.tagOk = false → outcome (fun u =>
        u.reg (Reg.lnkTagfail port) = (s.reg (Reg.lnkTagfail port) + 1) % 2 ^ 64 ∧
        ((s.recent 1000000000 x.tagFails).length < 16 → nak u) ∧
        (16 ≤ (s.recent 1000000000 x.tagFails).length → (y u).st = PortSt.quarantined))) ∧
      (f.crcOk = true → f.tagOk = true → head / 2 ^ 36 % 2 = 0 → seq ≠ (x.rxSeq + 1) % 2 ^ 16 → outcome nak) ∧
      (f.crcOk = true → f.tagOk = true → head / 2 ^ 36 % 2 = 0 → seq = (x.rxSeq + 1) % 2 ^ 16 →
        nth 0 State.creditsAtReset (flitClass head) ≤ x.taken (flitClass head) → outcome (fun u =>
          (y u).st = PortSt.quarantined ∧ u.reg (Reg.lnkCreditViol port) = (s.reg (Reg.lnkCreditViol port) + 1) % 2 ^ 64)) ∧
      (f.crcOk = true → f.tagOk = true → head / 2 ^ 36 % 2 = 0 → seq = (x.rxSeq + 1) % 2 ^ 16 →
        x.taken (flitClass head) < nth 0 State.creditsAtReset (flitClass head) → head / 2 ^ 32 % 2 = 0 →
        outcome (fun u => (y u).rxSeq = seq ∧ (y u).st = PortSt.up ∧
          u.reg (Reg.lnkRxFlits port) = (s.reg (Reg.lnkRxFlits port) + 1) % 2 ^ 64 ∧
          ((∀ k ∈ x.replay, k.seq ≠ head / 2 ^ 16 % 2 ^ 16) → (y u).replay = x.replay) ∧
          ∀ a b c, x.replay = a ++ b :: c → b.seq = head / 2 ^ 16 % 2 ^ 16 → (∀ k ∈ a, k.seq ≠ b.seq) →
            (y u).replay = c))) ∧
    (∀ f : FlitIn, s.beaconing port = true → s.portUp port = false → (f.corrected = false ∨ x.fec = 0) → f.crcOk = true →
      f.header.toNat / 2 ^ 36 % 2 = 0 → f.header.toNat / 2 ^ 33 % 4 ≠ 0 → ∃ u : State,
        exec (.flitReceive port f) s = .next u ∧ (y u).nakDue = true ∧ (y u).rxSeq = x.rxSeq) ∧
    (∀ dt, let t := s.tick dt
      s.portUp port = true → x.replay ≠ [] →
      (t.since x.lastAck < 2000 → exec (.replayTimeout port dt) s = .next t) ∧
      (2000 ≤ t.since x.lastAck → (∀ f ∈ x.replay, f.resends < 7) → ∃ u : State,
        exec (.replayTimeout port dt) s = .next u ∧ u.out = s.out ++ x.replay.map (fun f => .flit port f.bytes) ∧
        (y u).replay = x.replay.map (fun f => { f with resends := f.resends + 1 }) ∧ (y u).st = PortSt.up) ∧
      (∀ f ∈ x.replay, 2000 ≤ t.since x.lastAck → 7 ≤ f.resends → ∃ u : State, exec (.replayTimeout port dt) s = .next u ∧
        (y u).st ≠ PortSt.up ∧ (y u).replay = [])) ∧
    (∀ b : BeaconMsg, s.beaconing port = true →
      (x.st = PortSt.auth → x.seenBeacon ≠ [] → exec (.beacon port b) s = .next (s.setPort port { x with peer := some b })) ∧
      (x.st = PortSt.auth → x.seenBeacon = [] → s.variantOk b = false → ∃ u : State, exec (.beacon port b) s = .next u ∧
        (y u).st = PortSt.down) ∧
      (x.st = PortSt.auth → x.seenBeacon = [] → s.variantOk b = true →
        b.certOk = false ∨ s.denied b.serial = true ∨ b.groupId ≠ s.entry 0x5000 1 →
        ∃ u : State, exec (.beacon port b) s = .next u ∧ ((y u).st = PortSt.down ∨ (y u).st = PortSt.quarantined)) ∧
      (x.st = PortSt.auth → x.seenBeacon = [] → s.variantOk b = true → b.certOk = true → s.denied b.serial = false →
        b.groupId = s.entry 0x5000 1 →
        ∃ u : State, exec (.beacon port b) s = .next u ∧ (y u).peer = some b ∧ (y u).finished = true ∧
          (y u).st = PortSt.auth ∧ (y u).seenBeacon = beaconBytes b ∧ ∃ f ∈ (y u).queue, f.vc = 0 ∧
            f.payload = exactly 232 (Config.ctlFlit 64 (Crypto.sign 1
              (if Config.serial.toNat < b.serial then x.sentBeacon ++ beaconBytes b else beaconBytes b ++ x.sentBeacon)))) ∧
      (x.st ≠ PortSt.auth → ∃ u : State, exec (.beacon port b) s = .next u ∧ (y u).peer = some b)) ∧
    (∀ dt, let t := s.tick dt
      let gap := if s.links.settled then 100000000 else 1000000
      s.beaconing port = true → (t.since x.lastBeacon < gap → exec (.beaconSend port dt) s = .next t) ∧
        (gap ≤ t.since x.lastBeacon → ∃ u : State, exec (.beaconSend port dt) s = .next u ∧ u.out = s.out ∧
          (y u).lastBeacon = t.time ∧ ∃ l, (y u).queue = x.queue ++ l ∧
            l.map (fun f => (f.vc, f.payload)) = (flitsOf 0 (beaconBytes (t.beaconOf port))).map (fun f => (0, f.2)))) ∧
    (∀ seq eph, s.portUp port = true →
      (seq % 2 ^ 16 = x.txSeq → 2 ^ 40 ≤ x.keyFlits ∨ 86400000000000 ≤ s.since x.keyTime →
        let fresh := { x with priv := Crypto.privOf (Config.ephemeral s.nextId).toNat }
        exec (.rekey port ⟨seq, eph⟩) s = .next (match fresh.derive eph with
          | some k => (s.setPort port { fresh with keys := x.keys + 1, keyFlits := 0, keyTime := s.time, txKey := k.1,
                                                   rxKey := k.2 }).useId
          | none => s)) ∧
      (x.keyFlits < 2 ^ 40 → s.since x.keyTime < 86400000000000 → exec (.rekey port ⟨seq, eph⟩) s = .next s)) ∧
    (∀ dt, let t := s.tick dt
      s.boot.off = false →
      (s.links.valid = false ∨ t.since s.links.coordSince < s.entry 0x5000 0x0A * 1000000 →
        exec (.discoverySettle dt) s = .next t) ∧
      (s.links.settled = false → s.links.valid = true → s.entry 0x5000 0x0A * 1000000 ≤ t.since s.links.coordSince →
        (∀ q ∈ s.peers, (s.offset q.1).isSome = true → q.2.valid = true → q.2.root = s.links.root) → ∃ u : State,
          exec (.discoverySettle dt) s = .next u ∧ u.links.settled = true ∧ u.links.coord = s.links.coord ∧
          u.links.root = s.links.root))

/-- R321, R327, R330 to R333, R339 to R341: a message that arrives at an UP port with the number expected of its source is
performed and acknowledged with its result: a SEND goes into the next slot of its receive queue, an RWRITE into its
window, a FENCE_RELAY raises the import fence of its source, a NOTE reaches the anchor's marshal, a GATEWAY makes the
access of another module, a HOSTWRITE becomes a posted write. One of a reserved kind or with a reserved field set, or that its
handle does not allow, has result 2, one
for a full queue or a module that is no anchor result 1 and its number stays expected. A repeated message is
acknowledged and not performed again; one ahead of its turn is not performed. The layouts of NOTE data and of GATEWAY and
HOSTWRITE parameters are the model's (log 26, 65). -/
def Obligations.MessagesReceived : Prop :=
  ∀ (s : State) (port kind : Nat) (m : MsgIn) (i : Instr),
    let c := s.countMsg port m
    let next := Tab.get 0 s.links.recvSeq m.src
    let far := (m.seq + 2 ^ 32 - next) % 2 ^ 32
    let h := s.handle m.handle
    let acked (t u : State) (r : Nat) : Prop := ∀ k, t.route m.src = some k →
      (r % 8 = 2 → (s.recent 1000000000 (s.port port).malformed).length < 1000) →
      ∃ f ∈ (u.port k).queue, f.vc = 3 ∧ f.payload = s.ackBytes m.src m.seq (r % 8) (r / 8)
    let given (r : Nat) (facts : State → Prop) : Prop := ∃ u : State, exec i s = .next u.settle ∧ acked s u r ∧
      Tab.get 0 u.links.recvSeq m.src = (if r = 1 then next else (m.seq + 1) % 2 ^ 32) ∧ facts u
    let same (u : State) : Prop := u.dram = s.dram ∧ u.rstore = s.rstore ∧ u.links.handles = s.links.handles ∧
      u.fences = s.fences ∧ u.batons = s.batons
    (kind, i) ∈ [(0, Instr.send port m), (1, .rwrite port m), (2, .fenceRelay port m), (4, .note port m),
      (5, .gateway port m), (6, .hostwrite port m)] →
    port < s.nPorts → s.portUp port = true → s.alive = true → m.dst = s.links.coord → m.data.length = m.len →
    m.abort = false → m.seq < 2 ^ 32 →
    (far = 0 → m.kind = kind ∧ m.reserved = true ∨ 6 < m.kind → s.pcie.dmaRegs = [] → given 2 same) ∧
    (far = 0 → m.kind = kind → m.reserved = false → c.flooding port = false →
      (kind = 0 → h.kind ≠ 1 ∨ bitOf (nth 0 h.data 3) m.src = false ∨ 2 ^ h.slotLog < m.len + 32 → given 2 same) ∧
      (kind = 0 → h.kind = 1 → bitOf (nth 0 h.data 3) m.src = true → m.len + 32 ≤ 2 ^ h.slotLog →
        2 ^ h.ringLog ≤ (h.received + 2 ^ 32 - h.consumed) % 2 ^ 32 → given 1 same) ∧
      (∀ a b, kind = 0 → h.kind = 1 → bitOf (nth 0 h.data 3) m.src = true → m.len + 32 ≤ 2 ^ h.slotLog →
        (h.received + 2 ^ 32 - h.consumed) % 2 ^ 32 < 2 ^ h.ringLog →
        let va := h.base + 2 ^ h.slotLog * (h.received % 2 ^ h.ringLog)
        let req := leBytes 8 (if m.req then m.reqid else 0) ++ leBytes 8 (if m.req then m.tenant % 2 ^ 32 else 0)
        let head := leBytes 8 (1 - h.received / 2 ^ h.ringLog % 2 + 2 ^ 8 * (m.src % 2 ^ 8) +
          2 ^ 16 * (m.srcPart % 2 ^ 8) + 2 ^ 32 * (m.len % 2 ^ 32)) ++ leBytes 8 m.param
        c.writeAll 20 h.part h.ctx (va + 16) (req ++ m.data) = (a, m.len + 16, none) →
        a.writeAll 20 h.part h.ctx va head = (b, 16, none) → bitOf (nth 0 h.data 2) 15 = false →
        given 0 (fun u => (u.handle m.handle).received = (h.received + 1) % 2 ^ 32 ∧ u.dram = b.dram ∧
          u.rstore = b.rstore ∧ u.batons = s.batons)) ∧
      (kind = 1 → h.kind ≠ 2 ∨ bitOf (nth 0 h.data 3) m.src = false ∨ fld (nth 0 h.data 1) 0 40 < m.param + m.len →
        s.pcie.dmaRegs = [] → given 2 same) ∧
      (∀ a, kind = 1 → h.kind = 2 → bitOf (nth 0 h.data 3) m.src = true → m.param + m.len ≤ fld (nth 0 h.data 1) 0 40 →
        c.writeAll (c.rxDma h.part) h.part h.ctx (h.base + m.param) m.data = (a, m.len, none) → a.pcie.dmaRegs = [] →
        bitOf (nth 0 h.data 2) 15 = false → given 0 (fun u => u.dram = a.dram ∧ u.rstore = a.rstore)) ∧
      (kind = 2 → ∀ p, let g := m.param / 2 ^ 32 % 2 ^ 18
        let v := leNat (m.data.take 8)
        let f := s.fence g
        s.partOf .fence g = some p →
        (f.st = 1 → f.imported = true → f.source = m.src → f.value < 2 ^ 63 → v < 2 ^ 63 →
          given 0 (fun u => (u.fence g).value = max v f.value ∧ ∀ k, k ≠ g → u.fence k = s.fence k)) ∧
        (f.st ≠ 1 ∨ f.imported = false ∨ f.source ≠ m.src → given 0 (fun u => same u ∧
          u.reg (Reg.strRelayIgnored p) = (s.reg (Reg.strRelayIgnored p) + 1) % 2 ^ 64))) ∧
      (kind = 4 → (m.len = 64 → given 0 (fun u => ∃ k ∈ u.meter.keys,
          k.is m.reqid m.tenant = true ∧ noteOf m ∈ k.notes)) ∧ (m.len ≠ 64 → given 2 same)) ∧
      (kind = 5 → let t := c.gwHere m.src (gwOf m.param) m.data
        ∃ u : State, exec i s = .next u.settle ∧ (t.links.coord = s.links.coord → acked t u 0) ∧
          u.dram = t.dram ∧ u.rstore = t.rstore ∧ u.queues = t.queues) ∧
      (kind = 6 → (s.pcie.link = false → given 1 same) ∧ (s.pcie.link = true → m.data ≠ [] →
        given 0 (fun u => same u ∧ .pwrite m.param m.data ∈ u.out)))) ∧
    (2 ^ 31 < far → m.kind = kind ∨ 6 < m.kind → s.pcie.dmaRegs = [] → ∃ u : State, exec i s = .next u.settle ∧ same u ∧
      ∀ k, s.route m.src = some k → ∃ f ∈ (u.port k).queue, f.vc = 3 ∧
        f.payload = s.ackBytes m.src m.seq (s.givenResult m % 8) (s.givenResult m / 8)) ∧
    (0 < far → far ≤ 2 ^ 31 → m.kind = kind ∨ 6 < m.kind → s.pcie.dmaRegs = [] → ∃ u : State, exec i s = .next u.settle ∧ same u ∧ u.links.recvSeq = s.links.recvSeq)

/-- R321, R332, R335, R336, R338, R339, R343: a message is kept until its result: result 0 ends it, 1 makes it wait, 2 and
3 fail it; without a result it goes again after 50 µs, at most four times, a refused one after 2 µs until RNR_LIMIT.
A failed message's packet completes with LINK_ERROR. A contribution to a collective's epoch is kept, the result of the
members' sums is written and the epoch ends, and a use that waits COLL_TIMEOUT fails. A lost module fails what waits for
it and puts its import fences in error. An anchor sends its device time each millisecond (log 61); a leg takes it with
half the round trip. -/
def Obligations.MessageResults : Prop :=
  ∀ (s : State),
    (∀ dst seq m, s.boot.off = false → dst < 64 → s.sentMsg dst seq = some m →
      let failed (now : Nat) (u : State) : Prop :=
        (∀ x ∈ u.links.sent, x.dst = dst → x.seq = seq → x.kind = 3 ∨ x.kind = 2 ∧ x.startAt = now ∨ m.kind = 6 ∧ x.kind ≠ 6) ∧
        ∀ q n k,
        m.kind ≠ 6 → m.q = some (q, n) →
        (s.queue q).packets.look n = some k → k.st = .started → k.status = 0 →
        (∀ k', (u.queue q).packets.look n = some k' → k'.st = .failed ∧ k'.status = Stat.linkError) ∧
        (s.entry 0x2210 3 = 0 → (∀ x ∈ (s.queue q).packets, x.2.st = .started → x.1 = n) →
          u.reg (Reg.strFailed (s.qPart q)) = (s.reg (Reg.strFailed (s.qPart q)) + 1) % 2 ^ 64)
      (∀ bytes, ∃ u : State, exec (.e2eAck dst seq 0 bytes) s = .next u.settle ∧ u.sentMsg dst seq = none ∧
        u.dram = s.dram ∧ ∀ q n k, m.q = some (q, n) → (s.queue q).packets.look n = some k →
          (u.queue q).packets.look n = some { k with done := true }) ∧
      (∀ bytes, ∃ u : State, exec (.e2eAck dst seq 1 bytes) s = .next u ∧
        u.sentMsg dst seq = some { m with notReady := true, sentAt := s.time } ∧ u.queues = s.queues ∧ u.dram = s.dram) ∧
      (∀ r bytes, r = 2 ∨ r = 3 → ∃ u : State, exec (.e2eAck dst seq r bytes) s = .next u.settle ∧ failed s.time u) ∧
      (∀ dt, let t := s.tick dt
        (m.notReady = false → t.since m.sentAt < 50000 → exec (.e2eResendTimeout dst seq dt) s = .next t) ∧
        (m.notReady = false → t.route dst = none → exec (.e2eResendTimeout dst seq dt) s = .next t) ∧
        (m.notReady = false → 50000 ≤ t.since m.sentAt → (t.route dst).isSome = true → m.resends < 4 → ∃ u : State,
          exec (.e2eResendTimeout dst seq dt) s = .next u ∧
          u.sentMsg dst seq = some { m with resends := m.resends + 1, sentAt := t.time } ∧ u.queues = s.queues) ∧
        (m.notReady = false → 50000 ≤ t.since m.sentAt → (t.route dst).isSome = true → 4 ≤ m.resends → ∃ u : State,
          exec (.e2eResendTimeout dst seq dt) s = .next u.settle ∧ failed t.time u) ∧
        (m.notReady = true → 2000 ≤ t.since m.sentAt → ∃ u : State, exec (.rnrResend dst seq dt) s = .next u ∧
          u.sentMsg dst seq = some { m with notReady := false, resends := 0, sentAt := t.time } ∧
          (m.kind < 4 → u.reg (Reg.lnkRnr m.part) = (s.reg (Reg.lnkRnr m.part) + 1) % 2 ^ 64)) ∧
        (m.notReady = true → s.entry 0x5000 5 * 1000 ≤ t.since m.startAt → ∃ u : State,
          exec (.rnrLimitExpiry dst seq dt) s = .next u.settle ∧ failed t.time u))) ∧
    (∀ port m, let h := s.handle m.handle
      port < s.nPorts → s.portUp port = true → s.alive = true → m.kind = 3 → m.dst = s.links.coord → m.abort = false →
      m.reserved = false → m.data.length = m.len → (s.countMsg port m).flooding port = false →
      (h.kind = 3 → bitOf h.members m.src = true → h.lenOk m.data.length = true → h.packet = none →
        m.param = h.epoch ∨ m.param = (h.epoch + 1) % 2 ^ 64 → ∃ u : State, exec (.reduce port m) s = .next u.settle ∧
          u.handle m.handle = { h with contrib := h.contrib ++ [(m.src, m.param, m.data)] } ∧
          u.reg (Reg.lnkRxMsgs h.part) = (s.reg (Reg.lnkRxMsgs h.part) + 1) % 2 ^ 64) ∧
      (h.kind ≠ 3 ∨ bitOf h.members m.src = false ∨ h.lenOk m.data.length = false → ∃ u : State, exec (.reduce port m) s = .next u.settle ∧
        u.links.handles = s.links.handles)) ∧
    (∀ hd q n pieces, let h := s.handle hd
      s.boot.off = false → hd < 8192 → h.packet = some (q, n) → h.result s.links.coord = some pieces →
      bitOf (nth 0 h.data 2) 15 = false →
      let w := s.writeAll 20 h.part h.ctx h.base pieces.flatten
      let stamp := match (s.queue q).packets.look n with | some k => k.stamp | none => 0
      (∀ x ∈ pagesOf h.base pieces.flatten.length, s.staleRange h.part stamp x = false) → w.2.2 = none → ∃ t : State, exec (.reduceResult hd) s = .next (t.completePacket q n
          (match (s.queue q).packets.look n with | some k => k.status | none => 0)).settle ∧
        t.dram = w.1.dram ∧ t.rstore = w.1.rstore ∧ (t.handle hd).epoch = (h.epoch + 1) % 2 ^ 64 ∧
        (t.handle hd).packet = none) ∧
    (∀ hd dt since, let t := s.tick dt
      s.boot.off = false → hd < 8192 → (s.handle hd).since = some since → (s.handle hd).result s.links.coord = none →
      (t.since since < s.entry 0x5000 6 * 1000 → exec (.collTimeout hd dt) s = .next t) ∧
      (∀ q n k, s.entry 0x5000 6 * 1000 ≤ t.since since → (s.handle hd).packet = some (q, n) →
        (s.queue q).packets.look n = some k → k.st = .started → k.status = 0 → ∃ u : State,
          exec (.collTimeout hd dt) s = .next u.settle ∧ (u.handle hd).packet = none ∧
          (u.handle hd).epoch = (s.handle hd).epoch ∧
          ∀ k', (u.queue q).packets.look n = some k' → k'.st = .failed ∧ k'.status = Stat.linkError)) ∧
    (∀ src time rtt, s.boot.off = false →
      let t := { s with links := { s.links with heard := Tab.put s.links.heard src s.time } }
      (s.pcie.link = true ∨ t.hostAnchor ≠ some src → exec (.deviceTimeMessage src time rtt) s = .next t) ∧
      (s.pcie.link = false → t.hostAnchor = some src → ∃ u : State,
        exec (.deviceTimeMessage src time rtt) s = .next u ∧ u.time = (time + rtt / 2) % 2 ^ 64 ∧ u.dram = s.dram ∧
        ∀ i x, s.meter.idx.look i = some x → x.closed = none → u.meter.idx.look i = some { x with tstep := true })) ∧
    (∀ dt, let t := s.tick dt
      (s.pcie.link = true → s.alive = true → s.time / 1000000 ≠ t.time / 1000000 →
        ∃ u : State, exec (.deviceTimeSend dt) s = .next u ∧ u.out = s.out ∧ u.dram = s.dram ∧
          ∀ m k, m < 64 → bitOf s.links.reachable m = true → t.route m = some k → ∃ f ∈ (u.port k).queue, f.vc = 0 ∧
            f.payload = exactly 232 (Config.ctlFlit m (leBytes 8 t.time))) ∧
      (s.pcie.link = false ∨ s.time / 1000000 = t.time / 1000000 → exec (.deviceTimeSend dt) s = .next t)) ∧
    (∀ m dt, let t := s.tick dt
      s.boot.off = false → m < 64 → s.links.valid = false ∨ m ≠ s.links.coord → Tab.wf Fence.init s.fences = true →
      (t.unreachable m = false → exec (.peerLost m dt) s = .next t) ∧
      (t.unreachable m = true → bitOf s.links.lost m = false → ∃ u : State, exec (.peerLost m dt) s = .next u.settle ∧
        bitOf u.links.lost m = true ∧ (∀ x ∈ u.links.sent, x.dst = m → x.kind = 3) ∧
        ∀ g, (s.fence g).st = 1 → (s.fence g).imported = true → (s.fence g).source = m → (s.fence g).value < 2 ^ 63 →
          (u.fence g).value = (s.fence g).value + 2 ^ 63))

/-- R326, R329, R330, R335, R340, R348: a handle command acts on the handle LNK_H_SEL names in the partition's range: it
registers a free handle as a receive queue, a window or a collective from acceptable arguments (at most 256
collectives), with an alarm where a member lacks relay reduction, releases one, or shows it. LNK_RQ_DB moves a receive queue's consumed count up to the messages received. A
write to a group slot is performed on the anchor itself, dropped and counted for a lost module, and sent as a GATEWAY
otherwise (its parameter is the model's, log 65). -/
def Obligations.HandlesAndGroupWindow : Prop :=
  ∀ (s : State),
    (∀ fn p, let n := s.reg (Reg.lnkHSel p)
      let status := Reg.lnkHStatus p
      let d (i : Nat) : Nat := s.reg (Reg.lnkHData p i)
      let args := [d 0, d 1, d 2, d 3]
      let h := s.handle n
      let ends (i : Instr) (r : Nat) (facts : State → Prop) : Prop := ∃ u : State,
        exec i s = .next ((u.settle.setReg status (2 * r + 16 * (u.handle n).kind)).markBusy status) ∧ facts u
      let same (u : State) : Prop := u = s
      let made (kind : Nat) (u : State) : Prop := u = s.setHandle n
        { Handle.init with kind := kind, data := args, part := p, epoch := if kind = 3 then 1 else 0 }
      p < 8 → s.Reaches fn 0 → s.alive = true → actsFor fn p = true → status ∉ s.busy →
      (s.inRange p .handle n = false → ∀ i ∈ [Instr.registerRq fn p, .registerWindow fn p, .registerColl fn p,
        .handleRelease fn p, .handleRead fn p], exec i s = .next ((s.setReg status 2).markBusy status)) ∧
      (s.inRange p .handle n = true →
        (h.kind ≠ 0 → ends (.registerRq fn p) 2 same ∧ ends (.registerWindow fn p) 2 same ∧
          ends (.registerColl fn p) 2 same) ∧
        (h.kind = 0 →
          (s.rqOk p args = true → ends (.registerRq fn p) 0 (made 1)) ∧
          (s.rqOk p args = false → ends (.registerRq fn p) 3 same) ∧
          (s.windowOk p args = true → ends (.registerWindow fn p) 0 (made 2)) ∧
          (s.windowOk p args = false → ends (.registerWindow fn p) 3 same) ∧
          (s.collOk p args = true → s.collectives < 256 → ends (.registerColl fn p) 0 (made 3)) ∧
          (s.collOk p args = true → 256 ≤ s.collectives → ends (.registerColl fn p) 4 same) ∧
          (s.collOk p args = false → ends (.registerColl fn p) 3 (fun u => u = s.collAlarm p n args ∧
            u.links.handles = s.links.handles ∧ u.dram = s.dram)) ∧ ends (.handleRelease fn p) 2 same) ∧
        (h.kind ≠ 0 → h.packet = none → ends (.handleRelease fn p) 0 (fun u => u = s.setHandle n Handle.init)) ∧
        (h.data.length ≤ 4 → ends (.handleRead fn p) 0 (fun u => u.links = s.links ∧ u.queues = s.queues ∧
          ∀ i v, h.data[i]? = some v → u.reg (Reg.lnkHData p i) = v % 2 ^ 64))) ∧
      (s.rqOk p args = true → d 0 % 4096 = 0 ∧ d 0 < 2 ^ 48 ∧ 4 ≤ d 1 % 2 ^ 8 ∧ d 1 % 2 ^ 8 ≤ 16 ∧
        6 ≤ d 1 / 2 ^ 8 % 2 ^ 8 ∧ d 1 / 2 ^ 8 % 2 ^ 8 ≤ 16) ∧
      (s.collOk p args = true → d 0 % 64 = 0 ∧ 64 ≤ d 1 % 2 ^ 17 ∧ d 1 % 2 ^ 17 ≤ 65536 ∧ d 1 % 64 = 0 ∧
        d 3 = s.membersOf (d 1 / 2 ^ 36 % 4)) ∧
      (∀ v, let k := v % 2 ^ 13
        let c := v / 2 ^ 32 % 2 ^ 32
        let ok := s.inRange p .handle k = true ∧ (s.handle k).kind = 1 ∧
          ((s.handle k).received + 2 ^ 32 - c) % 2 ^ 32 ≤ 2 ^ (s.handle k).ringLog
        (ok → exec (.lnkRqDb fn p v) s = .next (s.setHandle k { s.handle k with consumed := c })) ∧
        (¬ ok → exec (.lnkRqDb fn p v) s = .next (s.count (Reg.strDbIgnored p) 1)))) ∧
    (∀ m v off bytes, s.Reaches 0 0 → s.pcie.link = true → m < 64 → v < 2 ^ 64 →
      off % 4 = 0 → bytes.length % 4 = 0 → 4 ≤ bytes.length → bytes.length ≤ 512 → off + bytes.length ≤ 0x20000 →
      let lost := s.isLost m
      let ofs := s.reg (Reg.lnkGwRegofs m)
      let val := s.reg (Reg.lnkGwRegval m)
      let mem := GwOp.memory (s.reg (Reg.lnkGwApbase m) + off)
      let sends (i : Instr) (op : GwOp) (data : List (BitVec 8)) : Prop := ∃ (u : State) (x : SentMsg),
        exec i s = .next u ∧ u.links.sent = s.links.sent ++ [x] ∧ x.dst = m ∧ x.kind = 5 ∧ x.param = op.param ∧
        x.data = data ∧ u.dram = s.dram
      let drops (i : Instr) : Prop := ∃ u : State, exec i s = .next u ∧ u.links.sent = s.links.sent ∧ u.dram = s.dram ∧
        u.reg (Reg.lnkGwDrop 0) = (s.reg (Reg.lnkGwDrop 0) + 1) % 2 ^ 64
      let free := s.reg (Reg.lnkGwRegstat m) % 2 = 0
      (m = s.moduleNo → exec (.lnkGwDb 0 m v) s = .next (s.gwHere m .doorbell (leBytes 8 v)) ∧
        exec (.gwApertureWrite 0 m off bytes) s = .next (s.gwHere m mem bytes) ∧
        (free → exec (.gwRegWrite 0 m) s = .next ((s.gwHere m (.reg ofs) (leBytes 8 val)).setReg (Reg.lnkGwRegstat m) 0))) ∧
      (¬ free → ∀ i ∈ [Instr.gwRegRead 0 m, .gwRegWrite 0 m], exec i s = .next (s.setReg (Reg.lnkGwRegstat m) 5)) ∧
      (m ≠ s.moduleNo → lost = true → drops (.lnkGwDb 0 m v) ∧ drops (.gwApertureWrite 0 m off bytes) ∧
        (free → drops (.gwRegRead 0 m) ∧ drops (.gwRegWrite 0 m))) ∧
      (m ≠ s.moduleNo → lost = false → sends (.lnkGwDb 0 m v) .doorbell (leBytes 8 v) ∧
        sends (.gwApertureWrite 0 m off bytes) mem bytes ∧
        (free → sends (.gwRegWrite 0 m) (.reg ofs) (leBytes 8 val) ∧ sends (.gwRegRead 0 m) (.regRead ofs) [])) ∧
      (∀ b t, m = s.moduleNo → free → s.readReg 0 ofs 8 = (t, some b) → ∃ u : State, exec (.gwRegRead 0 m) s = .next u ∧
        u.reg (Reg.lnkGwRegval m) = leNat b % 2 ^ 64 ∧ u.reg (Reg.lnkGwRegstat m) = 0))

/-- R231, R242, R254: a scheduler pass starts only packets that are next in a running queue of the partition and meet the
conditions of a start, and on each queue one; a partition's one packet that may start and finds its resources free is
started at the device time, and where there is none to start the pass leaves everything as it is but the counts of cycles
held. R199: a write to CCH_DIR_PROBE reads the directory entry of a line of LPDDR5X, its state, owner, sharers and whether
it is busy, into CCH_DIR_RESULT and changes nothing else. -/
def Obligations.SchedulerAndProbe : Prop :=
  ∀ (s : State),
    (∀ p, p < 8 → let t := s.settle
      (s.fetching = false → exec (.schedulerPass p) s = .next s) ∧
      (s.fetching = true → (t.pass p).2 = [] → exec (.schedulerPass p) s = .next (t.heldCycles p)) ∧
      (∀ q n k dma, s.fetching = true → t.candidates p = [{ q := q, n := n, p := k }] →
        t.fits p [] { q := q, n := n, p := k } = some dma → (t.queue q).nextStart = some (n, k) →
        (t.queue q).packets = [(n, k)] → (∀ x, t.partOf .queue x = some p → (t.queue x).packets ≠ [] → x = q) →
        pOpcode k.raw = 0x20 ∨ pOpcode k.raw = 0x21 →
        ∃ (u : State) (x : Packet), exec (.schedulerPass p) s = .next u ∧ (u.queue q).packets.look n = some x ∧
          x.st = .started ∧ x.start = t.time ∧ x.dma = dma ∧ x.raw = k.raw ∧ x.waitSince = none ∧
          (u.queue q).reserved = (t.queue q).reserved + 1) ∧
      (∀ q n k, Tab.wf Queue.init t.queues = true → (q, n, k) ∈ (t.pass p).2 → t.partOf .queue q = some p ∧ ∃ x, (t.queue q).nextStart = some (n, x) ∧
        t.mayStart q n x = true ∧ x.dstat = 0 ∧ (t.queue q).room = true) ∧
      (Tab.wf Queue.init t.queues = true → ((t.pass p).2.map Prod.fst).Nodup)) ∧
    (∀ fn pa, s.Reaches fn 0 → pa < 2 ^ 48 →
      let v := s.dirEntry ((s.homeOf (pa / 128)).getD 0) (pa / 128)
      (fn ≠ 0 → exec (.dirProbe fn pa) s = .next (s.count Reg.dbgBadWrite 1)) ∧
      (fn = 0 → ∃ r, exec (.dirProbe 0 pa) s = .next (s.setReg Reg.cchDirResult r) ∧ r < 2 ^ 42 ∧ r / 2 ^ 41 = 1 ∧
        (s.inDram pa = false ∨ s.homeOf (pa / 128) = none ∨ v = none → r = 2 ^ 41) ∧
        ∀ e, s.inDram pa = true → s.homeOf (pa / 128) ≠ none → v = some e →
          r / 2 ^ 40 % 2 = 1 ∧ r / 2 ^ 37 % 4 = e.st % 4 ∧ r / 2 ^ 32 % 2 ^ 5 = (if e.st = 2 ∨ e.st = 3 then e.owner % 2 ^ 5 else 0) ∧
          r % 2 ^ 32 = e.sharers % 2 ^ 32 ∧ (r / 2 ^ 39 % 2 = 1 ↔ e.txn ≠ none)))

/-! ### The Ralxon dictionary (chapter 14) -/

/-- R352 to R355, R357, R360, R362 to R365, R367: a READ answers an entry's value, of the shadow set where it asks for
it; a WRITE stages an RW-S value and makes the source the owner of a DIRTY shadow set, or sets an RW-I value at once,
and refuses what its access, role, owner, type or range does not allow without a change. CHECK moves to CHECKED when no
staged value fails, APPLY is taken only then, and the next boundary commits every staged value or none. DISCARD returns
to the active values. READ_JOURNAL answers the held entries from START on. -/
def Obligations.DictionaryOperations : Prop :=
  ∀ (s t : State) (src : Source), s.Hears t src →
    let admin := Role.admin ≤ t.role src
    let operate := Role.operate ≤ t.role src
    let mine := t.dict.owner = 0 ∨ t.dict.owner = sourceCode src
    let node := ∃ f mac seq, src = .segment f mac seq
    (∀ x r shadow, ¬ node → 1 ≤ t.role src → x.data = [] → dictRow x.index x.sub = some r → hasOffset r = false →
      let answer (data : List (BitVec 8)) (st : Nat) : Prop :=
        exec (.read src shadow [x]) s = .next (t.respond src 1 st 0 [({ x with type := r.type, data := data }, st)])
      (r.acc = .rws → answer (leBytes r.bytes (if shadow then t.staged x.index x.sub else t.entry x.index x.sub)) 0) ∧
      (r.acc = .rwi → answer (leBytes r.bytes (t.entry x.index x.sub)) 0) ∧ (r.acc = .wo → answer [] DSt.access)) ∧
    (∀ x shadow, ¬ node → 1 ≤ t.role src → x.data = [] → dictRow x.index x.sub = none →
      exec (.read src shadow [x]) s = .next (t.respond src 1 DSt.noEntry 0 [({ x with data := [] }, DSt.noEntry)])) ∧
    (∀ items shadow, ¬ node → t.role src = 0 →
      exec (.read src shadow items) s = .next (t.respond src 1 DSt.auth 0 [])) ∧
    (∀ x r, ¬ node → dictRow x.index x.sub = some r →
      let stages := r.acc = .rws
      let formed := x.type = r.type ∧ x.data.length = r.bytes ∧ typeBytes r.type ≠ 0
      let v := leNat x.data
      let plain := x.index ≠ 0x3000 ∨ 3 ≤ x.sub
      let refuses (st : Nat) : Prop :=
        exec (.write src [x]) s = .next (t.respond src 2 st 0 [({ x with data := [] }, st)])
      let sets (facts : State → Prop) : Prop := ∃ u : State,
        exec (.write src [x]) s = .next (u.respond src 2 0 0 [({ x with data := [] }, 0)]) ∧ facts u
      (r.acc = .ro → refuses DSt.access) ∧
      (stages → ¬ admin → s.recovery = false → refuses DSt.auth) ∧
      (r.acc = .rwi → ¬ operate → s.recovery = false → r.admin = false → refuses DSt.auth) ∧
      (stages → admin → t.dict.state = 3 → refuses DSt.applyPending) ∧
      (stages → admin → t.dict.state ≠ 3 → ¬ mine → refuses DSt.locked) ∧
      (stages → admin → t.dict.state ≠ 3 → mine → x.type ≠ r.type → refuses DSt.type) ∧
      (stages → admin → t.dict.state ≠ 3 → mine → formed → v < r.lo ∨ r.hi < v → refuses DSt.range) ∧
      (stages → admin → t.dict.state ≠ 3 → mine → formed → inRangeOf x.index x.sub v = true → sets (fun u =>
        u.staged x.index x.sub = v ∧ u.dict.state = 1 ∧ u.dict.owner = sourceCode src ∧ u.dict.active = t.dict.active ∧
        u.dict.journal = t.dict.journal)) ∧
      (r.acc = .rwi → operate → r.admin = false → formed → plain → inRangeOf x.index x.sub v = true → sets (fun u =>
        u.entry x.index x.sub = v ∧ u.dict.state = t.dict.state ∧ u.dict.owner = t.dict.owner ∧
        u.dict.jcount = (t.dict.jcount + 1) % 2 ^ 32))) ∧
    (¬ admin → exec (.check src) s = .next (t.respond src 3 DSt.auth 0 []) ∧
      exec (.apply src) s = .next (t.respond src 4 DSt.auth 0 []) ∧
      exec (.discard src) s = .next (t.respond src 5 DSt.auth 0 [])) ∧
    (admin → t.dict.state = 3 → exec (.check src) s = .next (t.respond src 3 DSt.applyPending 0 []) ∧
      exec (.apply src) s = .next (t.respond src 4 DSt.applyPending 0 []) ∧
      exec (.discard src) s = .next (t.respond src 5 DSt.applyPending 0 [])) ∧
    (admin → t.dict.state ≠ 3 → ¬ mine → exec (.check src) s = .next (t.respond src 3 DSt.locked 0 []) ∧
      exec (.apply src) s = .next (t.respond src 4 DSt.locked 0 []) ∧
      exec (.discard src) s = .next (t.respond src 5 DSt.locked 0 [])) ∧
    (admin → t.dict.state ≠ 3 → mine →
      (t.shadowFails = [] → ∃ u : State, exec (.check src) s = .next (u.respond src 3 0 0 []) ∧ u.dict.state = 2 ∧
        u.dict.shadow = t.dict.shadow ∧ u.dict.active = t.dict.active) ∧
      (t.shadowFails ≠ [] → 24 + itemsLen (t.shadowFails.map failItem) ≤ pduLimit src →
        exec (.check src) s = .next (t.respond src 3 DSt.checkFailed 0 (t.shadowFails.map failItem))) ∧
      (t.dict.state ≠ 2 → exec (.apply src) s = .next (t.respond src 4 DSt.notChecked 0 [])) ∧
      (t.dict.state = 2 → ∃ u : State, exec (.apply src) s = .next u ∧ u.dict.state = 3 ∧
        u.dict.applySrc = sourceCode src ∧ u.dict.active = t.dict.active ∧ u.out = t.out) ∧
      (∃ u : State, exec (.discard src) s = .next (u.respond src 5 0 0 []) ∧ u.dict.state = 0 ∧ u.dict.owner = 0 ∧
        u.dict.active = t.dict.active ∧ ∀ i sub, u.staged i sub = t.entry i sub)) ∧
    (∀ start count, 1 ≤ t.role src → let held := (t.dict.journal.filter (fun e => start ≤ e.seq)).take count
      24 + 72 * held.length ≤ pduLimit src → exec (.readJournal src start count) s = .next (t.respond src 6 0 0
        (held.map (fun e => ({ index := e.index, sub := e.sub, type := 9, data := e.bytes }, 0))))) ∧
    (s.dict.state ≠ 3 ∨ s.time ≠ s.meter.frameTime → exec .applyBoundary s = .next s) ∧
    (∀ rec, s.dict.state = 3 → s.boot.off = false → (s.frameEnd rec).dict.state = 3 →
      exec (.frameEnd rec) s = .next (s.frameEnd rec).applyBoundary ∧ (s.frameEnd rec).applyBoundary.dict.state ≠ 3) ∧
    (s.dict.state = 3 → s.boot.off = false → s.time = s.meter.frameTime →
      (s.shadowFails = [] → ∃ u : State, exec .applyBoundary s = .next u ∧ u.dict.state = 0 ∧ u.dict.owner = 0 ∧
        u.dict.applyCount = (s.dict.applyCount + 1) % 2 ^ 32 ∧
        ∀ i sub r, dictRow i sub = some r → r.acc = .rws → (i, sub) ∈ storedEntries → u.entry i sub = s.staged i sub) ∧
      (s.shadowFails ≠ [] → s.dict.applySrc = 0xFFFF → ∃ u : State, exec .applyBoundary s = .next u ∧ u.dict.state = 1 ∧
        u.dict.active = s.dict.active ∧ u.dict.shadow = s.dict.shadow ∧ u.dict.applyCount = s.dict.applyCount ∧
        u.dict.owner = s.dict.owner))

/-- R358, R359, R366, R369, R376, R378, R380, R382, R389: HELLO from a known principal opens a half session that a
verified AUTH within 1 s completes; CLOSE and SESSION_IDLE end it and release its shadow set; the third failure of a MAC
address in 60 s locks it out for 60 s. A WRITE stages the defaults, clears latched alarms whose condition is over, takes a
firmware chunk, starts the check of an image, raises the SVN floor, or makes a report with its nonce, at most one a
second. The configuration store takes the active values, or is tried again. The mailbox takes one request at a time.
What each failed check of an image leaves stands in FW_STATE. -/
def Obligations.SessionsAndManagement : Prop :=
  ∀ (s : State),
    (∀ via mac seq principal key, s.Hears s (.segment ⟨.own, none⟩ mac seq) → key.length = 97 → via ≠ .other →
      let live := s.dict.sessions.filter (fun k => k.2.opened || s.since k.2.since ≤ 1000000000)
      let known := principal < 16 ∧ s.entry (0x2100 + principal) 2 ≠ 0
      let hello := Instr.hello ⟨⟨via, none⟩, mac, seq⟩ principal key
      let answer (st retry : Nat) (l : List (Item × Nat)) : Out := .frame mac (framed (pduBytes 0x10 1 st 0 seq retry l))
      (known → live.length < 8 → s.dict.state ≠ 3 → ∃ (u : State) (n : Nat) (k : Session) (reply : Item),
        exec hello s = .next u ∧ 1 ≤ n ∧ n ≤ 10 ∧ u.out = s.out ++ [answer 0 0 [(reply, 0)]] ∧
        u.dict.sessions.look n = some k ∧ k.mac = mac ∧ k.principal = principal ∧ k.opened = false ∧ k.since = s.time ∧
        k.nextSeq = 0 ∧ k.client = key ∧ k.transcript = key ++ (reply.data.drop 2).take 145 ++ leBytes 2 n ∧
        (reply.data.drop 2).take 97 = Crypto.pubOf k.priv ∧ reply.data.drop 147 = Crypto.sign 1 k.transcript ∧
        leNat (reply.data.take 2) = n ∧ reply.data.length = 243) ∧
      (known → 8 ≤ live.length → ∃ u : State, exec hello s = .next u ∧ u.out = s.out ++ [answer DSt.busy 1000 []]) ∧
      (¬ known → ∃ u : State, exec hello s = .next u ∧ answer DSt.auth 0 [] ∈ u.out ∧
        (2 ≤ (s.dict.failures.filter (fun f => f.1 = mac && s.since f.2 ≤ 60000000000)).length → u.lockedOut mac = true))) ∧
    (∀ mac seq n k sig, s.Hears s (.segment ⟨.own, none⟩ mac seq) → s.time < 2 ^ 64 → s.dict.sessions.look n = some k →
      k.mac = mac → k.opened = false →
      let hash := Crypto.sha384 (k.transcript ++ leBytes 16 Config.serial.toNat)
      let verifies := Crypto.ecdsaOk (leBytes 97 (s.entry (0x2100 + k.principal) 1)) hash sig = true
      ∃ u : State, exec (.auth ⟨⟨.own, none⟩, mac, seq⟩ n sig 0) s = .next u ∧
        (verifies ∧ s.since k.since ≤ 1000000000 ∧ s.entry (0x2100 + k.principal) 2 ≠ 0 → ∀ z, Crypto.ecdh k.priv k.client = some z →
          u.dict.sessions.look n = some { k with opened := true, since := s.time,
                                                 key := Crypto.sha3.hkdf z (Crypto.sha384 k.transcript) 32 } ∧
          u.out = s.out ++ [.frame mac (framed (pduBytes 0x11 1 0 n seq 0 []))]) ∧
        (¬ verifies ∨ 1000000000 < s.since k.since → u.dict.sessions.look n = none ∧
          .frame mac (framed (pduBytes 0x11 1 DSt.auth 0 seq 0 [])) ∈ u.out)) ∧
    (∀ t n seq, s.Hears t (.session ⟨.own, none⟩ n seq true) → ∃ (u : State) (k : Session),
      exec (.close (.session ⟨.own, none⟩ n seq true)) s = .next u ∧ t.dict.sessions.look n = some k ∧
      (let pdu := pduBytes 0x12 1 0 n seq 0 []
       u.out = s.out ++ [.frame k.mac (framed (pdu ++ (Crypto.sha2.hmac k.key pdu).take 16))]) ∧
      u.dict.sessions.look n = none ∧ (s.dict.owner = n → s.dict.state ≠ 3 → u.dict.owner = 0 ∧ u.dict.shadow = [])) ∧
    (∀ f n seq shadow items, f.via = .other → exec (.read (.session f n seq true) shadow items) s = .next s ∧
      ∀ mac, exec (.read (.segment f mac seq) shadow items) s = .next s) ∧
    (∀ f n seq shadow items, exec (.read (.session f n seq false) shadow items) s = .next s) ∧
    (∀ mac seq op shadow items, s.Hears s (.segment ⟨.own, none⟩ mac seq) → let src := Source.segment ⟨.own, some op⟩ mac seq
      exec (.read src shadow items) s = .next (s.respond src op DSt.badPdu 0 [])) ∧
    (∀ n seq k shadow items, s.dict.sessions.look n = some k → seq < k.nextSeq → k.opened = true → s.segmentOn = true →
      s.recovery = false → s.lockedOut k.mac = false → let src := Source.session ⟨.own, none⟩ n seq true
      exec (.read src shadow items) s = .next (s.respond src 1 DSt.seq 0 [])) ∧
    (∀ n dt k, s.boot.off = false → s.dict.sessions.look n = some k → k.opened = true →
      let t := s.tick dt
      (t.since k.since < s.entry 0x2000 7 * 1000000000 → exec (.sessionIdleExpiry n dt) s = .next t) ∧
      (s.entry 0x2000 7 * 1000000000 ≤ t.since k.since → ∃ u : State, exec (.sessionIdleExpiry n dt) s = .next u ∧
        u.dict.sessions.look n = none ∧ (s.dict.owner = n → s.dict.state ≠ 3 → u.dict.owner = 0))) ∧
    (∀ mac dt, s.boot.off = false → ∃ u : State, exec (.macLockoutEnd mac dt) s = .next u ∧
      (∀ l, l ∈ u.dict.lockouts ↔ l ∈ s.dict.lockouts ∧ ¬ (l.1 = mac ∧ 60000000000 ≤ (s.tick dt).since l.2)) ∧
      u.dict.sessions = s.dict.sessions) ∧
    (∀ t src, s.Hears t src → (∀ f mac seq, src ≠ .segment f mac seq) → s.recovery = false →
      let admin := Role.admin ≤ t.role src
      let operate := Role.operate ≤ t.role src
      let done (i : Instr) (index sub : Nat) (facts : State → Prop) : Prop := ∃ (u : State) (x : Item),
        exec i s = .next (u.respond src 2 0 0 [(x, 0)]) ∧ x.index = index ∧ x.sub = sub ∧ facts u
      let mine := t.dict.owner = 0 ∨ t.dict.owner = sourceCode src
      let idle := if s.boot.running = 0 then 1 else 0
      (admin → t.dict.state ≠ 3 → mine → done (.defaults src) 0x2000 4 (fun u => u.dict.active = t.dict.active ∧
        u.dict.state = 1 ∧ u.dict.owner = sourceCode src ∧ ∀ i sub r, dictRow i sub = some r → r.acc = .rws →
          (i, sub) ∈ storedEntries → u.staged i sub = t.dflt i sub)) ∧
      (∀ mask, operate → mask < 2 ^ 64 → done (.alarmAck src mask) 0x7000 3 (fun u => u.dict.alarmActive = t.dict.alarmActive ∧
        ∀ c < 64, bitOf u.dict.alarmLatched c = (bitOf t.dict.alarmLatched c &&
          !(bitOf mask c && !bitOf t.dict.alarmActive c)))) ∧
      (∀ off bytes, admin → off < 2 ^ 32 → 1 ≤ bytes.length → bytes.length ≤ 4000 → done (.fwChunk src off bytes) 0x1F00 1
        (fun u => u.boot.chunks = Mem.write t.boot.chunks off bytes ∧
          (idle = 1 → u.boot.slotB = none ∧ u.boot.slotA = t.boot.slotA) ∧
          (idle = 0 → u.boot.slotA = none ∧ u.boot.slotB = t.boot.slotB))) ∧
      (∀ len, admin → len < 2 ^ 32 → done (.fwCommit src len) 0x1F00 2 (fun u => u.boot.fwState = 1)) ∧
      (admin → done (.fwSvnCommit src) 0x1F00 5 (fun u => u.boot.svnMin = max t.boot.svnMin t.fwSvn)) ∧
      (admin → t.boot.off = false → t.boot.start = Start.ready → t.inFlight ≠ 0 → t.entry 0x3000 0x0C ≠ 0 →
        done (.powerDown src) 0x3000 0x0B (fun u => u.boot.start = Start.poweringDown ∧ u.boot.pdStep = 2 ∧
          u.boot.pdGrace = t.entry 0x3000 0x0C ∧ u.queues = t.queues)) ∧
      (∀ nonce, operate → nonce.length = 32 → t.attestRetry = none → done (.attestNonce src nonce) 0x1000 0x10 (fun u =>
        u.meter.identQ = t.meter.identQ + 1 ∧ u.boot.reportTime = some t.time ∧ u.boot.report.length = 3916 ∧
        (u.boot.report.drop 24).take 32 = nonce)) ∧
      (∀ nonce w, operate → nonce.length = 32 → t.attestRetry = some w → ∃ u : State,
        exec (.attestNonce src nonce) s = .next u ∧ u.meter.identQ = t.meter.identQ ∧ u.boot.report = t.boot.report ∧
        1000 ≤ w)) ∧
    (∀ ok dt, let t := s.tick dt
      s.boot.off = false → (s.dict.storeState = 1 ∨ (s.dict.storeState = 2 ∧ 1000000000 ≤ dt) →
        ∃ u : State, exec (.configStoreWrite ok dt) s = .next u.pdGo ∧ u.dict.active = s.dict.active ∧
          (ok = true → u.dict.store = s.dict.active ∧ u.dict.storeState = 0) ∧
          (ok = false → u.dict.store = s.dict.store ∧ u.dict.storeState = 2)) ∧
      (s.dict.storeState = 0 → exec (.configStoreWrite ok dt) s = .next t)) ∧
    (∀ result, s.boot.off = false → (s.boot.fwState ≠ 1 → exec (.fwCheckComplete result) s = .next s) ∧
      (s.boot.fwState = 1 → ∃ u : State, exec (.fwCheckComplete result) s = .next u ∧ (match result with
        | .accepted v svn => if svn < s.boot.svnMin then u.boot.fwState = 4 ∧ u.boot.slotA = s.boot.slotA else
            u.boot.fwState = 2 ∧ (s.recovery = false → (s.boot.running = 0 → u.boot.slotB = some (v, svn)) ∧
              (s.boot.running ≠ 0 → u.boot.slotA = some (v, svn)))
        | .badSignature => u.boot.fwState = 3
        | .badSvn => u.boot.fwState = 4
        | .flashFailed => u.boot.fwState = 5))) ∧
    (∀ len, s.Reaches 0 0 → (s.reg Reg.hifMbxStatus % 2 = 1 → exec (.mailboxSubmit 0 len) s = .next s) ∧
      (s.reg Reg.hifMbxStatus % 2 = 0 → len < 24 → ∃ (u : State) (op : Nat), exec (.mailboxSubmit 0 len) s =
        .next (u.mailboxAnswer op DSt.badPdu 0 []) ∧ u.dict = s.dict) ∧
      ∀ seq pdu, s.reg Reg.hifMbxStatus % 2 = 0 → seq < 2 ^ 32 → len < 8192 → Mem.bytes s.mbxReq 0 len = pdu → pdu.length = len →
        len ≤ 4096 →
        let done (i : Instr) : Prop := ∃ u : State, exec (.mailboxSubmit 0 len) s = .next u ∧
          exec i { s with mbxSeq := seq } = .next u
        let request (op pflags : Nat) (items : List Item) : Prop :=
          pdu = pduBytes op pflags 0 0 seq 0 (items.map (fun x => (x, 0))) ∧ items.length < 2 ^ 16 ∧
          ∀ x ∈ items, x.index < 2 ^ 16 ∧ x.sub < 2 ^ 8 ∧ x.type < 2 ^ 8
        (∀ items, request 1 0 items → done (.read .mailbox false items)) ∧
        (∀ items, request 1 2 items → done (.read .mailbox true items)) ∧
        (∀ items, request 2 0 items → done (.write .mailbox items)) ∧
        (request 3 0 [] → done (.check .mailbox)) ∧ (request 4 0 [] → done (.apply .mailbox)) ∧
        (request 5 0 [] → done (.discard .mailbox)) ∧
        (∀ start count, start < 2 ^ 32 → count < 2 ^ 16 →
          pdu = layout 24 [(0, 1, 1), (1, 1, 6), (8, 4, seq), (16, 2, 6)] ++ leBytes 4 start ++ leBytes 2 count →
          done (.readJournal .mailbox start count)))

/-! ### Power, start-up and faults (chapters 14 and 15) -/

/-- R370 to R373: each 10 µs the cap lowers the clock at 95% of PEAK_W, leaves it where no limit is exceeded, raises it
only with room under both limits, and keeps it between the floor and the ceiling. A droop event of an island is counted
once until its full clock is back; each millisecond at THERM_LIMIT lowers the ceiling by a step, and 10 ms at 3 °C below
raises it. R372, R395: 115 °C, a rail fault and a silent marshal are module-fatal: the first cause discards all work, is
latched and recorded, a later one is counted. -/
def Obligations.PowerAndHeat : Prop :=
  ∀ (s : State),
    let w := s.power
    let same (u : State) : Prop := u.dram = s.dram ∧ u.rstore = s.rstore ∧ u.queues = s.queues ∧ u.cores = s.cores
    let fatal (i : Instr) (f : FatalInfo) : Prop :=
      (s.boot.fatal = 0 → ∃ u : State, exec i s = .next u ∧ u.boot.start = Start.fatal ∧ u.boot.fatal = f.cause ∧
        u.launches = [] ∧ u.net = [] ∧ (∀ g ∈ u.agents, g.2.lines = []) ∧ u.meter.stopped = 1 ∧ u.dram = s.dram ∧
        u.fatal = Mem.write [] 0 ((s.fatalRecord f 0xFF).bytes 0 s.time) ∧ bitOf u.dict.alarmActive 0 = true) ∧
      (s.boot.fatal ≠ 0 → ∃ u : State, exec i s = .next u ∧ u.boot = s.boot ∧ u.fatal = s.fatal ∧ same u ∧
        u.reg Reg.hifFltFatalCnt = min (s.reg Reg.hifFltFatalCnt + 1) (2 ^ 32 - 1))
    s.boot.off = false →
    (∀ p100 p10m, let t := s.tick 10000
      let peak := s.entry 0x3000 2 * 1000
      let sus := s.entry 0x3000 1 * 1000
      ∃ u : State, exec (.powerCapTick p100 p10m) s = .next u ∧ same u ∧ u.time = (s.time + 10000) % 2 ^ 64 ∧
        u.reg Reg.pwrP100 = p100 % 2 ^ 32 ∧ u.power.mhz ≤ t.ceiling ∧ (700 ≤ w.mhz → 700 ≤ u.power.mhz) ∧
        (sus ≤ peak → 95 * peak < 100 * p100 → u.power.mhz ≤ max (w.mhz - 400) 700) ∧
        (sus ≤ peak → 100 * p100 ≤ 95 * peak → p100 ≤ sus → p10m ≤ sus →
          (95 * sus ≤ 100 * p100 ∨ 98 * sus ≤ 100 * p10m ∨ t.since w.lastChange < 1000000 →
            u.power.mhz = min w.mhz t.ceiling) ∧
          (100 * p100 < 95 * sus → 100 * p10m < 98 * sus → 1000000 ≤ t.since w.lastChange →
            u.power.mhz = min (w.mhz + 100) t.ceiling))) ∧
    (∀ kind island, kind < 6 → let k := islandKey kind island
      (k ∈ w.droop → exec (.droopDetect kind island) s = .next s) ∧
      (k ∉ w.droop → ∃ u : State, exec (.droopDetect kind island) s = .next u ∧ u.power.droop = w.droop ++ [k] ∧
        same u ∧ u.reg (Reg.pwrDroopEvt kind) = (s.reg (Reg.pwrDroopEvt kind) + 1) % 2 ^ 64) ∧
      (∀ ns, k ∉ w.droop → exec (.droopRecover kind island ns) s = .next (s.tick ns)) ∧
      (∀ ns, k ∈ w.droop → ∃ u : State, exec (.droopRecover kind island ns) s = .next u ∧ k ∉ u.power.droop ∧ same u ∧
        u.reg (Reg.pwrStretchNs kind) = (s.reg (Reg.pwrStretchNs kind) + ns) % 2 ^ 64)) ∧
    (∀ hottest dt, let t := s.tick dt
      let limit : Int := (s.entry 0x3000 6 : Nat)
      s.boot.start ≠ Start.resetting → ∃ u : State, exec (.thermalTick hottest dt) s = .next u ∧ same u ∧
        u.power.tempMax = hottest ∧ u.power.mhz ≤ u.ceiling ∧
        (limit * 16 ≤ hottest → 1000000 ≤ t.since w.lastTherm → w.thermDrop < 14 →
          u.power.thermDrop = w.thermDrop + 1 ∧ u.power.lastTherm = t.time) ∧
        (hottest ≤ (limit - 3) * 16 → 10000000 ≤ t.since w.lastTherm → 0 < w.thermDrop →
          u.power.thermDrop = w.thermDrop - 1) ∧
        (t.since w.lastTherm < 1000000 ∨ ((limit - 3) * 16 < hottest ∧ hottest < limit * 16) →
          u.power.thermDrop = w.thermDrop)) ∧
    (∀ sensor temp, sensor < 32 → (temp < 1840 → exec (.thermalTrip sensor temp) s = .next s) ∧
      (1840 ≤ temp → s.boot.start = Start.memory → ∃ u : State, exec (.thermalTrip sensor temp) s = .next u ∧
        u.boot.start = Start.overTemp ∧ same u) ∧
      (1840 ≤ temp → s.boot.start = Start.ready ∨ s.boot.start = Start.fatal → fatal (.thermalTrip sensor temp)
        { FatalInfo.of 8 with sensor := sensor, temp := wrapInt 16 (max w.tempMax temp) })) ∧
    (∀ rail, rail < 12 → s.boot.start = Start.ready ∨ s.boot.start = Start.fatal →
      fatal (.regulatorFault rail) { FatalInfo.of 7 with rail := rail }) ∧
    (∀ dt, let t := s.tick dt
      (t.since s.meter.frameTime < 50000000 → exec (.marshalWatchdog dt) s = .next t) ∧
      (50000000 ≤ t.since s.meter.frameTime → s.boot.fatal = 0 → s.boot.start = Start.ready → ∃ u : State,
        exec (.marshalWatchdog dt) s = .next u ∧ u.boot.start = Start.fatal ∧ u.boot.fatal = 9 ∧ u.launches = [] ∧
        u.meter.idx = [] ∧ u.reqs = [] ∧ u.meter.due = s.meter.due ∧ u.meter.cur = s.meter.cur ∧ u.dram = s.dram))

/-- R377, R378, R384, R386 to R390, R413, R434 to R436, R443, R444: start-up ends READY with memory zeroed, the boot
count one higher and the slot of the higher version running, or stands in the failure state of what failed. A module
reset discards all work and, once the receipts are signed and RESET_N is high, runs the self-test and is READY again with
LPDDR5X kept, the lines dirty in a cache written to it. An input outside its range starts a power-down at the floor clock with no grace; a power-down ends off
once its packets and receipts are done, and a removed input arms the next start. -/
def Obligations.StartResetAndPowerDown : Prop :=
  ∀ (s : State),
    let reaches (i : Instr) (code : Nat) (facts : State → Prop) : Prop := ∃ u : State, exec i s = .next u ∧
      u.boot.start = code ∧ facts u
    let any (_ : State) : Prop := True
    let kept : Mem := (s.saveLines (fun _ => true)).dram
    (∀ r : PowerUpResult, s.mayBoot = false → exec (.powerUp r) s = .next s) ∧
    (∀ r : PowerUpResult, s.mayBoot = true → let k := bootSlot r.slotA r.slotB
      let rails := k ≠ none ∧ r.railsOk = true
      let trained := rails ∧ r.trainOk = true
      let cool := trained ∧ r.overTemp = false
      (k = none → reaches (.powerUp r) Start.noFirmware any) ∧
      (k ≠ none → r.railsOk = false → reaches (.powerUp r) Start.railFault any) ∧
      (rails → r.trainOk = false → reaches (.powerUp r) Start.trainFail any) ∧
      (trained → r.overTemp = true → reaches (.powerUp r) Start.overTemp any) ∧
      (cool → s.boot.resetNLow = true → reaches (.powerUp r) Start.memory any) ∧
      (cool → s.boot.resetNLow = false → s.unitFail r.test = true → reaches (.powerUp r) Start.unitFail any) ∧
      (cool → s.boot.resetNLow = false → s.unitFail r.test = false → reaches (.powerUp r) Start.ready (fun u =>
        u.boot.off = false ∧ u.time = r.ns ∧ u.dram = [] ∧ u.rstore = [] ∧ u.queues = [] ∧ u.launches = [] ∧
        k = some u.boot.running ∧ u.units.clusters = (s.presence r.test).clusters ∧
        u.units.cores = (s.presence r.test).cores ∧
        (s.boot.start ≠ Start.rom → u.meter.boot = (s.meter.boot + 1) % 2 ^ 32)))) ∧
    (s.mayBoot = true → reaches (.startupStepTimeout 1) Start.noFirmware any ∧
      reaches (.startupStepTimeout 3) Start.railFault any ∧ reaches (.startupStepTimeout 4) Start.trainFail any ∧
      reaches (.startupStepTimeout 5) Start.unitFail any) ∧
    (∀ step, step = 2 ∨ step = 6 ∨ step = 7 → exec (.startupStepTimeout step) s = .next s) ∧
    (∀ v (test : SelfTest), s.Reaches 0 0 → (v % 2 = 0 ∨ s.mayReset = false → exec (.hifReset 0 v test) s = .next s) ∧
      (v % 2 = 1 → s.boot.start = Start.ready →
        (s.meter.idx ≠ [] → reaches (.hifReset 0 v test) Start.resetting (fun u => u.queues = [] ∧ u.launches = [] ∧
          u.boot.resetStep = 2 ∧ u.dram = kept)) ∧
        (s.meter.idx = [] → s.boot.resetNLow = false → s.boot.fatal = 0 → s.unitFail test = false →
          reaches (.hifReset 0 v test) Start.ready (fun u => u.queues = [] ∧ u.launches = [] ∧ u.ctxs = [] ∧
            u.fences = [] ∧ u.batons = [] ∧ u.dram = kept ∧ u.time = s.time ∧ u.boot.resetStep = 0 ∧
            u.units.cores = (s.presence test).cores)) ∧
        (s.meter.idx = [] → s.boot.resetNLow = false → s.boot.fatal = 0 → s.unitFail test = true →
          reaches (.hifReset 0 v test) Start.unitFail any))) ∧
    (∀ ns (test : SelfTest), (ns < 100 → exec (.resetN ns test) s = .next s) ∧
      (100 ≤ ns → ns < 10000 → s.boot.off = false → exec (.resetN ns test) s = .next (s.count Reg.dbgResetGlitch 1)) ∧
      (10000 ≤ ns → s.boot.off = false → s.boot.start = Start.ready → reaches (.resetN ns test) Start.resetting (fun u =>
        u.boot.resetNLow = true ∧ u.queues = [] ∧ u.launches = [] ∧ u.dram = kept))) ∧
    (s.boot.off = false →
      (s.boot.start = Start.memory → s.unitFail s.boot.test = false → reaches .resetNRelease Start.ready (fun u =>
        u.boot.resetNLow = false ∧ u.dram = s.dram)) ∧
      (s.boot.start = Start.resetting → s.boot.resetStep = 3 → s.hot = false → s.unitFail s.boot.test = false →
        reaches .resetNRelease Start.ready (fun u => u.boot.resetNLow = false ∧ u.boot.resetStep = 0)) ∧
      (s.boot.start ≠ Start.memory → s.boot.start ≠ Start.resetting → reaches .resetNRelease s.boot.start (fun u =>
        u.boot.resetNLow = false ∧ u.dram = s.dram ∧ u.queues = s.queues))) ∧
    (∀ dt us, s.boot.off = false → s.boot.start = Start.ready →
      let falls (u : State) : Prop := u.power.mhz = 700 ∧ u.boot.pdFail = true ∧
        (s.meter.idx = [] → s.meter.backlog.all List.isEmpty = true → s.meter.reserving = false → s.dict.storeState ≠ 1 →
          u.boot.off = true)
      (dt < 1000000 → exec (.inputUndervoltage dt) s = .next (s.tick dt)) ∧
      (1000000 ≤ dt → reaches (.inputUndervoltage dt) Start.poweringDown falls) ∧
      (us < 50 → exec (.inputOvervoltage us) s = .next (s.tick (us * 1000))) ∧
      (50 ≤ us → reaches (.inputOvervoltage us) Start.poweringDown falls)) ∧
    (∀ mv, s.boot.off = false → 57000 ≤ mv → mv ≤ 84000 → ∃ u : State, exec (.inputVoltageMarginal mv) s = .next u ∧
      u.boot.margin = decide ((57000 ≤ mv ∧ mv < 60000) ∨ (78000 < mv ∧ mv ≤ 84000)) ∧ u.queues = s.queues ∧
      (u.boot.margin = true → s.boot.margin = false → bitOf u.dict.alarmActive 22 = true) ∧
      (60000 ≤ mv → mv ≤ 78000 → s.boot.margin = true → bitOf u.dict.alarmActive 22 = false)) ∧
    (∀ dt, (dt < 100000000 → exec (.inputRemoved dt) s = .next (s.tick dt)) ∧
      (100000000 ≤ dt → reaches (.inputRemoved dt) Start.poweringDown (fun u => u.boot.off = true ∧ u.boot.armed = true ∧
        u.pcie.link = if s.boot.off then s.pcie.link else false))) ∧
    (∀ dt, let t := s.tick dt
      (s.boot.start ≠ Start.poweringDown → exec (.powerDownGraceExpiry dt) s = .next t) ∧
      (s.boot.off = false → s.boot.start = Start.poweringDown → s.boot.pdStep = 2 → s.inFlight ≠ 0 →
        t.since s.boot.pdSince < s.boot.pdGrace * 1000000 → exec (.powerDownGraceExpiry dt) s = .next t) ∧
      (s.boot.off = false → s.boot.start = Start.poweringDown → s.boot.pdStep = 2 → s.meter.idx = [] →
        s.meter.backlog.all List.isEmpty = true → s.meter.reserving = false → s.dict.storeState ≠ 1 → s.inFlight = 0 ∨ s.boot.pdGrace * 1000000 ≤ t.since s.boot.pdSince →
        reaches (.powerDownGraceExpiry dt) Start.poweringDown (fun u => u.boot.off = true ∧ u.boot.pdStep = 6 ∧
          u.boot.armed = false ∧ u.pcie.link = false ∧ ∀ g ∈ u.agents, g.2.lines = [])))

/-! ### Traces and freeze (chapter 16) -/

/-- R396, R402, R403, R408, R416: a write of a ring's TAIL is accepted within HEAD and TAIL; ENABLE checks a ring's
configuration and turns it ON with HEAD and TAIL 0, or leaves it OFF with BAD_CFG; DISABLE turns it OFF. The drain empties
a buffer that holds 128 records or whose oldest has waited DRAIN_US: records of the module itself go to the host ring
where it is ON, in order, and are discarded where it is not; a record whose ring has no room stays. COPY sends the held
instruction trace records to the host ring, or waits while it is OFF. -/
def Obligations.TraceRings : Prop :=
  ∀ (s : State),
    let accepted (head tail v n : Nat) : Prop := (head + 2 ^ 32 - v) % 2 ^ 32 ≤ n ∧ (v + 2 ^ 32 - tail) % 2 ^ 32 ≤ n
    let mine (fn r : Nat) : Prop := if r < 8 then actsFor fn r = true else fn = 0
    let only (u : State) (l : List Nat) : Prop := u = { s with regs := u.regs } ∧ ∀ o, o ∉ l → u.reg o = s.reg o
    let head := s.reg (trHead 8)
    let size := 2 ^ (s.reg (trCfg 8) % 32)
    let room (n : Nat) : Prop := head < 2 ^ 32 ∧ s.reg (trTail 8) < 2 ^ 32 ∧
      (head + 2 ^ 32 - s.reg (trTail 8)) % 2 ^ 32 + n ≤ size
    let sent (l : List (List Byte)) : List Out :=
      l.zipIdx.map (fun x => .pwrite ((s.reg (trBase 8) + 64 * ((head + x.2) % size)) % 2 ^ 64) x.1)
    (∀ fn, s.Reaches fn 0 →
      (∀ p v, p < 8 → v < 2 ^ 32 →
        (actsFor fn p = false → exec (.fltTailWrite fn p v) s = .next (s.count Reg.dbgBadWrite 1)) ∧
        (actsFor fn p = true →
          let ok := accepted (s.reg (Reg.hifFltHead p)) (s.reg (Reg.hifFltTail p)) v 64
          (ok → exec (.fltTailWrite fn p v) s = .next (s.setReg (Reg.hifFltTail p) v)) ∧
          (¬ ok → exec (.fltTailWrite fn p v) s = .next s))) ∧
      (∀ r, r ≤ 8 → ¬ mine fn r →
        ∀ i ∈ [Instr.traceRingEnable fn r, .traceRingDisable fn r, .traceTailWrite fn r 0],
          exec i s = .next (s.count Reg.dbgBadWrite 1)) ∧
      (∀ r, r ≤ 8 → mine fn r →
        let log := s.reg (trCfg r) % 32
        let context := s.reg (trCfg r) / 2 ^ 16 % 2 ^ 12
        let fits := s.reg (trBase r) % 4096 = 0 ∧ 6 ≤ log ∧ log ≤ 20 ∧
          (r < 8 → s.inRange r .ctx context = true ∧ (s.ctx context).st = .live)
        (fits → ∃ u : State, exec (.traceRingEnable fn r) s = .next u ∧ only u [trHead r, trTail r, trStatus r] ∧
          u.reg (trHead r) = 0 ∧ u.reg (trTail r) = 0 ∧ u.reg (trStatus r) = 1) ∧
        (¬ fits → ∃ u : State, exec (.traceRingEnable fn r) s = .next u ∧ only u [trStatus r] ∧
          bitOf (u.reg (trStatus r)) 0 = false ∧ bitOf (u.reg (trStatus r)) 2 = true) ∧
        (∃ u : State, exec (.traceRingDisable fn r) s = .next u ∧ only u [trStatus r] ∧
          u.reg (trStatus r) = s.reg (trStatus r) - s.reg (trStatus r) % 2) ∧
        (∀ v, v < 2 ^ 32 →
          let ok := accepted (s.reg (trHead r)) (s.reg (trTail r)) v (2 ^ log)
          (¬ ok → exec (.traceTailWrite fn r v) s = .next s) ∧
          (ok → r < 8 ∨ s.itrace.copy = none →
            exec (.traceTailWrite fn r v) s = .next (s.setReg (trTail r) v)))) ∧
      (fn ≠ 0 → exec (.itraceCopy fn) s = .next (s.count Reg.dbgBadWrite 1)) ∧
      (fn = 0 → s.trOn 8 = false → s.itrace.count ≠ 0 →
        exec (.itraceCopy fn) s = .next { s with itrace := { s.itrace with copy := some 0 } }) ∧
      (fn = 0 → s.trOn 8 = true → s.pcie.link = true → room (min s.itrace.count 1048576) →
        ∃ (u : State) (l : List (List Byte)), exec (.itraceCopy fn) s = .next u ∧
          l.length = min s.itrace.count 1048576 ∧ u.out = s.out ++ sent l ∧ u.itrace.copy = none ∧
          u.reg (trHead 8) = (head + l.length) % 2 ^ 32 ∧
          ∀ r ∈ l, r.length = 64 ∧ (r.drop 8).headD 0 = 0x10#8 ∧ (r.drop 11).headD 0 = 0xFF#8)) ∧
    (s.boot.off = false → ∀ b dt, b < s.nClusters ∨ b = 20 ∨ (b = 21 ∧ s.oneDie = false) →
      let t := s.tick dt
      let x := s.buffer b
      let due := 128 ≤ x.recs.length ∨ (x.recs ≠ [] ∧ s.entry 0x2300 3 * 1000 ≤ t.since x.since)
      let part (r : List Byte) : Nat := ((r.drop 11).headD 0).toNat
      (¬ due → exec (.traceDrain b dt) s = .next t) ∧
      (due → x.held = none →
        ((∀ r ∈ x.recs, part r = 0xFF) → s.trOn 8 = false → ∃ u : State, exec (.traceDrain b dt) s = .next u ∧
          (u.buffer b).recs = [] ∧ u.out = s.out ∧ u.regs = s.regs) ∧
        ((∀ r ∈ x.recs, part r = 0xFF) → s.trOn 8 = true → s.pcie.link = true → room x.recs.length →
          ∃ u : State, exec (.traceDrain b dt) s = .next u ∧ (u.buffer b).recs = [] ∧ u.out = s.out ++ sent x.recs ∧
            u.reg (trHead 8) = (head + x.recs.length) % 2 ^ 32 ∧ (∀ o, o ≠ trHead 8 → u.reg o = s.reg o)) ∧
        (∀ r rest p, x.recs = r :: rest → part r = p → p < 8 → s.trOn p = true → s.trRoom p = false →
          ∃ u : State, exec (.traceDrain b dt) s = .next u ∧ (u.buffer b).recs = x.recs ∧ u.out = s.out ∧
            u.regs = s.regs)))

/-- R409 to R412: the first holder of a freeze copies the counters, takes the next identifier and device time, and writes a
FREEZE record into every buffer that has room; a later one adds itself and is counted. A freeze ends when its last holder
is released; FREEZE and UNFREEZE messages go to every reachable module, with FREEZE_GROUP_TX, for a freeze of the module's
own. Edges of the pin less than 10 µs apart are counted, a level held over 1 s masks it until it falls. -/
def Obligations.FreezeHolders : Prop :=
  ∀ (s : State),
    let said (a u : State) (own : Bool) (op : Byte) : Prop := ∃ b : List Byte, b.take 3 = [0x10#8, 1#8, op] ∧
      leNat ((b.drop 4).take 4) = a.freeze.id % 2 ^ 32 ∧ u.out = a.out ∧
      (own = false ∨ a.entry 0x2300 1 ≠ 1 → u.links = a.links ∧ u.meter = a.meter) ∧
      (own = true → a.entry 0x2300 1 = 1 → ∀ m k, m < 64 → bitOf a.links.reachable m = true → a.route m = some k →
        ∃ f ∈ (u.port k).queue, f.vc = 0 ∧ f.payload = exactly 232 (Config.ctlFlit m b))
    let held (i : Instr) (a : State) (f : Freeze) (own : Bool) : Prop :=
      if a.frozen = true then exec i s = .next ({ a with freeze := f }.count Reg.dbgFreezeRepeat 1)
      else ∃ u : State, exec i s = .next u ∧
        u.freeze = { f with copy := some (a.accrue a.countingNow).regs, id := (a.freeze.id + 1) % 2 ^ 32, time := a.time, own := own } ∧
        (∀ b, a.bufferOk b = true → (a.buffer b).dropped = 0 → (a.buffer b).recs.length < 256 →
          (u.buffer b).recs.length = (a.buffer b).recs.length + 1) ∧
        said { a with freeze := u.freeze } u own 1#8
    let ended (a u : State) : Prop :=
      if a.frozen = true ∨ a.freeze.copy = none then u = a
      else u = { a with freeze := { a.freeze with copy := none }, links := u.links, meter := u.meter } ∧
        said a u a.freeze.own 2#8
    (∀ fn, s.Reaches fn 0 →
      (fn ≠ 0 → exec (.freeze fn) s = .next (s.count Reg.dbgBadWrite 1) ∧
        exec (.unfreeze fn) s = .next (s.count Reg.dbgBadWrite 1)) ∧
      (fn = 0 → held (.freeze fn) s { s.freeze with reg := true } true ∧
        ∃ u : State, exec (.unfreeze fn) s = .next u ∧
          ended { s with freeze := { s.freeze with reg := false, pin := false, group := none } } u)) ∧
    (s.boot.off = false →
      (∀ dt, let t := s.tick dt
        let fast := ∃ l, s.freeze.lastRise = some l ∧ t.since l < 10000
        let long := ∃ l, s.freeze.lastRise = some l ∧ 1000000000 < t.since l
        let up := { s.freeze with high := true, lastRise := some t.time }
        (s.freeze.high = true → exec (.freezeInRise dt) s = .next t) ∧
        (s.freeze.high = false → fast →
          exec (.freezeInRise dt) s = .next ({ t with freeze := up }.count Reg.dbgFreezeBounce 1)) ∧
        (s.freeze.high = false → ¬ fast →
          held (.freezeInRise dt) { t with freeze := up } { up with pin := true } true) ∧
        (s.freeze.high = false → exec (.freezeInFall dt) s = .next t) ∧
        (s.freeze.high = true → ∃ u : State, exec (.freezeInFall dt) s = .next u ∧
          let low := { t with freeze := { s.freeze with high := false, masked := false, pin := false } }
          (s.freeze.masked = false → ended low u) ∧
          (s.freeze.masked = true → bitOf u.dict.alarmActive 18 = false ∧ ended { low with dict := u.dict } u)) ∧
        (s.freeze.high = false ∨ s.freeze.masked = true ∨ ¬ long → exec (.freezeInStuck dt) s = .next t) ∧
        (s.freeze.high = true → s.freeze.masked = false → long → ∃ u : State, exec (.freezeInStuck dt) s = .next u ∧
          u.freeze.masked = true ∧ u.freeze.pin = false ∧ bitOf u.dict.alarmActive 18 = true ∧
          (s.freeze.reg = false → s.freeze.group = none → u.freeze.copy = none) ∧
          (s.freeze.reg = true ∨ s.freeze.group.isSome = true → u.freeze.copy = s.freeze.copy))) ∧
      (∀ origin id time, origin < 64 → id < 2 ^ 32 →
        (s.entry 0x2300 2 ≠ 1 → exec (.groupFreezeMessage origin id time) s = .next s) ∧
        (s.entry 0x2300 2 = 1 → s.freeze.group.isSome = true →
          exec (.groupFreezeMessage origin id time) s = .next (s.count Reg.dbgFreezeRepeat 1)) ∧
        (s.entry 0x2300 2 = 1 → s.freeze.group = none →
          held (.groupFreezeMessage origin id time) s { s.freeze with group := some (origin, id) } false) ∧
        (s.freeze.group = none → exec (.groupUnfreezeMessage origin id) s = .next s) ∧
        (∀ h, s.freeze.group = some h → h ≠ (origin, id) →
          exec (.groupUnfreezeMessage origin id) s = .next (s.count Reg.dbgFreezeRepeat 1)) ∧
        (s.freeze.group = some (origin, id) → ∃ u : State, exec (.groupUnfreezeMessage origin id) s = .next u ∧
          ended { s with freeze := { s.freeze with group := none } } u)))

/-! ### The PCIe port (chapter 17) -/

/-- R418, R420, R430, R440, R444, R445: fundamental reset, link down, a long PERST_N pulse and the loss of the PCIe reference
put the link down, every function's configuration at reset and the module in reset; FLR of the PF resets it too; FLR of a
VF aborts the LIVE contexts of its partition and disables its trace ring. D3hot and D0 keep a function's state. Training
sets HIF_LINK_STATUS and alarm PCIE_DEGRADED. A PTM dialogue measures the error, and steps device time where SET is armed.
The loss of the link reference or of a cable puts Cartal ports DOWN; their return lets them train. -/
def Obligations.HostLinkAndResets : Prop :=
  ∀ (s : State),
    let fresh (u : State) : Prop := (∀ k, u.pfn k = PFn.init) ∧ u.pcie.vfEnable = false ∧ u.pcie.numVfs = 0 ∧
      u.pcie.ptm = false ∧ u.pcie.ide = [] ∧ u.time = s.time ∧
      u.dram = (if s.mayReset = true ∧ s.boot.start ≠ Start.resetting then (s.saveLines (fun _ => true)).dram else s.dram)
    let stops (u : State) : Prop := s.boot.start = Start.ready → u.queues = [] ∧ u.launches = [] ∧ u.net = [] ∧
      (s.meter.idx ≠ [] → u.boot.start = Start.resetting)
    let down (i : Instr) (clk : Bool) : Prop := ∃ u : State, exec i s = .next u ∧ fresh u ∧ stops u ∧
      u.pcie.link = false ∧ u.reg Reg.hifLinkStatus = 0 ∧ u.boot.hpClk = clk
    let cut (k : Nat) : Bool := s.boot.off || [PortSt.disabled, PortSt.quarantined, PortSt.down].contains (s.port k).st
    (∀ test : SelfTest,
      (s.boot.off = true → exec (.pcieFundamentalReset test) s = .next s) ∧
      (s.boot.off = false → down (.pcieFundamentalReset test) s.boot.hpClk ∧ down (.hpRefclkLoss test) false) ∧
      (s.boot.off = true → exec (.hpRefclkLoss test) s = .next { s with boot := { s.boot with hpClk := false } }) ∧
      (s.barOn = false → exec (.pfFlr test) s = .next s) ∧
      (s.barOn = true → ∃ u : State, exec (.pfFlr test) s = .next u ∧ fresh u ∧ stops u ∧
        u.pcie.link = s.pcie.link) ∧
      (∀ ns, (ns < 10000 ∨ s.barOn = false → exec (.hpPerstN ns test) s = .next s) ∧
        (10000 ≤ ns → s.barOn = true → down (.hpPerstN ns test) s.boot.hpClk))) ∧
    exec .hpRefclkReturn s = .next { s with boot := { s.boot with hpClk := true } } ∧
    (∀ vf, 1 ≤ vf → vf ≤ 8 →
      (s.barOn = false ∨ s.fnOn vf = false → exec (.vfFlr vf) s = .next s) ∧
      (s.barOn = true → s.fnOn vf = true → ∃ u : State, exec (.vfFlr vf) s = .next u.settle ∧ u.pfn vf = PFn.init ∧
        u.trOn (vf - 1) = false ∧
        ∀ c, (s.ctx c).st = .live →
          (u.ctx c).st = if s.inRange (vf - 1) .ctx c = true then .aborting else .live)) ∧
    (∀ fn, fn ≤ 8 →
      (s.barOn = false ∨ s.fnOn fn = false → exec (.d3hotEntry fn) s = .next s ∧ exec (.d0Return fn) s = .next s) ∧
      (s.barOn = true → s.fnOn fn = true →
        exec (.d3hotEntry fn) s = .next (s.setPfn fn { s.pfn fn with d3 := true }) ∧
        ((s.pfn fn).msix = false ∨ (s.pfn fn).fmask = true →
          exec (.d0Return fn) s = .next (s.setPfn fn { s.pfn fn with d3 := false })))) ∧
    (∀ rate width flit, 1 ≤ rate → rate ≤ 6 → width = 1 ∨ width = 2 ∨ width = 4 ∨ width = 8 ∨ width = 16 →
      let may := s.boot.off = false ∧ s.boot.hpClk = true ∧
        s.boot.start ∉ [1, 2, 3, Start.noFirmware, Start.railFault]
      let degraded := rate < 6 ∨ width < 16
      (¬ may → exec (.pcieLinkTrained rate width flit) s = .next s) ∧
      (may → ∃ u : State, exec (.pcieLinkTrained rate width flit) s = .next u ∧ u.pcie.link = true ∧
        u.links.hostWrites = [] ∧ u.reg Reg.hifLinkStatus =
          rate + 2 ^ 3 * width + (if flit then 2 ^ 8 else 0) + (if degraded then 2 ^ 9 else 0) ∧
        u.reg Reg.hifRetrains = (s.reg Reg.hifRetrains + if s.pcie.link then 1 else 0) % 2 ^ 64 ∧
        bitOf u.dict.alarmActive 21 = decide degraded ∧ u.queues = s.queues ∧ u.dram = s.dram)) ∧
    (s.Reaches 0 0 → (s.pcie.ptm = true → ∃ u : State, exec (.ptmSet 0) s = .next u ∧ u.pcie.setArmed = true ∧
        bitOf (u.reg Reg.hifPtmStatus) 3 = false ∧ u.time = s.time) ∧
      (s.pcie.ptm = false → ∃ u : State, exec (.ptmSet 0) s = .next u ∧ u.pcie = s.pcie ∧
        bitOf (u.reg Reg.hifPtmStatus) 3 = true ∧ u.time = s.time)) ∧
    (∀ master dt, let t := s.tick dt
      let due := s.pcie.ptm = true ∧ s.pcie.link = true ∧ s.boot.off = false ∧
        ∀ l, s.pcie.lastDialogue = some l → 1000 * s.reg Reg.hifPtmInterval ≤ t.since l
      let host := (master + s.reg Reg.hifPtmOffset) % 2 ^ 64
      (¬ due → exec (.ptmDialogue master dt) s = .next t) ∧
      (due → ∃ u : State, exec (.ptmDialogue master dt) s = .next u ∧
        u.reg Reg.hifPtmErr = (t.time + 2 ^ 64 - host) % 2 ^ 64 ∧ u.pcie.lastDialogue = some u.time ∧
        u.pcie.setArmed = false ∧ (s.pcie.setArmed = false → u.time = t.time ∧ u.dict = s.dict) ∧
        (s.pcie.setArmed = true → u.time = host ∧ u.boot.ptmSet = true ∧ u.pcie.setRun = true ∧
          ∃ e, u.dict.journal.getLast? = some e ∧ e.old = t.time ∧ e.new = host))) ∧
    (∃ u : State, exec .lkRefclkLoss s = .next u ∧ u.boot = { s.boot with lkClk := false } ∧
      ∀ k, k < s.nPorts → (u.port k).st = if cut k = true then (s.port k).st else PortSt.down) ∧
    (∃ u : State, exec .lkRefclkReturn s = .next u ∧ u.boot = { s.boot with lkClk := true } ∧
      ∀ k, k < s.nPorts → (u.port k).st =
        if (s.port k).st = PortSt.down ∧ u.mayTrain k = true then PortSt.training else (s.port k).st) ∧
    (∀ port, port < s.nPorts →
      (∃ u : State, exec (.cableMate port false) s = .next u ∧ (u.port port).mated = false ∧
        (u.port port).st = if cut port = true then (s.port port).st else PortSt.down) ∧
      (∃ u : State, exec (.cableMate port true) s = .next u ∧ (u.port port).mated = true ∧ (u.port port).attempts = 0 ∧
        let may := s.portOn port = true ∧ bitOf (s.entry 0x5000 3) port = true ∧ s.boot.lkClk = true ∧ s.boot.off = false
        (u.port port).st = if (s.port port).st = PortSt.down ∧ may then PortSt.training else (s.port port).st))

/-- R418 to R421, R427 to R429, R431, R444: a host request is dropped, or answered Unsupported Request, where the function
is absent, in D3hot or outside the IDE stream it requires. Configuration requests get Retry Status before the BARs answer.
A vector that becomes deliverable sends its pending message once. A completion gives a load its registers or a packet its
bytes; an error or a timeout faults the load or the packet with MEM_ERROR and the reason of R429. -/
def Obligations.HostRequestsAndCompletions : Prop :=
  ∀ (s : State),
    let flushed (a : State) (fn : Nat) (i : Instr) : Prop :=
      let f := a.pfn fn
      let due (v : Nat) : Bool := f.msix && !f.fmask && !f.d3 && bitOf f.pba v && !bitOf (f.entry v).toNat 96
      ∃ u : State, exec i s = .next u ∧ u = { a with out := u.out, pcie := u.pcie } ∧
        u.out = a.out ++ ((List.range (msixEntries fn)).filter due).map
          (fun v => .msix fn v (fld (f.entry v).toNat 0 64) (fld (f.entry v).toNat 64 32)) ∧
        (∀ v, v < msixEntries fn → bitOf (u.pfn fn).pba v = (bitOf f.pba v && !due v)) ∧
        (∀ k, k ≠ fn → u.pfn k = a.pfn k)
    let gone (tag : Nat) : State := { s with pcie := { s.pcie with reads := Tab.del s.pcie.reads tag } }
    let answers (i : Instr) (o : Out) : Prop := exec i s = .next (s.emit o)
    (∀ fn off size v ep bytes, fn ≤ 8 → off + size ≤ 2 ^ 26 → s.barOn = true →
      let w := Instr.registerWrite fn off size v ep
      let r := Instr.registerRead fn off size
      (s.fnOn fn = false → exec w s = .next s ∧ answers r .unsupported ∧ exec (.bar4Write fn off bytes ep) s = .next s ∧
        answers (.bar4Read fn off size) .unsupported) ∧
      (s.fnOn fn = true → s.ideOk fn 0 = false → exec w s = .next (s.count Reg.hifIdeRefused 1) ∧
        (off < 2 ^ 26 → exec r s = .next ((s.count Reg.hifIdeRefused 1).emit .unsupported))) ∧
      (s.fnOn fn = true → s.ideOk fn 0 = true → (s.pfn fn).d3 = true → exec w s = .next s ∧
        (off < 2 ^ 26 → answers r .unsupported)) ∧
      (s.Reaches fn 0 → ep = true → exec w s = .next (s.count Reg.hifPoisonRx 1))) ∧
    (∀ fn op, fn ≤ 8 →
      (s.boot.off = true → exec (.pcieConfigRequest fn op) s = .next s) ∧
      (s.boot.off = false → s.barOn = false → answers (.pcieConfigRequest fn op) .retryStatus) ∧
      (s.barOn = true → s.fnOn fn = false → answers (.pcieConfigRequest fn op) .unsupported)) ∧
    (∀ fn, fn ≤ 8 → s.barOn = true → s.fnOn fn = true →
      (∀ off, ∃ (u : State) (v : Nat), exec (.pcieConfigRequest fn (.read off)) s = .next u ∧
        u = { s with out := s.out ++ [.cfgData v], freeCtr := u.freeCtr } ∧
        (off = 0 → 1 ≤ s.units.variant →
          v / 2 ^ 16 = 0x2A10 + 0x100 * (s.units.variant - 1) + (if fn = 0 then 0 else 1)) ∧
        (off = 8 → v / 2 ^ 8 = 0x120000)) ∧
      (∀ b, flushed (s.setPfn fn { s.pfn fn with msix := b }) fn (.pcieConfigRequest fn (.msixEnable b)) ∧
        flushed (s.setPfn fn { s.pfn fn with fmask := b }) fn (.pcieConfigRequest fn (.functionMask b)) ∧
        exec (.pcieConfigRequest fn (.ptmEnable b)) s =
          .next (if fn = 0 then { s with pcie := { s.pcie with ptm := b } } else s)) ∧
      flushed (s.setPfn fn { s.pfn fn with d3 := false }) fn (.d0Return fn) ∧
      (∀ b n, fn ≠ 0 → exec (.pcieConfigRequest fn (.vfEnable b n)) s = .next s) ∧
      (∀ b n, fn = 0 → let kept (k : Nat) : Prop := b = true ∧ k ≤ n
        ∃ u : State, exec (.pcieConfigRequest fn (.vfEnable b n)) s = .next u ∧ u.pcie.vfEnable = b ∧
          u.pcie.numVfs = min n 8 ∧
          ((∀ k, 1 ≤ k → k ≤ 8 → s.fnOn k = true → kept k) →
            u = { s with pcie := { s.pcie with vfEnable := b, numVfs := min n 8 } }) ∧
          ∀ k, 1 ≤ k → k ≤ 8 → s.fnOn k = true → ¬ kept k → u.pfn k = PFn.init ∧ u.trOn (k - 1) = false) ∧
      (∀ n, let offered := 30 ≤ n ∧ n ≤ (if fn = 0 ∧ s.units.variant = 3 then 38 else 39)
        (¬ offered → exec (.pcieConfigRequest fn (.resizeBar4 n)) s = .next s) ∧
        (offered → ∃ u : State, exec (.pcieConfigRequest fn (.resizeBar4 n)) s = .next u ∧ u.bar4Size fn = 2 ^ n)) ∧
      ∀ off v, exec (.pcieConfigRequest fn (.other off v)) s = .next s) ∧
    (∀ fn v, s.Reaches fn 0 →
      (msixEntries fn ≤ v → exec (.msixUnmask fn v) s = .next (s.count Reg.dbgBadWrite 1)) ∧
      (v < msixEntries fn → let f := s.pfn fn
        let open' := Tab.set (BitVec.ofNat 128 (2 ^ 96)) f.table v (f.entry v &&& ~~~(1#128 <<< 96))
        flushed (s.setPfn fn { f with table := open' }) fn (.msixUnmask fn v))) ∧
    (s.boot.off = false → ∀ tag dt,
      (s.pcie.reads.look tag = none → (∀ x, exec (.pcieCompletion tag x) s = .next s) ∧
        exec (.pcieCompletionTimeout tag dt) s = .next (s.tick dt)) ∧
      (∀ r, s.pcie.reads.look tag = some r →
        let mine (f : Fetched) : Bool :=
          r.work = some (f.q, f.n) && f.addr = r.addr && f.len = r.len && f.data.isNone
        let fails (facts : State → Nat → Instr → Prop) : Prop :=
          facts ((gone tag).count Reg.hifCplErr 1) 0x11 (.pcieCompletion tag .ur) ∧
          facts ((gone tag).count Reg.hifCplErr 1) 0x12 (.pcieCompletion tag .ca) ∧
          facts ((gone tag).count Reg.hifCplErr 1) 0x13 (.pcieCompletion tag .poisoned) ∧
          facts (((gone tag).count Reg.hifCplTimeout 1).tick dt) 0x10 (.pcieCompletionTimeout tag dt)
        (∀ bytes, bytes.length ≠ r.len → exec (.pcieCompletion tag (.data bytes)) s = .next s) ∧
        (∀ bytes q n, bytes.length = r.len → r.work = some (q, n) → r.who = none →
          exec (.pcieCompletion tag (.data bytes)) s = .next { gone tag with pcie := { (gone tag).pcie with
            fetched := s.pcie.fetched.map (fun f => if mine f then { f with data := some bytes } else f) } }) ∧
        (∀ bytes c slot lane p, bytes.length = r.len → r.work = none → r.who = some (.lane c slot lane) → r.len ≤ 4 →
          r.reg < 255 → s.pack c slot = some p → lane < p.threads.length →
          ∃ (u : State) (x : Pack), exec (.pcieCompletion tag (.data bytes)) s = .next u ∧ u.pack c slot = some x ∧
            u.pcie = (gone tag).pcie ∧ r.reg ∉ (x.thread lane).awaits ∧ (x.thread lane).reg r.reg =
              if r.sext then wrapInt 32 (sx (8 * r.len) (leNat bytes)) else leNat bytes) ∧
        (∀ bytes c, bytes.length = r.len → r.work = none → r.who = some (.coach c) → r.len ≤ 8 → r.reg < 64 →
          ∃ u : State, exec (.pcieCompletion tag (.data bytes)) s = .next u ∧ u.pcie = (gone tag).pcie ∧
            r.reg ∉ (u.core c).coach.awaits ∧ (u.core c).coach.reg r.reg =
              if r.sext then wrapInt 64 (sx (8 * r.len) (leNat bytes)) else leNat bytes) ∧
        (∀ c slot lane, r.work = none → r.who = some (.lane c slot lane) → fails (fun a reason i =>
          exec i s = .next (a.kernelFault c slot r.pc
            { status := Stat.memError, lane := lane, addr := r.va, reason := reason, wait := 0 }))) ∧
        (∀ c, r.work = none → r.who = some (.coach c) → fails (fun a reason i =>
          exec i s = .next (a.coachFault c Stat.memError reason))) ∧
        (∀ q n, r.work = some (q, n) → s.pcie.fetched.any mine = false → fails (fun a _ i => exec i s = .next a)) ∧
        (∀ q n p, r.work = some (q, n) → s.pcie.fetched.any mine = true → (s.queue q).packets.look n = some p →
          p.st = .started → fails (fun a reason i =>
            exec i s = .next ((a.forget q n).packetFault q n Stat.memError reason r.va).settle)))) ∧
    (∀ req, s.barOn = false → exec (.doeRequest req) s = .next s) ∧
    (s.barOn = true → answers (.doeRequest .getCertificate) (.doe Config.certChain) ∧ answers (.doeRequest .other) (.doe []) ∧
      (∀ nonce, ∃ a b : List Byte, answers (.doeRequest (.challenge nonce)) (.doe a) ∧
        answers (.doeRequest (.getMeasurements nonce)) (.doe b) ∧ (s.measurements ++ nonce) <+: b ∧ nonce <+: a) ∧
      (∀ stream rid bars, stream < 8 → ∃ u : State, exec (.doeRequest (.ideProgram stream rid bars)) s = .next u ∧
        u.regs = s.regs ∧ ∀ fn bar, fn ≤ 8 → bar < 3 → bitOf bars (3 * fn + bar) = true → u.ideOk fn bar = true) ∧
      (∀ stream, ∃ u : State, exec (.doeRequest (.ideStop stream)) s = .next u ∧ u.pcie.ide.look stream = none ∧
        ∀ k, k ≠ stream → u.pcie.ide.look k = s.pcie.ide.look k))

/-! ### The machine as a whole -/

/-- The step takes the command at the front of the queue and performs it on the state with the queue's rest. On an empty
queue the block idles (the model's choice, log 9). No row of the command table has bits, so no word spells a command. -/
def Obligations.StepTakesFront : Prop :=
  (∀ (c : Instr) (s : State), step { s with pending := c :: s.pending } = exec c s) ∧
  (∀ s : State, s.pending = [] → step s = .next s) ∧
  (∀ (s : State) (nbits w : Nat), decodeTableWord nbits w = none ∧ s.withFetchWord nbits w = s)

/-- R389, R435: a module that is off after step 6 of the power-down, whose input has not been removed since, stays so over
every command but the removal of its input for 100 ms. -/
def Obligations.OffStaysOff : Prop :=
  ∀ (s t : State), s.Off → step s = .next t → t.Off ∨ ∃ dt rest, s.pending = .inputRemoved dt :: rest ∧ 100000000 ≤ dt

/-- R5, R222, R227, R254, R259, R377, R390, R409, R416, R432: right after reset the module is READY, runs work and has no
work: every register has the value of its Reset column (0 where the tables give none, and device time 0: the model's
choices, log 2 and 3), every queue is DISABLED, every object FREE, every memory zero, no counter frozen, nothing waits. -/
def Obligations.ResetState : Prop :=
  let s := State.reset
  s.boot.start = Start.ready ∧ s.boot.off = false ∧ s.alive = true ∧ s.fetching = true ∧ s.barOn = true ∧
  s.time = 0 ∧ s.pending = [] ∧ s.out = [] ∧ s.frozen = false ∧
  (∀ o, s.reg o = (regReset o).toNat) ∧
  (∀ p, p < 8 → s.reg (Reg.dbgTrMinwait p) = 1000 ∧ s.reg (Reg.hifFltHead p) = 0 ∧ s.reg (Reg.strObjStatus p) = 0) ∧
  s.reg Reg.hifPtmInterval = 10000 ∧ s.reg Reg.hifLinkStatus = 0 ∧
  (∀ a, s.dram.byte a = 0#8 ∧ s.rstore.byte a = 0#8) ∧ s.dram.wf = true ∧ s.rstore.wf = true ∧
  (∀ q, (s.queue q).st = .disabled) ∧ (∀ c, (s.ctx c).st = .free) ∧ (∀ f, (s.fence f).st = 0) ∧
  (∀ b, (s.baton b).live = false) ∧ (∀ m, (s.mobj m).st = 0) ∧ (∀ l, s.launch l = none) ∧
  (∀ c, (s.core c).kernel = none ∧ (s.core c).lap = none ∧ ∀ k, s.pack c k = none) ∧
  (∀ k, k < 16 → (s.port k).st = PortSt.down) ∧ (∀ h line, s.dirEntry h line = none)

/-- Every well-formed command completes in every state of a module of two dies, but for a patrol of a word that no present
slice holds. A command that names a unit outside the module's numbering stops with noSuchUnit (the model's stop, log 6). -/
def Obligations.WellFormedCommandsComplete : Prop :=
  ∀ (s : State),
    (s.units.variant ≠ 3 → ∀ i : Instr, i.wf = true →
      (∀ n a, i = .rsPatrol n (some a) → (s.sliceOf a).isSome = true) → ∃ t, exec i s = .next t) ∧
    (∀ (i : Instr) (r : Refusal), exec i s ≠ .refused r) ∧
    let no (i : Instr) : Prop := exec i s = .fault .noSuchUnit
    (∀ c slot w, s.nCores ≤ c ∨ 64 ≤ slot → no (.iadd (.simt c slot) w) ∧ no (.ld (.simt c slot) w) ∧
      no (.fence (.simt c slot) w) ∧ no (.exit (.simt c slot) w) ∧ no (.reservedOpcode (.simt c slot) w)) ∧
    (∀ c w dt, s.nCores ≤ c → no (.sadd (.coach c) w) ∧ no (.atom (.coach c) w) ∧ no (.mm c) ∧ no (.load c) ∧
      no (.store c) ∧ no (.waitb c) ∧ no (.markerPop c) ∧ no (.healthSum c) ∧ no (.injectCell c) ∧
      no (.kernelBoundary c) ∧ no (.lapWatchdogExpiry c dt)) ∧
    (∀ q n v dt, 65536 ≤ q → no (.packetDecode q) ∧ no (.copy q) ∧ no (.packetComplete q n) ∧ no (.strDbTail 0 q v) ∧
      no (.periodStart q dt)) ∧
    (∀ fn p v, 8 < fn ∨ 8 ≤ p → no (.mapWrite fn p) ∧ no (.queueEnable fn p) ∧ no (.fenceSignal fn p) ∧
      no (.fltTailWrite fn p v)) ∧
    (∀ fn off size v ep, 8 < fn ∨ 2 ^ 26 < off + size → no (.registerWrite fn off size v ep)) ∧
    (∀ home line req, 20 ≤ home ∨ 20 < req → no (.rds home line req) ∧ no (.putm home line req 0)) ∧
    (∀ agent line, 20 < agent → no (.inv agent line 0) ∧ no (.recall agent line)) ∧
    (∀ port, s.nPorts ≤ port → no (.flitSend port) ∧ no (.laneLockLoss port) ∧ no (.cableMate port true)) ∧
    (s.boot.off = false → ∀ handle ctx obj dt, no (.collTimeout (8192 + handle) dt) ∧ no (.contextDefunct (4096 + ctx) dt) ∧
      no (.mobjRelease (2 ^ 20 + obj))) ∧
    (∀ fn v, 8 < fn → no (.d3hotEntry fn) ∧ no (.vfFlr fn) ∧ no (.bar4Write fn 0 [] false) ∧ no (.freeze fn) ∧
      no (.msixUnmask fn v))

/-! ### Number formats (chapter 02) -/

/-- R30 to R33, R42 to R44: an encoding of a finite value converts to itself in every mode. A finite value within the range
of a format converts, to nearest, to a nearest encoding, a tie to the even one; toward zero, to the largest magnitude not
above its own; stochastically, to the magnitude below or above it, above exactly where the fraction exceeds the draw. NaN,
infinities and values beyond the range give what R43 states, and a float result keeps the sign of the value. -/
def Obligations.NumberFormats : Prop :=
  let canonical : Fmt → Nat
    | .fp32 => 0x7FC00000 | .bf16 => 0x7FC0 | .fp16 => 0x7E00 | .e4m3 => 0x7F | .e5m2 => 0x7E | _ => 0
  let largest : Fmt → Rat
    | .fp32 => (2 ^ 24 - 1) * 2 ^ 104 | .bf16 => (2 ^ 8 - 1) * 2 ^ 120 | .fp16 => 65504 | .e4m3 => 448 | .e5m2 => 57344
    | .int8 => 127 | .e3m2 => 28 | .e2m3 => 15 / 2 | .e2m1 => 6 | .int4 => 7 | .t2 => 1
  let spacing : Fmt → Rat
    | .fp32 => 2 ^ 104 | .bf16 => 2 ^ 120 | .fp16 => 32 | .e4m3 => 32 | .e5m2 => 8192
    | .e3m2 => 4 | .e2m3 => 1 / 2 | .e2m1 => 2 | _ => 1
  let value : Machine.Num → Rat
    | .fin s n d => (if s then -1 else 1) * (n : Rat) / (d : Rat)
    | _ => 0
  let dist (x y : Rat) : Rat := (x - y).abs
  ∀ f : Fmt, f ≠ .t2 →
    let finite (w : Nat) : Prop := w < 2 ^ fmtWidth f ∧ (decodeElem f w).nonfinite = false
    let mag (w : Nat) : Rat := (value (decodeElem f w)).abs
    let top (w : Nat) (neg : Bool) : Prop := finite w ∧
      value (decodeElem f w) = if fmtIsInt f ∧ neg then -largest f - 1 else (if neg then -1 else 1) * largest f
    let infinite (w : Nat) (neg : Bool) : Prop := decodeElem f w = .inf neg
    (∀ w r, finite w → (convertTo f r (decodeElem f w)).1 = w) ∧
    (∀ r, convertTo f r .nan = (canonical f, .nonfinite)) ∧
    (∀ r neg, (convertTo f r (.inf neg)).2 = .nonfinite ∧
      if fmtHasInf f then infinite (convertTo f r (.inf neg)).1 neg else top (convertTo f r (.inf neg)).1 neg) ∧
    (∀ (neg : Bool) (n d : Nat), 0 < d →
      let x := Machine.Num.fin neg n d
      let size : Rat := (n : Rat) / (d : Rat)
      let near := (convertTo f .rne x).1
      let low := (convertTo f .rtz x).1
      (fmtIsInt f = false → ∀ r, bitOf (convertTo f r x).1 (fmtWidth f - 1) = neg) ∧
      (size ≤ largest f → finite near ∧ ∀ w, finite w →
        dist (value (decodeElem f near)) (value x) ≤ dist (value (decodeElem f w)) (value x) ∧
        (dist (value (decodeElem f near)) (value x) = dist (value (decodeElem f w)) (value x) →
          value (decodeElem f near) ≠ value (decodeElem f w) → near % 2 = 0)) ∧
      (finite low ∧ mag low ≤ size ∧ ∀ w, finite w → 0 ≤ value (decodeElem f w) * value x → mag w ≤ size →
        mag w ≤ mag low) ∧
      (∀ u h, u < 2 ^ 16 → size < largest f → finite h → mag low < mag h →
        (∀ w, finite w → mag low < mag w → mag h ≤ mag w) →
        let drawn := (convertTo f (.sr u) x).1
        finite drawn ∧ mag drawn = if (u : Rat) + 1 ≤ (size - mag low) / (mag h - mag low) * 65536 then mag h else mag low) ∧
      (largest f + spacing f ≤ size →
        let beyond (r : Rnd) : Prop := top (convertTo f r x).1 neg ∧ (convertTo f r x).2 = .sat
        beyond .rtz ∧ (fmtHasInf f = false → beyond .rne ∧ ∀ u, u < 2 ^ 16 → beyond (.sr u)) ∧
        (fmtHasInf f = true → ∀ u, u < 2 ^ 16 → infinite (convertTo f (.sr u) x).1 neg)) ∧
      (largest f ≤ size → size < largest f + spacing f → ∀ u, u < 2 ^ 16 →
        let drawn := (convertTo f (.sr u) x).1
        if (u : Rat) + 1 ≤ (size - largest f) / spacing f * 65536 then
          (if fmtHasInf f then infinite drawn neg else top drawn neg)
        else finite drawn ∧ mag drawn = largest f) ∧
      (fmtHasInf f = true → (largest f < size → size < largest f + spacing f / 2 →
          finite near ∧ mag near = largest f) ∧
        (largest f + spacing f / 2 ≤ size → infinite near neg)))
end

