-- ==== Sys2Proof/Laws/Tab.lean ====
section
/-! SUPPORT. Laws of sparse tables and memories: reads after writes, and the canonical form every operation keeps. -/

namespace Sys2Proof

variable {α : Type}

@[simp] theorem Tab.get_nil (d : α) (k : Nat) : Tab.get d [] k = d := rfl

theorem Tab.get_put (d : α) (t : Tab α) (k j : Nat) (v : α) :
    Tab.get d (Tab.put t k v) j = if k = j then v else Tab.get d t j := by
  induction t with
  | nil => simp [Tab.put, Tab.get]
  | cons p t ih =>
    obtain ⟨a, w⟩ := p
    unfold Tab.put
    split
    · simp [Tab.get]
    · split
      · subst_vars; by_cases h : a = j <;> simp [Tab.get, h]
      · rename_i h1 h2
        simp only [Tab.get, ih]
        by_cases h : a = j
        · have : k ≠ j := fun e => h2 (e.trans h.symm)
          simp [h, this]
        · simp [h]

theorem Tab.get_del (d : α) (t : Tab α) (k j : Nat) :
    Tab.get d (Tab.del t k) j = if k = j then d else Tab.get d t j := by
  induction t with
  | nil => simp [Tab.del, Tab.get]
  | cons p t ih =>
    obtain ⟨a, w⟩ := p
    unfold Tab.del at ih ⊢
    by_cases h : a = k
    · subst h; simp only [ne_eq, not_true_eq_false, decide_false, Bool.false_eq_true, not_false_eq_true,
        List.filter_cons_of_neg, ih, Tab.get]
      by_cases e : a = j <;> simp [e]
    · simp only [ne_eq, h, not_false_eq_true, decide_true, List.filter_cons_of_pos, Tab.get, ih]
      by_cases e : a = j
      · have : k ≠ j := fun x => h (e.trans x.symm)
        simp [e, this]
      · simp [e]

theorem Tab.get_set [DecidableEq α] (d : α) (t : Tab α) (k j : Nat) (v : α) :
    Tab.get d (Tab.set d t k v) j = if k = j then v else Tab.get d t j := by
  unfold Tab.set
  split
  · rename_i h; rw [Tab.get_del, h]
  · exact Tab.get_put d t k j v

@[simp] theorem Tab.get_set_self [DecidableEq α] (d : α) (t : Tab α) (k : Nat) (v : α) :
    Tab.get d (Tab.set d t k v) k = v := by simp [Tab.get_set]

theorem Tab.get_set_other [DecidableEq α] (d e : α) (t : Tab α) {k j : Nat} (v : α) (h : k ≠ j) :
    Tab.get e (Tab.set d t k v) j = Tab.get e t j := by
  unfold Tab.set
  split
  · simp [Tab.get_del, h]
  · simp [Tab.get_put, h]

theorem Tab.look_nil (k : Nat) : Tab.look ([] : Tab α) k = none := rfl

theorem Tab.look_cons (a : Nat) (w : α) (t : Tab α) (k : Nat) :
    Tab.look ((a, w) :: t) k = if a = k then some w else Tab.look t k := by
  unfold Tab.look
  by_cases h : a = k <;> simp [List.find?, h]

theorem Tab.look_put (t : Tab α) (k j : Nat) (v : α) :
    Tab.look (Tab.put t k v) j = if k = j then some v else Tab.look t j := by
  induction t with
  | nil => simp [Tab.put, Tab.look_cons]
  | cons p t ih =>
    obtain ⟨a, w⟩ := p
    unfold Tab.put
    split
    · simp [Tab.look_cons]
    · split
      · subst_vars; by_cases h : a = j <;> simp [Tab.look_cons, h]
      · rename_i h1 h2
        simp only [Tab.look_cons, ih]
        by_cases h : a = j
        · have : k ≠ j := fun e => h2 (e.trans h.symm)
          simp [h, this]
        · simp [h]

@[simp] theorem Tab.look_put_self (t : Tab α) (k : Nat) (v : α) : Tab.look (Tab.put t k v) k = some v := by
  simp [Tab.look_put]

theorem Tab.look_del (t : Tab α) (k j : Nat) :
    Tab.look (Tab.del t k) j = if k = j then none else Tab.look t j := by
  induction t with
  | nil => simp [Tab.del, Tab.look]
  | cons p t ih =>
    obtain ⟨a, w⟩ := p
    unfold Tab.del at ih ⊢
    by_cases h : a = k
    · subst h; simp only [ne_eq, not_true_eq_false, decide_false, Bool.false_eq_true, not_false_eq_true,
        List.filter_cons_of_neg, ih, Tab.look_cons]
      by_cases e : a = j <;> simp [e]
    · simp only [ne_eq, h, not_false_eq_true, decide_true, List.filter_cons_of_pos, Tab.look_cons, ih]
      by_cases e : a = j
      · have : k ≠ j := fun x => h (e.trans x.symm)
        simp [e, this]
      · simp [e]

/-! ### Memory -/

theorem Mem.byte_setByte (m : Mem) (a x : Nat) (b : Byte) :
    Mem.byte (Mem.setByte m a b) x = if a = x then b else Mem.byte m x := Tab.get_set _ _ _ _ _

theorem Mem.byte_write (l : List Byte) : ∀ (m : Mem) (a x : Nat),
    Mem.byte (Mem.write m a l) x = if a ≤ x ∧ x < a + l.length then l.getD (x - a) 0#8 else Mem.byte m x := by
  induction l with
  | nil => intro m a x; have : ¬(a ≤ x ∧ x < a) := by omega
           simp [Mem.write, this]
  | cons b l ih =>
    intro m a x
    simp only [Mem.write, ih, Mem.byte_setByte, List.length_cons]
    by_cases h : a = x
    · subst h
      simp
    · by_cases h1 : a + 1 ≤ x ∧ x < a + 1 + l.length
      · have e : x - a = (x - (a + 1)) + 1 := by omega
        have h2 : a ≤ x ∧ x < a + (l.length + 1) := by omega
        simp only [h1, and_self, if_true, h2, e, List.getD_cons_succ]
      · have h2 : ¬(a ≤ x ∧ x < a + (l.length + 1)) := by omega
        simp only [h1, h2, if_false, h]

theorem Mem.byte_zero (m : Mem) (a n x : Nat) :
    Mem.byte (Mem.zero m a n) x = if a ≤ x ∧ x < a + n then 0#8 else Mem.byte m x := by
  unfold Mem.byte Mem.zero
  induction m with
  | nil => simp
  | cons p m ih =>
    obtain ⟨k, w⟩ := p
    simp only [List.filter_cons]
    split
    · rename_i h
      simp only [decide_eq_true_eq] at h
      simp only [Tab.get, ih]
      by_cases e : k = x
      · subst e
        have : ¬(a ≤ k ∧ k < a + n) := by omega
        simp [this]
      · simp [e]
    · rename_i h
      simp only [decide_eq_true_eq, not_or, Nat.not_lt, Nat.not_le] at h
      simp only [Tab.get, ih]
      by_cases e : k = x
      · subst e
        have : a ≤ k ∧ k < a + n := by omega
        simp [this]
      · simp [e]

/-! ### The canonical form -/

theorem Tab.wf_nil [DecidableEq α] (d : α) : Tab.wf d ([] : Tab α) = true := rfl

theorem Tab.wf_iff [DecidableEq α] (d : α) (t : Tab α) :
    Tab.wf d t = true ↔ t.Pairwise (fun p q => p.1 < q.1) ∧ ∀ p ∈ t, p.2 ≠ d := by
  simp [Tab.wf]

theorem Tab.mem_put {t : Tab α} {k : Nat} {v : α} {p : Nat × α} (h : p ∈ Tab.put t k v) : p = (k, v) ∨ p ∈ t := by
  induction t with
  | nil => simp [Tab.put] at h; exact .inl h
  | cons q t ih =>
    obtain ⟨a, w⟩ := q
    unfold Tab.put at h
    split at h
    · simp only [List.mem_cons] at h ⊢; exact h
    · split at h
      · simp only [List.mem_cons] at h ⊢; exact h.imp id .inr
      · simp only [List.mem_cons] at h ⊢
        rcases h with h | h
        · exact .inr (.inl h)
        · exact (ih h).imp id .inr

theorem Tab.pairwise_put {t : Tab α} (h : t.Pairwise (fun p q => p.1 < q.1)) (k : Nat) (v : α) :
    (Tab.put t k v).Pairwise (fun p q => p.1 < q.1) := by
  induction t with
  | nil => simp [Tab.put]
  | cons q t ih =>
    obtain ⟨a, w⟩ := q
    rw [List.pairwise_cons] at h
    unfold Tab.put
    split
    · rename_i hk
      rw [List.pairwise_cons]
      refine ⟨?_, List.pairwise_cons.2 h⟩
      intro p hp
      rcases List.mem_cons.1 hp with rfl | hp
      · exact hk
      · exact Nat.lt_trans hk (h.1 p hp)
    · split
      · rename_i he; subst he; exact List.pairwise_cons.2 ⟨fun p hp => h.1 p hp, h.2⟩
      · rename_i h1 h2
        rw [List.pairwise_cons]
        refine ⟨?_, ih h.2⟩
        intro p hp
        rcases Tab.mem_put hp with rfl | hp
        · show a < k
          omega
        · exact h.1 p hp

theorem Tab.wf_put [DecidableEq α] {d : α} {t : Tab α} (h : Tab.wf d t = true) (k : Nat) {v : α} (hv : v ≠ d) :
    Tab.wf d (Tab.put t k v) = true := by
  rw [Tab.wf_iff] at h ⊢
  refine ⟨Tab.pairwise_put h.1 k v, ?_⟩
  intro p hp
  rcases Tab.mem_put hp with rfl | hp
  · exact hv
  · exact h.2 p hp

theorem Tab.wf_filter [DecidableEq α] {d : α} {t : Tab α} (h : Tab.wf d t = true) (f : Nat × α → Bool) :
    Tab.wf d (t.filter f) = true := by
  rw [Tab.wf_iff] at h ⊢
  exact ⟨h.1.filter _, fun p hp => h.2 p (List.mem_of_mem_filter hp)⟩

theorem Tab.wf_set [DecidableEq α] {d : α} {t : Tab α} (h : Tab.wf d t = true) (k : Nat) (v : α) :
    Tab.wf d (Tab.set d t k v) = true := by
  unfold Tab.set
  split
  · exact Tab.wf_filter h _
  · rename_i hv; exact Tab.wf_put h k hv

theorem Mem.wf_setByte {m : Mem} (h : m.wf = true) (a : Nat) (b : Byte) : (Mem.setByte m a b).wf = true :=
  Tab.wf_set h a b

theorem Mem.wf_write (l : List Byte) : ∀ {m : Mem}, m.wf = true → ∀ a, (Mem.write m a l).wf = true := by
  induction l with
  | nil => intro m h a; exact h
  | cons b l ih => intro m h a; exact ih (Mem.wf_setByte h a b) (a + 1)

theorem Mem.wf_zero {m : Mem} (h : m.wf = true) (a n : Nat) : (Mem.zero m a n).wf = true := Tab.wf_filter h _

end Sys2Proof
end

