-- ==== Sys2Proof/Laws/State.lean ====
section
/-! SUPPORT. What each update of the state leaves: one lemma for each field of each update, and the reads of what an
update wrote. -/

namespace Sys2Proof.Machine

variable (s : State)

@[simp] theorem State.tick_units (dt : Nat) : (s.tick dt).units = s.units := rfl
@[simp] theorem State.tick_boot (dt : Nat) : (s.tick dt).boot = s.boot := rfl
@[simp] theorem State.tick_regs (dt : Nat) : (s.tick dt).regs = s.regs := rfl
@[simp] theorem State.tick_freeze (dt : Nat) : (s.tick dt).freeze = s.freeze := rfl
@[simp] theorem State.tick_dict (dt : Nat) : (s.tick dt).dict = s.dict := rfl
@[simp] theorem State.tick_power (dt : Nat) : (s.tick dt).power = s.power := rfl
@[simp] theorem State.tick_dram (dt : Nat) : (s.tick dt).dram = s.dram := rfl
@[simp] theorem State.tick_rstore (dt : Nat) : (s.tick dt).rstore = s.rstore := rfl
@[simp] theorem State.tick_pmap (dt : Nat) : (s.tick dt).pmap = s.pmap := rfl
@[simp] theorem State.tick_agents (dt : Nat) : (s.tick dt).agents = s.agents := rfl
@[simp] theorem State.tick_dirs (dt : Nat) : (s.tick dt).dirs = s.dirs := rfl
@[simp] theorem State.tick_net (dt : Nat) : (s.tick dt).net = s.net := rfl
@[simp] theorem State.tick_cores (dt : Nat) : (s.tick dt).cores = s.cores := rfl
@[simp] theorem State.tick_launches (dt : Nat) : (s.tick dt).launches = s.launches := rfl
@[simp] theorem State.tick_queues (dt : Nat) : (s.tick dt).queues = s.queues := rfl
@[simp] theorem State.tick_enq (dt : Nat) : (s.tick dt).enq = s.enq := rfl
@[simp] theorem State.tick_ctxs (dt : Nat) : (s.tick dt).ctxs = s.ctxs := rfl
@[simp] theorem State.tick_mobjs (dt : Nat) : (s.tick dt).mobjs = s.mobjs := rfl
@[simp] theorem State.tick_fences (dt : Nat) : (s.tick dt).fences = s.fences := rfl
@[simp] theorem State.tick_batons (dt : Nat) : (s.tick dt).batons = s.batons := rfl
@[simp] theorem State.tick_reqs (dt : Nat) : (s.tick dt).reqs = s.reqs := rfl
@[simp] theorem State.tick_meter (dt : Nat) : (s.tick dt).meter = s.meter := rfl
@[simp] theorem State.tick_links (dt : Nat) : (s.tick dt).links = s.links := rfl
@[simp] theorem State.tick_rings (dt : Nat) : (s.tick dt).rings = s.rings := rfl
@[simp] theorem State.tick_fatal (dt : Nat) : (s.tick dt).fatal = s.fatal := rfl
@[simp] theorem State.tick_traces (dt : Nat) : (s.tick dt).traces = s.traces := rfl
@[simp] theorem State.tick_itrace (dt : Nat) : (s.tick dt).itrace = s.itrace := rfl
@[simp] theorem State.tick_pcie (dt : Nat) : (s.tick dt).pcie = s.pcie := rfl
@[simp] theorem State.tick_mbxReq (dt : Nat) : (s.tick dt).mbxReq = s.mbxReq := rfl
@[simp] theorem State.tick_mbxRsp (dt : Nat) : (s.tick dt).mbxRsp = s.mbxRsp := rfl
@[simp] theorem State.tick_mbxSeq (dt : Nat) : (s.tick dt).mbxSeq = s.mbxSeq := rfl
@[simp] theorem State.tick_busy (dt : Nat) : (s.tick dt).busy = s.busy := rfl
@[simp] theorem State.tick_nextId (dt : Nat) : (s.tick dt).nextId = s.nextId := rfl
@[simp] theorem State.tick_freeCtr (dt : Nat) : (s.tick dt).freeCtr = s.freeCtr := rfl
@[simp] theorem State.tick_out (dt : Nat) : (s.tick dt).out = s.out := rfl
@[simp] theorem State.tick_pending (dt : Nat) : (s.tick dt).pending = s.pending := rfl

@[simp] theorem State.useFree_units (n : Nat) : (s.useFree n).units = s.units := rfl
@[simp] theorem State.useFree_boot (n : Nat) : (s.useFree n).boot = s.boot := rfl
@[simp] theorem State.useFree_time (n : Nat) : (s.useFree n).time = s.time := rfl
@[simp] theorem State.useFree_regs (n : Nat) : (s.useFree n).regs = s.regs := rfl
@[simp] theorem State.useFree_freeze (n : Nat) : (s.useFree n).freeze = s.freeze := rfl
@[simp] theorem State.useFree_dict (n : Nat) : (s.useFree n).dict = s.dict := rfl
@[simp] theorem State.useFree_power (n : Nat) : (s.useFree n).power = s.power := rfl
@[simp] theorem State.useFree_dram (n : Nat) : (s.useFree n).dram = s.dram := rfl
@[simp] theorem State.useFree_rstore (n : Nat) : (s.useFree n).rstore = s.rstore := rfl
@[simp] theorem State.useFree_pmap (n : Nat) : (s.useFree n).pmap = s.pmap := rfl
@[simp] theorem State.useFree_agents (n : Nat) : (s.useFree n).agents = s.agents := rfl
@[simp] theorem State.useFree_dirs (n : Nat) : (s.useFree n).dirs = s.dirs := rfl
@[simp] theorem State.useFree_net (n : Nat) : (s.useFree n).net = s.net := rfl
@[simp] theorem State.useFree_cores (n : Nat) : (s.useFree n).cores = s.cores := rfl
@[simp] theorem State.useFree_launches (n : Nat) : (s.useFree n).launches = s.launches := rfl
@[simp] theorem State.useFree_queues (n : Nat) : (s.useFree n).queues = s.queues := rfl
@[simp] theorem State.useFree_enq (n : Nat) : (s.useFree n).enq = s.enq := rfl
@[simp] theorem State.useFree_ctxs (n : Nat) : (s.useFree n).ctxs = s.ctxs := rfl
@[simp] theorem State.useFree_mobjs (n : Nat) : (s.useFree n).mobjs = s.mobjs := rfl
@[simp] theorem State.useFree_fences (n : Nat) : (s.useFree n).fences = s.fences := rfl
@[simp] theorem State.useFree_batons (n : Nat) : (s.useFree n).batons = s.batons := rfl
@[simp] theorem State.useFree_reqs (n : Nat) : (s.useFree n).reqs = s.reqs := rfl
@[simp] theorem State.useFree_meter (n : Nat) : (s.useFree n).meter = s.meter := rfl
@[simp] theorem State.useFree_links (n : Nat) : (s.useFree n).links = s.links := rfl
@[simp] theorem State.useFree_rings (n : Nat) : (s.useFree n).rings = s.rings := rfl
@[simp] theorem State.useFree_fatal (n : Nat) : (s.useFree n).fatal = s.fatal := rfl
@[simp] theorem State.useFree_traces (n : Nat) : (s.useFree n).traces = s.traces := rfl
@[simp] theorem State.useFree_itrace (n : Nat) : (s.useFree n).itrace = s.itrace := rfl
@[simp] theorem State.useFree_pcie (n : Nat) : (s.useFree n).pcie = s.pcie := rfl
@[simp] theorem State.useFree_mbxReq (n : Nat) : (s.useFree n).mbxReq = s.mbxReq := rfl
@[simp] theorem State.useFree_mbxRsp (n : Nat) : (s.useFree n).mbxRsp = s.mbxRsp := rfl
@[simp] theorem State.useFree_mbxSeq (n : Nat) : (s.useFree n).mbxSeq = s.mbxSeq := rfl
@[simp] theorem State.useFree_busy (n : Nat) : (s.useFree n).busy = s.busy := rfl
@[simp] theorem State.useFree_nextId (n : Nat) : (s.useFree n).nextId = s.nextId := rfl
@[simp] theorem State.useFree_out (n : Nat) : (s.useFree n).out = s.out := rfl
@[simp] theorem State.useFree_pending (n : Nat) : (s.useFree n).pending = s.pending := rfl

@[simp] theorem State.useId_units : (s.useId).units = s.units := rfl
@[simp] theorem State.useId_boot : (s.useId).boot = s.boot := rfl
@[simp] theorem State.useId_time : (s.useId).time = s.time := rfl
@[simp] theorem State.useId_regs : (s.useId).regs = s.regs := rfl
@[simp] theorem State.useId_freeze : (s.useId).freeze = s.freeze := rfl
@[simp] theorem State.useId_dict : (s.useId).dict = s.dict := rfl
@[simp] theorem State.useId_power : (s.useId).power = s.power := rfl
@[simp] theorem State.useId_dram : (s.useId).dram = s.dram := rfl
@[simp] theorem State.useId_rstore : (s.useId).rstore = s.rstore := rfl
@[simp] theorem State.useId_pmap : (s.useId).pmap = s.pmap := rfl
@[simp] theorem State.useId_agents : (s.useId).agents = s.agents := rfl
@[simp] theorem State.useId_dirs : (s.useId).dirs = s.dirs := rfl
@[simp] theorem State.useId_net : (s.useId).net = s.net := rfl
@[simp] theorem State.useId_cores : (s.useId).cores = s.cores := rfl
@[simp] theorem State.useId_launches : (s.useId).launches = s.launches := rfl
@[simp] theorem State.useId_queues : (s.useId).queues = s.queues := rfl
@[simp] theorem State.useId_enq : (s.useId).enq = s.enq := rfl
@[simp] theorem State.useId_ctxs : (s.useId).ctxs = s.ctxs := rfl
@[simp] theorem State.useId_mobjs : (s.useId).mobjs = s.mobjs := rfl
@[simp] theorem State.useId_fences : (s.useId).fences = s.fences := rfl
@[simp] theorem State.useId_batons : (s.useId).batons = s.batons := rfl
@[simp] theorem State.useId_reqs : (s.useId).reqs = s.reqs := rfl
@[simp] theorem State.useId_meter : (s.useId).meter = s.meter := rfl
@[simp] theorem State.useId_links : (s.useId).links = s.links := rfl
@[simp] theorem State.useId_rings : (s.useId).rings = s.rings := rfl
@[simp] theorem State.useId_fatal : (s.useId).fatal = s.fatal := rfl
@[simp] theorem State.useId_traces : (s.useId).traces = s.traces := rfl
@[simp] theorem State.useId_itrace : (s.useId).itrace = s.itrace := rfl
@[simp] theorem State.useId_pcie : (s.useId).pcie = s.pcie := rfl
@[simp] theorem State.useId_mbxReq : (s.useId).mbxReq = s.mbxReq := rfl
@[simp] theorem State.useId_mbxRsp : (s.useId).mbxRsp = s.mbxRsp := rfl
@[simp] theorem State.useId_mbxSeq : (s.useId).mbxSeq = s.mbxSeq := rfl
@[simp] theorem State.useId_busy : (s.useId).busy = s.busy := rfl
@[simp] theorem State.useId_freeCtr : (s.useId).freeCtr = s.freeCtr := rfl
@[simp] theorem State.useId_out : (s.useId).out = s.out := rfl
@[simp] theorem State.useId_pending : (s.useId).pending = s.pending := rfl

@[simp] theorem State.emit_units (o : Out) : (s.emit o).units = s.units := rfl
@[simp] theorem State.emit_boot (o : Out) : (s.emit o).boot = s.boot := rfl
@[simp] theorem State.emit_time (o : Out) : (s.emit o).time = s.time := rfl
@[simp] theorem State.emit_regs (o : Out) : (s.emit o).regs = s.regs := rfl
@[simp] theorem State.emit_freeze (o : Out) : (s.emit o).freeze = s.freeze := rfl
@[simp] theorem State.emit_dict (o : Out) : (s.emit o).dict = s.dict := rfl
@[simp] theorem State.emit_power (o : Out) : (s.emit o).power = s.power := rfl
@[simp] theorem State.emit_dram (o : Out) : (s.emit o).dram = s.dram := rfl
@[simp] theorem State.emit_rstore (o : Out) : (s.emit o).rstore = s.rstore := rfl
@[simp] theorem State.emit_pmap (o : Out) : (s.emit o).pmap = s.pmap := rfl
@[simp] theorem State.emit_agents (o : Out) : (s.emit o).agents = s.agents := rfl
@[simp] theorem State.emit_dirs (o : Out) : (s.emit o).dirs = s.dirs := rfl
@[simp] theorem State.emit_net (o : Out) : (s.emit o).net = s.net := rfl
@[simp] theorem State.emit_cores (o : Out) : (s.emit o).cores = s.cores := rfl
@[simp] theorem State.emit_launches (o : Out) : (s.emit o).launches = s.launches := rfl
@[simp] theorem State.emit_queues (o : Out) : (s.emit o).queues = s.queues := rfl
@[simp] theorem State.emit_enq (o : Out) : (s.emit o).enq = s.enq := rfl
@[simp] theorem State.emit_ctxs (o : Out) : (s.emit o).ctxs = s.ctxs := rfl
@[simp] theorem State.emit_mobjs (o : Out) : (s.emit o).mobjs = s.mobjs := rfl
@[simp] theorem State.emit_fences (o : Out) : (s.emit o).fences = s.fences := rfl
@[simp] theorem State.emit_batons (o : Out) : (s.emit o).batons = s.batons := rfl
@[simp] theorem State.emit_reqs (o : Out) : (s.emit o).reqs = s.reqs := rfl
@[simp] theorem State.emit_meter (o : Out) : (s.emit o).meter = s.meter := rfl
@[simp] theorem State.emit_links (o : Out) : (s.emit o).links = s.links := rfl
@[simp] theorem State.emit_rings (o : Out) : (s.emit o).rings = s.rings := rfl
@[simp] theorem State.emit_fatal (o : Out) : (s.emit o).fatal = s.fatal := rfl
@[simp] theorem State.emit_traces (o : Out) : (s.emit o).traces = s.traces := rfl
@[simp] theorem State.emit_itrace (o : Out) : (s.emit o).itrace = s.itrace := rfl
@[simp] theorem State.emit_pcie (o : Out) : (s.emit o).pcie = s.pcie := rfl
@[simp] theorem State.emit_mbxReq (o : Out) : (s.emit o).mbxReq = s.mbxReq := rfl
@[simp] theorem State.emit_mbxRsp (o : Out) : (s.emit o).mbxRsp = s.mbxRsp := rfl
@[simp] theorem State.emit_mbxSeq (o : Out) : (s.emit o).mbxSeq = s.mbxSeq := rfl
@[simp] theorem State.emit_busy (o : Out) : (s.emit o).busy = s.busy := rfl
@[simp] theorem State.emit_nextId (o : Out) : (s.emit o).nextId = s.nextId := rfl
@[simp] theorem State.emit_freeCtr (o : Out) : (s.emit o).freeCtr = s.freeCtr := rfl
@[simp] theorem State.emit_pending (o : Out) : (s.emit o).pending = s.pending := rfl

@[simp] theorem State.setReg_units (o v : Nat) : (s.setReg o v).units = s.units := rfl
@[simp] theorem State.setReg_boot (o v : Nat) : (s.setReg o v).boot = s.boot := rfl
@[simp] theorem State.setReg_time (o v : Nat) : (s.setReg o v).time = s.time := rfl
@[simp] theorem State.setReg_freeze (o v : Nat) : (s.setReg o v).freeze = s.freeze := rfl
@[simp] theorem State.setReg_dict (o v : Nat) : (s.setReg o v).dict = s.dict := rfl
@[simp] theorem State.setReg_power (o v : Nat) : (s.setReg o v).power = s.power := rfl
@[simp] theorem State.setReg_dram (o v : Nat) : (s.setReg o v).dram = s.dram := rfl
@[simp] theorem State.setReg_rstore (o v : Nat) : (s.setReg o v).rstore = s.rstore := rfl
@[simp] theorem State.setReg_pmap (o v : Nat) : (s.setReg o v).pmap = s.pmap := rfl
@[simp] theorem State.setReg_agents (o v : Nat) : (s.setReg o v).agents = s.agents := rfl
@[simp] theorem State.setReg_dirs (o v : Nat) : (s.setReg o v).dirs = s.dirs := rfl
@[simp] theorem State.setReg_net (o v : Nat) : (s.setReg o v).net = s.net := rfl
@[simp] theorem State.setReg_cores (o v : Nat) : (s.setReg o v).cores = s.cores := rfl
@[simp] theorem State.setReg_launches (o v : Nat) : (s.setReg o v).launches = s.launches := rfl
@[simp] theorem State.setReg_queues (o v : Nat) : (s.setReg o v).queues = s.queues := rfl
@[simp] theorem State.setReg_enq (o v : Nat) : (s.setReg o v).enq = s.enq := rfl
@[simp] theorem State.setReg_ctxs (o v : Nat) : (s.setReg o v).ctxs = s.ctxs := rfl
@[simp] theorem State.setReg_mobjs (o v : Nat) : (s.setReg o v).mobjs = s.mobjs := rfl
@[simp] theorem State.setReg_fences (o v : Nat) : (s.setReg o v).fences = s.fences := rfl
@[simp] theorem State.setReg_batons (o v : Nat) : (s.setReg o v).batons = s.batons := rfl
@[simp] theorem State.setReg_reqs (o v : Nat) : (s.setReg o v).reqs = s.reqs := rfl
@[simp] theorem State.setReg_meter (o v : Nat) : (s.setReg o v).meter = s.meter := rfl
@[simp] theorem State.setReg_links (o v : Nat) : (s.setReg o v).links = s.links := rfl
@[simp] theorem State.setReg_rings (o v : Nat) : (s.setReg o v).rings = s.rings := rfl
@[simp] theorem State.setReg_fatal (o v : Nat) : (s.setReg o v).fatal = s.fatal := rfl
@[simp] theorem State.setReg_traces (o v : Nat) : (s.setReg o v).traces = s.traces := rfl
@[simp] theorem State.setReg_itrace (o v : Nat) : (s.setReg o v).itrace = s.itrace := rfl
@[simp] theorem State.setReg_pcie (o v : Nat) : (s.setReg o v).pcie = s.pcie := rfl
@[simp] theorem State.setReg_mbxReq (o v : Nat) : (s.setReg o v).mbxReq = s.mbxReq := rfl
@[simp] theorem State.setReg_mbxRsp (o v : Nat) : (s.setReg o v).mbxRsp = s.mbxRsp := rfl
@[simp] theorem State.setReg_mbxSeq (o v : Nat) : (s.setReg o v).mbxSeq = s.mbxSeq := rfl
@[simp] theorem State.setReg_busy (o v : Nat) : (s.setReg o v).busy = s.busy := rfl
@[simp] theorem State.setReg_nextId (o v : Nat) : (s.setReg o v).nextId = s.nextId := rfl
@[simp] theorem State.setReg_freeCtr (o v : Nat) : (s.setReg o v).freeCtr = s.freeCtr := rfl
@[simp] theorem State.setReg_out (o v : Nat) : (s.setReg o v).out = s.out := rfl
@[simp] theorem State.setReg_pending (o v : Nat) : (s.setReg o v).pending = s.pending := rfl

@[simp] theorem State.setPfn_units (n : Nat) (x : PFn) : (s.setPfn n x).units = s.units := rfl
@[simp] theorem State.setPfn_boot (n : Nat) (x : PFn) : (s.setPfn n x).boot = s.boot := rfl
@[simp] theorem State.setPfn_time (n : Nat) (x : PFn) : (s.setPfn n x).time = s.time := rfl
@[simp] theorem State.setPfn_regs (n : Nat) (x : PFn) : (s.setPfn n x).regs = s.regs := rfl
@[simp] theorem State.setPfn_freeze (n : Nat) (x : PFn) : (s.setPfn n x).freeze = s.freeze := rfl
@[simp] theorem State.setPfn_dict (n : Nat) (x : PFn) : (s.setPfn n x).dict = s.dict := rfl
@[simp] theorem State.setPfn_power (n : Nat) (x : PFn) : (s.setPfn n x).power = s.power := rfl
@[simp] theorem State.setPfn_dram (n : Nat) (x : PFn) : (s.setPfn n x).dram = s.dram := rfl
@[simp] theorem State.setPfn_rstore (n : Nat) (x : PFn) : (s.setPfn n x).rstore = s.rstore := rfl
@[simp] theorem State.setPfn_pmap (n : Nat) (x : PFn) : (s.setPfn n x).pmap = s.pmap := rfl
@[simp] theorem State.setPfn_agents (n : Nat) (x : PFn) : (s.setPfn n x).agents = s.agents := rfl
@[simp] theorem State.setPfn_dirs (n : Nat) (x : PFn) : (s.setPfn n x).dirs = s.dirs := rfl
@[simp] theorem State.setPfn_net (n : Nat) (x : PFn) : (s.setPfn n x).net = s.net := rfl
@[simp] theorem State.setPfn_cores (n : Nat) (x : PFn) : (s.setPfn n x).cores = s.cores := rfl
@[simp] theorem State.setPfn_launches (n : Nat) (x : PFn) : (s.setPfn n x).launches = s.launches := rfl
@[simp] theorem State.setPfn_queues (n : Nat) (x : PFn) : (s.setPfn n x).queues = s.queues := rfl
@[simp] theorem State.setPfn_enq (n : Nat) (x : PFn) : (s.setPfn n x).enq = s.enq := rfl
@[simp] theorem State.setPfn_ctxs (n : Nat) (x : PFn) : (s.setPfn n x).ctxs = s.ctxs := rfl
@[simp] theorem State.setPfn_mobjs (n : Nat) (x : PFn) : (s.setPfn n x).mobjs = s.mobjs := rfl
@[simp] theorem State.setPfn_fences (n : Nat) (x : PFn) : (s.setPfn n x).fences = s.fences := rfl
@[simp] theorem State.setPfn_batons (n : Nat) (x : PFn) : (s.setPfn n x).batons = s.batons := rfl
@[simp] theorem State.setPfn_reqs (n : Nat) (x : PFn) : (s.setPfn n x).reqs = s.reqs := rfl
@[simp] theorem State.setPfn_meter (n : Nat) (x : PFn) : (s.setPfn n x).meter = s.meter := rfl
@[simp] theorem State.setPfn_links (n : Nat) (x : PFn) : (s.setPfn n x).links = s.links := rfl
@[simp] theorem State.setPfn_rings (n : Nat) (x : PFn) : (s.setPfn n x).rings = s.rings := rfl
@[simp] theorem State.setPfn_fatal (n : Nat) (x : PFn) : (s.setPfn n x).fatal = s.fatal := rfl
@[simp] theorem State.setPfn_traces (n : Nat) (x : PFn) : (s.setPfn n x).traces = s.traces := rfl
@[simp] theorem State.setPfn_itrace (n : Nat) (x : PFn) : (s.setPfn n x).itrace = s.itrace := rfl
@[simp] theorem State.setPfn_mbxReq (n : Nat) (x : PFn) : (s.setPfn n x).mbxReq = s.mbxReq := rfl
@[simp] theorem State.setPfn_mbxRsp (n : Nat) (x : PFn) : (s.setPfn n x).mbxRsp = s.mbxRsp := rfl
@[simp] theorem State.setPfn_mbxSeq (n : Nat) (x : PFn) : (s.setPfn n x).mbxSeq = s.mbxSeq := rfl
@[simp] theorem State.setPfn_busy (n : Nat) (x : PFn) : (s.setPfn n x).busy = s.busy := rfl
@[simp] theorem State.setPfn_nextId (n : Nat) (x : PFn) : (s.setPfn n x).nextId = s.nextId := rfl
@[simp] theorem State.setPfn_freeCtr (n : Nat) (x : PFn) : (s.setPfn n x).freeCtr = s.freeCtr := rfl
@[simp] theorem State.setPfn_out (n : Nat) (x : PFn) : (s.setPfn n x).out = s.out := rfl
@[simp] theorem State.setPfn_pending (n : Nat) (x : PFn) : (s.setPfn n x).pending = s.pending := rfl

@[simp] theorem State.setCore_units (n : Nat) (x : Core) : (s.setCore n x).units = s.units := rfl
@[simp] theorem State.setCore_boot (n : Nat) (x : Core) : (s.setCore n x).boot = s.boot := rfl
@[simp] theorem State.setCore_time (n : Nat) (x : Core) : (s.setCore n x).time = s.time := rfl
@[simp] theorem State.setCore_regs (n : Nat) (x : Core) : (s.setCore n x).regs = s.regs := rfl
@[simp] theorem State.setCore_freeze (n : Nat) (x : Core) : (s.setCore n x).freeze = s.freeze := rfl
@[simp] theorem State.setCore_dict (n : Nat) (x : Core) : (s.setCore n x).dict = s.dict := rfl
@[simp] theorem State.setCore_power (n : Nat) (x : Core) : (s.setCore n x).power = s.power := rfl
@[simp] theorem State.setCore_dram (n : Nat) (x : Core) : (s.setCore n x).dram = s.dram := rfl
@[simp] theorem State.setCore_rstore (n : Nat) (x : Core) : (s.setCore n x).rstore = s.rstore := rfl
@[simp] theorem State.setCore_pmap (n : Nat) (x : Core) : (s.setCore n x).pmap = s.pmap := rfl
@[simp] theorem State.setCore_agents (n : Nat) (x : Core) : (s.setCore n x).agents = s.agents := rfl
@[simp] theorem State.setCore_dirs (n : Nat) (x : Core) : (s.setCore n x).dirs = s.dirs := rfl
@[simp] theorem State.setCore_net (n : Nat) (x : Core) : (s.setCore n x).net = s.net := rfl
@[simp] theorem State.setCore_launches (n : Nat) (x : Core) : (s.setCore n x).launches = s.launches := rfl
@[simp] theorem State.setCore_queues (n : Nat) (x : Core) : (s.setCore n x).queues = s.queues := rfl
@[simp] theorem State.setCore_enq (n : Nat) (x : Core) : (s.setCore n x).enq = s.enq := rfl
@[simp] theorem State.setCore_ctxs (n : Nat) (x : Core) : (s.setCore n x).ctxs = s.ctxs := rfl
@[simp] theorem State.setCore_mobjs (n : Nat) (x : Core) : (s.setCore n x).mobjs = s.mobjs := rfl
@[simp] theorem State.setCore_fences (n : Nat) (x : Core) : (s.setCore n x).fences = s.fences := rfl
@[simp] theorem State.setCore_batons (n : Nat) (x : Core) : (s.setCore n x).batons = s.batons := rfl
@[simp] theorem State.setCore_reqs (n : Nat) (x : Core) : (s.setCore n x).reqs = s.reqs := rfl
@[simp] theorem State.setCore_meter (n : Nat) (x : Core) : (s.setCore n x).meter = s.meter := rfl
@[simp] theorem State.setCore_links (n : Nat) (x : Core) : (s.setCore n x).links = s.links := rfl
@[simp] theorem State.setCore_rings (n : Nat) (x : Core) : (s.setCore n x).rings = s.rings := rfl
@[simp] theorem State.setCore_fatal (n : Nat) (x : Core) : (s.setCore n x).fatal = s.fatal := rfl
@[simp] theorem State.setCore_traces (n : Nat) (x : Core) : (s.setCore n x).traces = s.traces := rfl
@[simp] theorem State.setCore_itrace (n : Nat) (x : Core) : (s.setCore n x).itrace = s.itrace := rfl
@[simp] theorem State.setCore_pcie (n : Nat) (x : Core) : (s.setCore n x).pcie = s.pcie := rfl
@[simp] theorem State.setCore_mbxReq (n : Nat) (x : Core) : (s.setCore n x).mbxReq = s.mbxReq := rfl
@[simp] theorem State.setCore_mbxRsp (n : Nat) (x : Core) : (s.setCore n x).mbxRsp = s.mbxRsp := rfl
@[simp] theorem State.setCore_mbxSeq (n : Nat) (x : Core) : (s.setCore n x).mbxSeq = s.mbxSeq := rfl
@[simp] theorem State.setCore_busy (n : Nat) (x : Core) : (s.setCore n x).busy = s.busy := rfl
@[simp] theorem State.setCore_nextId (n : Nat) (x : Core) : (s.setCore n x).nextId = s.nextId := rfl
@[simp] theorem State.setCore_freeCtr (n : Nat) (x : Core) : (s.setCore n x).freeCtr = s.freeCtr := rfl
@[simp] theorem State.setCore_out (n : Nat) (x : Core) : (s.setCore n x).out = s.out := rfl
@[simp] theorem State.setCore_pending (n : Nat) (x : Core) : (s.setCore n x).pending = s.pending := rfl

@[simp] theorem State.setAgent_units (n : Nat) (x : Agent) : (s.setAgent n x).units = s.units := rfl
@[simp] theorem State.setAgent_boot (n : Nat) (x : Agent) : (s.setAgent n x).boot = s.boot := rfl
@[simp] theorem State.setAgent_time (n : Nat) (x : Agent) : (s.setAgent n x).time = s.time := rfl
@[simp] theorem State.setAgent_regs (n : Nat) (x : Agent) : (s.setAgent n x).regs = s.regs := rfl
@[simp] theorem State.setAgent_freeze (n : Nat) (x : Agent) : (s.setAgent n x).freeze = s.freeze := rfl
@[simp] theorem State.setAgent_dict (n : Nat) (x : Agent) : (s.setAgent n x).dict = s.dict := rfl
@[simp] theorem State.setAgent_power (n : Nat) (x : Agent) : (s.setAgent n x).power = s.power := rfl
@[simp] theorem State.setAgent_dram (n : Nat) (x : Agent) : (s.setAgent n x).dram = s.dram := rfl
@[simp] theorem State.setAgent_rstore (n : Nat) (x : Agent) : (s.setAgent n x).rstore = s.rstore := rfl
@[simp] theorem State.setAgent_pmap (n : Nat) (x : Agent) : (s.setAgent n x).pmap = s.pmap := rfl
@[simp] theorem State.setAgent_dirs (n : Nat) (x : Agent) : (s.setAgent n x).dirs = s.dirs := rfl
@[simp] theorem State.setAgent_net (n : Nat) (x : Agent) : (s.setAgent n x).net = s.net := rfl
@[simp] theorem State.setAgent_cores (n : Nat) (x : Agent) : (s.setAgent n x).cores = s.cores := rfl
@[simp] theorem State.setAgent_launches (n : Nat) (x : Agent) : (s.setAgent n x).launches = s.launches := rfl
@[simp] theorem State.setAgent_queues (n : Nat) (x : Agent) : (s.setAgent n x).queues = s.queues := rfl
@[simp] theorem State.setAgent_enq (n : Nat) (x : Agent) : (s.setAgent n x).enq = s.enq := rfl
@[simp] theorem State.setAgent_ctxs (n : Nat) (x : Agent) : (s.setAgent n x).ctxs = s.ctxs := rfl
@[simp] theorem State.setAgent_mobjs (n : Nat) (x : Agent) : (s.setAgent n x).mobjs = s.mobjs := rfl
@[simp] theorem State.setAgent_fences (n : Nat) (x : Agent) : (s.setAgent n x).fences = s.fences := rfl
@[simp] theorem State.setAgent_batons (n : Nat) (x : Agent) : (s.setAgent n x).batons = s.batons := rfl
@[simp] theorem State.setAgent_reqs (n : Nat) (x : Agent) : (s.setAgent n x).reqs = s.reqs := rfl
@[simp] theorem State.setAgent_meter (n : Nat) (x : Agent) : (s.setAgent n x).meter = s.meter := rfl
@[simp] theorem State.setAgent_links (n : Nat) (x : Agent) : (s.setAgent n x).links = s.links := rfl
@[simp] theorem State.setAgent_rings (n : Nat) (x : Agent) : (s.setAgent n x).rings = s.rings := rfl
@[simp] theorem State.setAgent_fatal (n : Nat) (x : Agent) : (s.setAgent n x).fatal = s.fatal := rfl
@[simp] theorem State.setAgent_traces (n : Nat) (x : Agent) : (s.setAgent n x).traces = s.traces := rfl
@[simp] theorem State.setAgent_itrace (n : Nat) (x : Agent) : (s.setAgent n x).itrace = s.itrace := rfl
@[simp] theorem State.setAgent_pcie (n : Nat) (x : Agent) : (s.setAgent n x).pcie = s.pcie := rfl
@[simp] theorem State.setAgent_mbxReq (n : Nat) (x : Agent) : (s.setAgent n x).mbxReq = s.mbxReq := rfl
@[simp] theorem State.setAgent_mbxRsp (n : Nat) (x : Agent) : (s.setAgent n x).mbxRsp = s.mbxRsp := rfl
@[simp] theorem State.setAgent_mbxSeq (n : Nat) (x : Agent) : (s.setAgent n x).mbxSeq = s.mbxSeq := rfl
@[simp] theorem State.setAgent_busy (n : Nat) (x : Agent) : (s.setAgent n x).busy = s.busy := rfl
@[simp] theorem State.setAgent_nextId (n : Nat) (x : Agent) : (s.setAgent n x).nextId = s.nextId := rfl
@[simp] theorem State.setAgent_freeCtr (n : Nat) (x : Agent) : (s.setAgent n x).freeCtr = s.freeCtr := rfl
@[simp] theorem State.setAgent_out (n : Nat) (x : Agent) : (s.setAgent n x).out = s.out := rfl
@[simp] theorem State.setAgent_pending (n : Nat) (x : Agent) : (s.setAgent n x).pending = s.pending := rfl

@[simp] theorem State.setDir_units (n : Nat) (x : Dir) : (s.setDir n x).units = s.units := rfl
@[simp] theorem State.setDir_boot (n : Nat) (x : Dir) : (s.setDir n x).boot = s.boot := rfl
@[simp] theorem State.setDir_time (n : Nat) (x : Dir) : (s.setDir n x).time = s.time := rfl
@[simp] theorem State.setDir_regs (n : Nat) (x : Dir) : (s.setDir n x).regs = s.regs := rfl
@[simp] theorem State.setDir_freeze (n : Nat) (x : Dir) : (s.setDir n x).freeze = s.freeze := rfl
@[simp] theorem State.setDir_dict (n : Nat) (x : Dir) : (s.setDir n x).dict = s.dict := rfl
@[simp] theorem State.setDir_power (n : Nat) (x : Dir) : (s.setDir n x).power = s.power := rfl
@[simp] theorem State.setDir_dram (n : Nat) (x : Dir) : (s.setDir n x).dram = s.dram := rfl
@[simp] theorem State.setDir_rstore (n : Nat) (x : Dir) : (s.setDir n x).rstore = s.rstore := rfl
@[simp] theorem State.setDir_pmap (n : Nat) (x : Dir) : (s.setDir n x).pmap = s.pmap := rfl
@[simp] theorem State.setDir_agents (n : Nat) (x : Dir) : (s.setDir n x).agents = s.agents := rfl
@[simp] theorem State.setDir_net (n : Nat) (x : Dir) : (s.setDir n x).net = s.net := rfl
@[simp] theorem State.setDir_cores (n : Nat) (x : Dir) : (s.setDir n x).cores = s.cores := rfl
@[simp] theorem State.setDir_launches (n : Nat) (x : Dir) : (s.setDir n x).launches = s.launches := rfl
@[simp] theorem State.setDir_queues (n : Nat) (x : Dir) : (s.setDir n x).queues = s.queues := rfl
@[simp] theorem State.setDir_enq (n : Nat) (x : Dir) : (s.setDir n x).enq = s.enq := rfl
@[simp] theorem State.setDir_ctxs (n : Nat) (x : Dir) : (s.setDir n x).ctxs = s.ctxs := rfl
@[simp] theorem State.setDir_mobjs (n : Nat) (x : Dir) : (s.setDir n x).mobjs = s.mobjs := rfl
@[simp] theorem State.setDir_fences (n : Nat) (x : Dir) : (s.setDir n x).fences = s.fences := rfl
@[simp] theorem State.setDir_batons (n : Nat) (x : Dir) : (s.setDir n x).batons = s.batons := rfl
@[simp] theorem State.setDir_reqs (n : Nat) (x : Dir) : (s.setDir n x).reqs = s.reqs := rfl
@[simp] theorem State.setDir_meter (n : Nat) (x : Dir) : (s.setDir n x).meter = s.meter := rfl
@[simp] theorem State.setDir_links (n : Nat) (x : Dir) : (s.setDir n x).links = s.links := rfl
@[simp] theorem State.setDir_rings (n : Nat) (x : Dir) : (s.setDir n x).rings = s.rings := rfl
@[simp] theorem State.setDir_fatal (n : Nat) (x : Dir) : (s.setDir n x).fatal = s.fatal := rfl
@[simp] theorem State.setDir_traces (n : Nat) (x : Dir) : (s.setDir n x).traces = s.traces := rfl
@[simp] theorem State.setDir_itrace (n : Nat) (x : Dir) : (s.setDir n x).itrace = s.itrace := rfl
@[simp] theorem State.setDir_pcie (n : Nat) (x : Dir) : (s.setDir n x).pcie = s.pcie := rfl
@[simp] theorem State.setDir_mbxReq (n : Nat) (x : Dir) : (s.setDir n x).mbxReq = s.mbxReq := rfl
@[simp] theorem State.setDir_mbxRsp (n : Nat) (x : Dir) : (s.setDir n x).mbxRsp = s.mbxRsp := rfl
@[simp] theorem State.setDir_mbxSeq (n : Nat) (x : Dir) : (s.setDir n x).mbxSeq = s.mbxSeq := rfl
@[simp] theorem State.setDir_busy (n : Nat) (x : Dir) : (s.setDir n x).busy = s.busy := rfl
@[simp] theorem State.setDir_nextId (n : Nat) (x : Dir) : (s.setDir n x).nextId = s.nextId := rfl
@[simp] theorem State.setDir_freeCtr (n : Nat) (x : Dir) : (s.setDir n x).freeCtr = s.freeCtr := rfl
@[simp] theorem State.setDir_out (n : Nat) (x : Dir) : (s.setDir n x).out = s.out := rfl
@[simp] theorem State.setDir_pending (n : Nat) (x : Dir) : (s.setDir n x).pending = s.pending := rfl

@[simp] theorem State.setQueue_units (n : Nat) (x : Queue) : (s.setQueue n x).units = s.units := rfl
@[simp] theorem State.setQueue_boot (n : Nat) (x : Queue) : (s.setQueue n x).boot = s.boot := rfl
@[simp] theorem State.setQueue_time (n : Nat) (x : Queue) : (s.setQueue n x).time = s.time := rfl
@[simp] theorem State.setQueue_regs (n : Nat) (x : Queue) : (s.setQueue n x).regs = s.regs := rfl
@[simp] theorem State.setQueue_freeze (n : Nat) (x : Queue) : (s.setQueue n x).freeze = s.freeze := rfl
@[simp] theorem State.setQueue_dict (n : Nat) (x : Queue) : (s.setQueue n x).dict = s.dict := rfl
@[simp] theorem State.setQueue_power (n : Nat) (x : Queue) : (s.setQueue n x).power = s.power := rfl
@[simp] theorem State.setQueue_dram (n : Nat) (x : Queue) : (s.setQueue n x).dram = s.dram := rfl
@[simp] theorem State.setQueue_rstore (n : Nat) (x : Queue) : (s.setQueue n x).rstore = s.rstore := rfl
@[simp] theorem State.setQueue_pmap (n : Nat) (x : Queue) : (s.setQueue n x).pmap = s.pmap := rfl
@[simp] theorem State.setQueue_agents (n : Nat) (x : Queue) : (s.setQueue n x).agents = s.agents := rfl
@[simp] theorem State.setQueue_dirs (n : Nat) (x : Queue) : (s.setQueue n x).dirs = s.dirs := rfl
@[simp] theorem State.setQueue_net (n : Nat) (x : Queue) : (s.setQueue n x).net = s.net := rfl
@[simp] theorem State.setQueue_cores (n : Nat) (x : Queue) : (s.setQueue n x).cores = s.cores := rfl
@[simp] theorem State.setQueue_launches (n : Nat) (x : Queue) : (s.setQueue n x).launches = s.launches := rfl
@[simp] theorem State.setQueue_enq (n : Nat) (x : Queue) : (s.setQueue n x).enq = s.enq := rfl
@[simp] theorem State.setQueue_ctxs (n : Nat) (x : Queue) : (s.setQueue n x).ctxs = s.ctxs := rfl
@[simp] theorem State.setQueue_mobjs (n : Nat) (x : Queue) : (s.setQueue n x).mobjs = s.mobjs := rfl
@[simp] theorem State.setQueue_fences (n : Nat) (x : Queue) : (s.setQueue n x).fences = s.fences := rfl
@[simp] theorem State.setQueue_batons (n : Nat) (x : Queue) : (s.setQueue n x).batons = s.batons := rfl
@[simp] theorem State.setQueue_reqs (n : Nat) (x : Queue) : (s.setQueue n x).reqs = s.reqs := rfl
@[simp] theorem State.setQueue_meter (n : Nat) (x : Queue) : (s.setQueue n x).meter = s.meter := rfl
@[simp] theorem State.setQueue_links (n : Nat) (x : Queue) : (s.setQueue n x).links = s.links := rfl
@[simp] theorem State.setQueue_rings (n : Nat) (x : Queue) : (s.setQueue n x).rings = s.rings := rfl
@[simp] theorem State.setQueue_fatal (n : Nat) (x : Queue) : (s.setQueue n x).fatal = s.fatal := rfl
@[simp] theorem State.setQueue_traces (n : Nat) (x : Queue) : (s.setQueue n x).traces = s.traces := rfl
@[simp] theorem State.setQueue_itrace (n : Nat) (x : Queue) : (s.setQueue n x).itrace = s.itrace := rfl
@[simp] theorem State.setQueue_pcie (n : Nat) (x : Queue) : (s.setQueue n x).pcie = s.pcie := rfl
@[simp] theorem State.setQueue_mbxReq (n : Nat) (x : Queue) : (s.setQueue n x).mbxReq = s.mbxReq := rfl
@[simp] theorem State.setQueue_mbxRsp (n : Nat) (x : Queue) : (s.setQueue n x).mbxRsp = s.mbxRsp := rfl
@[simp] theorem State.setQueue_mbxSeq (n : Nat) (x : Queue) : (s.setQueue n x).mbxSeq = s.mbxSeq := rfl
@[simp] theorem State.setQueue_busy (n : Nat) (x : Queue) : (s.setQueue n x).busy = s.busy := rfl
@[simp] theorem State.setQueue_nextId (n : Nat) (x : Queue) : (s.setQueue n x).nextId = s.nextId := rfl
@[simp] theorem State.setQueue_freeCtr (n : Nat) (x : Queue) : (s.setQueue n x).freeCtr = s.freeCtr := rfl
@[simp] theorem State.setQueue_out (n : Nat) (x : Queue) : (s.setQueue n x).out = s.out := rfl
@[simp] theorem State.setQueue_pending (n : Nat) (x : Queue) : (s.setQueue n x).pending = s.pending := rfl

@[simp] theorem State.setCtx_units (n : Nat) (x : Context) : (s.setCtx n x).units = s.units := rfl
@[simp] theorem State.setCtx_boot (n : Nat) (x : Context) : (s.setCtx n x).boot = s.boot := rfl
@[simp] theorem State.setCtx_time (n : Nat) (x : Context) : (s.setCtx n x).time = s.time := rfl
@[simp] theorem State.setCtx_regs (n : Nat) (x : Context) : (s.setCtx n x).regs = s.regs := rfl
@[simp] theorem State.setCtx_freeze (n : Nat) (x : Context) : (s.setCtx n x).freeze = s.freeze := rfl
@[simp] theorem State.setCtx_dict (n : Nat) (x : Context) : (s.setCtx n x).dict = s.dict := rfl
@[simp] theorem State.setCtx_power (n : Nat) (x : Context) : (s.setCtx n x).power = s.power := rfl
@[simp] theorem State.setCtx_dram (n : Nat) (x : Context) : (s.setCtx n x).dram = s.dram := rfl
@[simp] theorem State.setCtx_rstore (n : Nat) (x : Context) : (s.setCtx n x).rstore = s.rstore := rfl
@[simp] theorem State.setCtx_pmap (n : Nat) (x : Context) : (s.setCtx n x).pmap = s.pmap := rfl
@[simp] theorem State.setCtx_agents (n : Nat) (x : Context) : (s.setCtx n x).agents = s.agents := rfl
@[simp] theorem State.setCtx_dirs (n : Nat) (x : Context) : (s.setCtx n x).dirs = s.dirs := rfl
@[simp] theorem State.setCtx_net (n : Nat) (x : Context) : (s.setCtx n x).net = s.net := rfl
@[simp] theorem State.setCtx_cores (n : Nat) (x : Context) : (s.setCtx n x).cores = s.cores := rfl
@[simp] theorem State.setCtx_launches (n : Nat) (x : Context) : (s.setCtx n x).launches = s.launches := rfl
@[simp] theorem State.setCtx_queues (n : Nat) (x : Context) : (s.setCtx n x).queues = s.queues := rfl
@[simp] theorem State.setCtx_enq (n : Nat) (x : Context) : (s.setCtx n x).enq = s.enq := rfl
@[simp] theorem State.setCtx_mobjs (n : Nat) (x : Context) : (s.setCtx n x).mobjs = s.mobjs := rfl
@[simp] theorem State.setCtx_fences (n : Nat) (x : Context) : (s.setCtx n x).fences = s.fences := rfl
@[simp] theorem State.setCtx_batons (n : Nat) (x : Context) : (s.setCtx n x).batons = s.batons := rfl
@[simp] theorem State.setCtx_reqs (n : Nat) (x : Context) : (s.setCtx n x).reqs = s.reqs := rfl
@[simp] theorem State.setCtx_meter (n : Nat) (x : Context) : (s.setCtx n x).meter = s.meter := rfl
@[simp] theorem State.setCtx_links (n : Nat) (x : Context) : (s.setCtx n x).links = s.links := rfl
@[simp] theorem State.setCtx_rings (n : Nat) (x : Context) : (s.setCtx n x).rings = s.rings := rfl
@[simp] theorem State.setCtx_fatal (n : Nat) (x : Context) : (s.setCtx n x).fatal = s.fatal := rfl
@[simp] theorem State.setCtx_traces (n : Nat) (x : Context) : (s.setCtx n x).traces = s.traces := rfl
@[simp] theorem State.setCtx_itrace (n : Nat) (x : Context) : (s.setCtx n x).itrace = s.itrace := rfl
@[simp] theorem State.setCtx_pcie (n : Nat) (x : Context) : (s.setCtx n x).pcie = s.pcie := rfl
@[simp] theorem State.setCtx_mbxReq (n : Nat) (x : Context) : (s.setCtx n x).mbxReq = s.mbxReq := rfl
@[simp] theorem State.setCtx_mbxRsp (n : Nat) (x : Context) : (s.setCtx n x).mbxRsp = s.mbxRsp := rfl
@[simp] theorem State.setCtx_mbxSeq (n : Nat) (x : Context) : (s.setCtx n x).mbxSeq = s.mbxSeq := rfl
@[simp] theorem State.setCtx_busy (n : Nat) (x : Context) : (s.setCtx n x).busy = s.busy := rfl
@[simp] theorem State.setCtx_nextId (n : Nat) (x : Context) : (s.setCtx n x).nextId = s.nextId := rfl
@[simp] theorem State.setCtx_freeCtr (n : Nat) (x : Context) : (s.setCtx n x).freeCtr = s.freeCtr := rfl
@[simp] theorem State.setCtx_out (n : Nat) (x : Context) : (s.setCtx n x).out = s.out := rfl
@[simp] theorem State.setCtx_pending (n : Nat) (x : Context) : (s.setCtx n x).pending = s.pending := rfl

@[simp] theorem State.setMobj_units (n : Nat) (x : MObj) : (s.setMobj n x).units = s.units := rfl
@[simp] theorem State.setMobj_boot (n : Nat) (x : MObj) : (s.setMobj n x).boot = s.boot := rfl
@[simp] theorem State.setMobj_time (n : Nat) (x : MObj) : (s.setMobj n x).time = s.time := rfl
@[simp] theorem State.setMobj_regs (n : Nat) (x : MObj) : (s.setMobj n x).regs = s.regs := rfl
@[simp] theorem State.setMobj_freeze (n : Nat) (x : MObj) : (s.setMobj n x).freeze = s.freeze := rfl
@[simp] theorem State.setMobj_dict (n : Nat) (x : MObj) : (s.setMobj n x).dict = s.dict := rfl
@[simp] theorem State.setMobj_power (n : Nat) (x : MObj) : (s.setMobj n x).power = s.power := rfl
@[simp] theorem State.setMobj_dram (n : Nat) (x : MObj) : (s.setMobj n x).dram = s.dram := rfl
@[simp] theorem State.setMobj_rstore (n : Nat) (x : MObj) : (s.setMobj n x).rstore = s.rstore := rfl
@[simp] theorem State.setMobj_pmap (n : Nat) (x : MObj) : (s.setMobj n x).pmap = s.pmap := rfl
@[simp] theorem State.setMobj_agents (n : Nat) (x : MObj) : (s.setMobj n x).agents = s.agents := rfl
@[simp] theorem State.setMobj_dirs (n : Nat) (x : MObj) : (s.setMobj n x).dirs = s.dirs := rfl
@[simp] theorem State.setMobj_net (n : Nat) (x : MObj) : (s.setMobj n x).net = s.net := rfl
@[simp] theorem State.setMobj_cores (n : Nat) (x : MObj) : (s.setMobj n x).cores = s.cores := rfl
@[simp] theorem State.setMobj_launches (n : Nat) (x : MObj) : (s.setMobj n x).launches = s.launches := rfl
@[simp] theorem State.setMobj_queues (n : Nat) (x : MObj) : (s.setMobj n x).queues = s.queues := rfl
@[simp] theorem State.setMobj_enq (n : Nat) (x : MObj) : (s.setMobj n x).enq = s.enq := rfl
@[simp] theorem State.setMobj_ctxs (n : Nat) (x : MObj) : (s.setMobj n x).ctxs = s.ctxs := rfl
@[simp] theorem State.setMobj_fences (n : Nat) (x : MObj) : (s.setMobj n x).fences = s.fences := rfl
@[simp] theorem State.setMobj_batons (n : Nat) (x : MObj) : (s.setMobj n x).batons = s.batons := rfl
@[simp] theorem State.setMobj_reqs (n : Nat) (x : MObj) : (s.setMobj n x).reqs = s.reqs := rfl
@[simp] theorem State.setMobj_meter (n : Nat) (x : MObj) : (s.setMobj n x).meter = s.meter := rfl
@[simp] theorem State.setMobj_links (n : Nat) (x : MObj) : (s.setMobj n x).links = s.links := rfl
@[simp] theorem State.setMobj_rings (n : Nat) (x : MObj) : (s.setMobj n x).rings = s.rings := rfl
@[simp] theorem State.setMobj_fatal (n : Nat) (x : MObj) : (s.setMobj n x).fatal = s.fatal := rfl
@[simp] theorem State.setMobj_traces (n : Nat) (x : MObj) : (s.setMobj n x).traces = s.traces := rfl
@[simp] theorem State.setMobj_itrace (n : Nat) (x : MObj) : (s.setMobj n x).itrace = s.itrace := rfl
@[simp] theorem State.setMobj_pcie (n : Nat) (x : MObj) : (s.setMobj n x).pcie = s.pcie := rfl
@[simp] theorem State.setMobj_mbxReq (n : Nat) (x : MObj) : (s.setMobj n x).mbxReq = s.mbxReq := rfl
@[simp] theorem State.setMobj_mbxRsp (n : Nat) (x : MObj) : (s.setMobj n x).mbxRsp = s.mbxRsp := rfl
@[simp] theorem State.setMobj_mbxSeq (n : Nat) (x : MObj) : (s.setMobj n x).mbxSeq = s.mbxSeq := rfl
@[simp] theorem State.setMobj_busy (n : Nat) (x : MObj) : (s.setMobj n x).busy = s.busy := rfl
@[simp] theorem State.setMobj_nextId (n : Nat) (x : MObj) : (s.setMobj n x).nextId = s.nextId := rfl
@[simp] theorem State.setMobj_freeCtr (n : Nat) (x : MObj) : (s.setMobj n x).freeCtr = s.freeCtr := rfl
@[simp] theorem State.setMobj_out (n : Nat) (x : MObj) : (s.setMobj n x).out = s.out := rfl
@[simp] theorem State.setMobj_pending (n : Nat) (x : MObj) : (s.setMobj n x).pending = s.pending := rfl

@[simp] theorem State.setFence_units (n : Nat) (x : Fence) : (s.setFence n x).units = s.units := rfl
@[simp] theorem State.setFence_boot (n : Nat) (x : Fence) : (s.setFence n x).boot = s.boot := rfl
@[simp] theorem State.setFence_time (n : Nat) (x : Fence) : (s.setFence n x).time = s.time := rfl
@[simp] theorem State.setFence_regs (n : Nat) (x : Fence) : (s.setFence n x).regs = s.regs := rfl
@[simp] theorem State.setFence_freeze (n : Nat) (x : Fence) : (s.setFence n x).freeze = s.freeze := rfl
@[simp] theorem State.setFence_dict (n : Nat) (x : Fence) : (s.setFence n x).dict = s.dict := rfl
@[simp] theorem State.setFence_power (n : Nat) (x : Fence) : (s.setFence n x).power = s.power := rfl
@[simp] theorem State.setFence_dram (n : Nat) (x : Fence) : (s.setFence n x).dram = s.dram := rfl
@[simp] theorem State.setFence_rstore (n : Nat) (x : Fence) : (s.setFence n x).rstore = s.rstore := rfl
@[simp] theorem State.setFence_pmap (n : Nat) (x : Fence) : (s.setFence n x).pmap = s.pmap := rfl
@[simp] theorem State.setFence_agents (n : Nat) (x : Fence) : (s.setFence n x).agents = s.agents := rfl
@[simp] theorem State.setFence_dirs (n : Nat) (x : Fence) : (s.setFence n x).dirs = s.dirs := rfl
@[simp] theorem State.setFence_net (n : Nat) (x : Fence) : (s.setFence n x).net = s.net := rfl
@[simp] theorem State.setFence_cores (n : Nat) (x : Fence) : (s.setFence n x).cores = s.cores := rfl
@[simp] theorem State.setFence_launches (n : Nat) (x : Fence) : (s.setFence n x).launches = s.launches := rfl
@[simp] theorem State.setFence_queues (n : Nat) (x : Fence) : (s.setFence n x).queues = s.queues := rfl
@[simp] theorem State.setFence_enq (n : Nat) (x : Fence) : (s.setFence n x).enq = s.enq := rfl
@[simp] theorem State.setFence_ctxs (n : Nat) (x : Fence) : (s.setFence n x).ctxs = s.ctxs := rfl
@[simp] theorem State.setFence_mobjs (n : Nat) (x : Fence) : (s.setFence n x).mobjs = s.mobjs := rfl
@[simp] theorem State.setFence_batons (n : Nat) (x : Fence) : (s.setFence n x).batons = s.batons := rfl
@[simp] theorem State.setFence_reqs (n : Nat) (x : Fence) : (s.setFence n x).reqs = s.reqs := rfl
@[simp] theorem State.setFence_meter (n : Nat) (x : Fence) : (s.setFence n x).meter = s.meter := rfl
@[simp] theorem State.setFence_links (n : Nat) (x : Fence) : (s.setFence n x).links = s.links := rfl
@[simp] theorem State.setFence_rings (n : Nat) (x : Fence) : (s.setFence n x).rings = s.rings := rfl
@[simp] theorem State.setFence_fatal (n : Nat) (x : Fence) : (s.setFence n x).fatal = s.fatal := rfl
@[simp] theorem State.setFence_traces (n : Nat) (x : Fence) : (s.setFence n x).traces = s.traces := rfl
@[simp] theorem State.setFence_itrace (n : Nat) (x : Fence) : (s.setFence n x).itrace = s.itrace := rfl
@[simp] theorem State.setFence_pcie (n : Nat) (x : Fence) : (s.setFence n x).pcie = s.pcie := rfl
@[simp] theorem State.setFence_mbxReq (n : Nat) (x : Fence) : (s.setFence n x).mbxReq = s.mbxReq := rfl
@[simp] theorem State.setFence_mbxRsp (n : Nat) (x : Fence) : (s.setFence n x).mbxRsp = s.mbxRsp := rfl
@[simp] theorem State.setFence_mbxSeq (n : Nat) (x : Fence) : (s.setFence n x).mbxSeq = s.mbxSeq := rfl
@[simp] theorem State.setFence_busy (n : Nat) (x : Fence) : (s.setFence n x).busy = s.busy := rfl
@[simp] theorem State.setFence_nextId (n : Nat) (x : Fence) : (s.setFence n x).nextId = s.nextId := rfl
@[simp] theorem State.setFence_freeCtr (n : Nat) (x : Fence) : (s.setFence n x).freeCtr = s.freeCtr := rfl
@[simp] theorem State.setFence_out (n : Nat) (x : Fence) : (s.setFence n x).out = s.out := rfl
@[simp] theorem State.setFence_pending (n : Nat) (x : Fence) : (s.setFence n x).pending = s.pending := rfl

@[simp] theorem State.setBaton_units (n : Nat) (x : Baton) : (s.setBaton n x).units = s.units := rfl
@[simp] theorem State.setBaton_boot (n : Nat) (x : Baton) : (s.setBaton n x).boot = s.boot := rfl
@[simp] theorem State.setBaton_time (n : Nat) (x : Baton) : (s.setBaton n x).time = s.time := rfl
@[simp] theorem State.setBaton_regs (n : Nat) (x : Baton) : (s.setBaton n x).regs = s.regs := rfl
@[simp] theorem State.setBaton_freeze (n : Nat) (x : Baton) : (s.setBaton n x).freeze = s.freeze := rfl
@[simp] theorem State.setBaton_dict (n : Nat) (x : Baton) : (s.setBaton n x).dict = s.dict := rfl
@[simp] theorem State.setBaton_power (n : Nat) (x : Baton) : (s.setBaton n x).power = s.power := rfl
@[simp] theorem State.setBaton_dram (n : Nat) (x : Baton) : (s.setBaton n x).dram = s.dram := rfl
@[simp] theorem State.setBaton_rstore (n : Nat) (x : Baton) : (s.setBaton n x).rstore = s.rstore := rfl
@[simp] theorem State.setBaton_pmap (n : Nat) (x : Baton) : (s.setBaton n x).pmap = s.pmap := rfl
@[simp] theorem State.setBaton_agents (n : Nat) (x : Baton) : (s.setBaton n x).agents = s.agents := rfl
@[simp] theorem State.setBaton_dirs (n : Nat) (x : Baton) : (s.setBaton n x).dirs = s.dirs := rfl
@[simp] theorem State.setBaton_net (n : Nat) (x : Baton) : (s.setBaton n x).net = s.net := rfl
@[simp] theorem State.setBaton_cores (n : Nat) (x : Baton) : (s.setBaton n x).cores = s.cores := rfl
@[simp] theorem State.setBaton_launches (n : Nat) (x : Baton) : (s.setBaton n x).launches = s.launches := rfl
@[simp] theorem State.setBaton_queues (n : Nat) (x : Baton) : (s.setBaton n x).queues = s.queues := rfl
@[simp] theorem State.setBaton_enq (n : Nat) (x : Baton) : (s.setBaton n x).enq = s.enq := rfl
@[simp] theorem State.setBaton_ctxs (n : Nat) (x : Baton) : (s.setBaton n x).ctxs = s.ctxs := rfl
@[simp] theorem State.setBaton_mobjs (n : Nat) (x : Baton) : (s.setBaton n x).mobjs = s.mobjs := rfl
@[simp] theorem State.setBaton_fences (n : Nat) (x : Baton) : (s.setBaton n x).fences = s.fences := rfl
@[simp] theorem State.setBaton_reqs (n : Nat) (x : Baton) : (s.setBaton n x).reqs = s.reqs := rfl
@[simp] theorem State.setBaton_meter (n : Nat) (x : Baton) : (s.setBaton n x).meter = s.meter := rfl
@[simp] theorem State.setBaton_links (n : Nat) (x : Baton) : (s.setBaton n x).links = s.links := rfl
@[simp] theorem State.setBaton_rings (n : Nat) (x : Baton) : (s.setBaton n x).rings = s.rings := rfl
@[simp] theorem State.setBaton_fatal (n : Nat) (x : Baton) : (s.setBaton n x).fatal = s.fatal := rfl
@[simp] theorem State.setBaton_traces (n : Nat) (x : Baton) : (s.setBaton n x).traces = s.traces := rfl
@[simp] theorem State.setBaton_itrace (n : Nat) (x : Baton) : (s.setBaton n x).itrace = s.itrace := rfl
@[simp] theorem State.setBaton_pcie (n : Nat) (x : Baton) : (s.setBaton n x).pcie = s.pcie := rfl
@[simp] theorem State.setBaton_mbxReq (n : Nat) (x : Baton) : (s.setBaton n x).mbxReq = s.mbxReq := rfl
@[simp] theorem State.setBaton_mbxRsp (n : Nat) (x : Baton) : (s.setBaton n x).mbxRsp = s.mbxRsp := rfl
@[simp] theorem State.setBaton_mbxSeq (n : Nat) (x : Baton) : (s.setBaton n x).mbxSeq = s.mbxSeq := rfl
@[simp] theorem State.setBaton_busy (n : Nat) (x : Baton) : (s.setBaton n x).busy = s.busy := rfl
@[simp] theorem State.setBaton_nextId (n : Nat) (x : Baton) : (s.setBaton n x).nextId = s.nextId := rfl
@[simp] theorem State.setBaton_freeCtr (n : Nat) (x : Baton) : (s.setBaton n x).freeCtr = s.freeCtr := rfl
@[simp] theorem State.setBaton_out (n : Nat) (x : Baton) : (s.setBaton n x).out = s.out := rfl
@[simp] theorem State.setBaton_pending (n : Nat) (x : Baton) : (s.setBaton n x).pending = s.pending := rfl

@[simp] theorem State.setRequest_units (n : Nat) (x : Request) : (s.setRequest n x).units = s.units := rfl
@[simp] theorem State.setRequest_boot (n : Nat) (x : Request) : (s.setRequest n x).boot = s.boot := rfl
@[simp] theorem State.setRequest_time (n : Nat) (x : Request) : (s.setRequest n x).time = s.time := rfl
@[simp] theorem State.setRequest_regs (n : Nat) (x : Request) : (s.setRequest n x).regs = s.regs := rfl
@[simp] theorem State.setRequest_freeze (n : Nat) (x : Request) : (s.setRequest n x).freeze = s.freeze := rfl
@[simp] theorem State.setRequest_dict (n : Nat) (x : Request) : (s.setRequest n x).dict = s.dict := rfl
@[simp] theorem State.setRequest_power (n : Nat) (x : Request) : (s.setRequest n x).power = s.power := rfl
@[simp] theorem State.setRequest_dram (n : Nat) (x : Request) : (s.setRequest n x).dram = s.dram := rfl
@[simp] theorem State.setRequest_rstore (n : Nat) (x : Request) : (s.setRequest n x).rstore = s.rstore := rfl
@[simp] theorem State.setRequest_pmap (n : Nat) (x : Request) : (s.setRequest n x).pmap = s.pmap := rfl
@[simp] theorem State.setRequest_agents (n : Nat) (x : Request) : (s.setRequest n x).agents = s.agents := rfl
@[simp] theorem State.setRequest_dirs (n : Nat) (x : Request) : (s.setRequest n x).dirs = s.dirs := rfl
@[simp] theorem State.setRequest_net (n : Nat) (x : Request) : (s.setRequest n x).net = s.net := rfl
@[simp] theorem State.setRequest_cores (n : Nat) (x : Request) : (s.setRequest n x).cores = s.cores := rfl
@[simp] theorem State.setRequest_launches (n : Nat) (x : Request) : (s.setRequest n x).launches = s.launches := rfl
@[simp] theorem State.setRequest_queues (n : Nat) (x : Request) : (s.setRequest n x).queues = s.queues := rfl
@[simp] theorem State.setRequest_enq (n : Nat) (x : Request) : (s.setRequest n x).enq = s.enq := rfl
@[simp] theorem State.setRequest_ctxs (n : Nat) (x : Request) : (s.setRequest n x).ctxs = s.ctxs := rfl
@[simp] theorem State.setRequest_mobjs (n : Nat) (x : Request) : (s.setRequest n x).mobjs = s.mobjs := rfl
@[simp] theorem State.setRequest_fences (n : Nat) (x : Request) : (s.setRequest n x).fences = s.fences := rfl
@[simp] theorem State.setRequest_batons (n : Nat) (x : Request) : (s.setRequest n x).batons = s.batons := rfl
@[simp] theorem State.setRequest_meter (n : Nat) (x : Request) : (s.setRequest n x).meter = s.meter := rfl
@[simp] theorem State.setRequest_links (n : Nat) (x : Request) : (s.setRequest n x).links = s.links := rfl
@[simp] theorem State.setRequest_rings (n : Nat) (x : Request) : (s.setRequest n x).rings = s.rings := rfl
@[simp] theorem State.setRequest_fatal (n : Nat) (x : Request) : (s.setRequest n x).fatal = s.fatal := rfl
@[simp] theorem State.setRequest_traces (n : Nat) (x : Request) : (s.setRequest n x).traces = s.traces := rfl
@[simp] theorem State.setRequest_itrace (n : Nat) (x : Request) : (s.setRequest n x).itrace = s.itrace := rfl
@[simp] theorem State.setRequest_pcie (n : Nat) (x : Request) : (s.setRequest n x).pcie = s.pcie := rfl
@[simp] theorem State.setRequest_mbxReq (n : Nat) (x : Request) : (s.setRequest n x).mbxReq = s.mbxReq := rfl
@[simp] theorem State.setRequest_mbxRsp (n : Nat) (x : Request) : (s.setRequest n x).mbxRsp = s.mbxRsp := rfl
@[simp] theorem State.setRequest_mbxSeq (n : Nat) (x : Request) : (s.setRequest n x).mbxSeq = s.mbxSeq := rfl
@[simp] theorem State.setRequest_busy (n : Nat) (x : Request) : (s.setRequest n x).busy = s.busy := rfl
@[simp] theorem State.setRequest_nextId (n : Nat) (x : Request) : (s.setRequest n x).nextId = s.nextId := rfl
@[simp] theorem State.setRequest_freeCtr (n : Nat) (x : Request) : (s.setRequest n x).freeCtr = s.freeCtr := rfl
@[simp] theorem State.setRequest_out (n : Nat) (x : Request) : (s.setRequest n x).out = s.out := rfl
@[simp] theorem State.setRequest_pending (n : Nat) (x : Request) : (s.setRequest n x).pending = s.pending := rfl

@[simp] theorem State.setLaunch_units (n : Nat) (x : Launch) : (s.setLaunch n x).units = s.units := rfl
@[simp] theorem State.setLaunch_boot (n : Nat) (x : Launch) : (s.setLaunch n x).boot = s.boot := rfl
@[simp] theorem State.setLaunch_time (n : Nat) (x : Launch) : (s.setLaunch n x).time = s.time := rfl
@[simp] theorem State.setLaunch_regs (n : Nat) (x : Launch) : (s.setLaunch n x).regs = s.regs := rfl
@[simp] theorem State.setLaunch_freeze (n : Nat) (x : Launch) : (s.setLaunch n x).freeze = s.freeze := rfl
@[simp] theorem State.setLaunch_dict (n : Nat) (x : Launch) : (s.setLaunch n x).dict = s.dict := rfl
@[simp] theorem State.setLaunch_power (n : Nat) (x : Launch) : (s.setLaunch n x).power = s.power := rfl
@[simp] theorem State.setLaunch_dram (n : Nat) (x : Launch) : (s.setLaunch n x).dram = s.dram := rfl
@[simp] theorem State.setLaunch_rstore (n : Nat) (x : Launch) : (s.setLaunch n x).rstore = s.rstore := rfl
@[simp] theorem State.setLaunch_pmap (n : Nat) (x : Launch) : (s.setLaunch n x).pmap = s.pmap := rfl
@[simp] theorem State.setLaunch_agents (n : Nat) (x : Launch) : (s.setLaunch n x).agents = s.agents := rfl
@[simp] theorem State.setLaunch_dirs (n : Nat) (x : Launch) : (s.setLaunch n x).dirs = s.dirs := rfl
@[simp] theorem State.setLaunch_net (n : Nat) (x : Launch) : (s.setLaunch n x).net = s.net := rfl
@[simp] theorem State.setLaunch_cores (n : Nat) (x : Launch) : (s.setLaunch n x).cores = s.cores := rfl
@[simp] theorem State.setLaunch_queues (n : Nat) (x : Launch) : (s.setLaunch n x).queues = s.queues := rfl
@[simp] theorem State.setLaunch_enq (n : Nat) (x : Launch) : (s.setLaunch n x).enq = s.enq := rfl
@[simp] theorem State.setLaunch_ctxs (n : Nat) (x : Launch) : (s.setLaunch n x).ctxs = s.ctxs := rfl
@[simp] theorem State.setLaunch_mobjs (n : Nat) (x : Launch) : (s.setLaunch n x).mobjs = s.mobjs := rfl
@[simp] theorem State.setLaunch_fences (n : Nat) (x : Launch) : (s.setLaunch n x).fences = s.fences := rfl
@[simp] theorem State.setLaunch_batons (n : Nat) (x : Launch) : (s.setLaunch n x).batons = s.batons := rfl
@[simp] theorem State.setLaunch_reqs (n : Nat) (x : Launch) : (s.setLaunch n x).reqs = s.reqs := rfl
@[simp] theorem State.setLaunch_meter (n : Nat) (x : Launch) : (s.setLaunch n x).meter = s.meter := rfl
@[simp] theorem State.setLaunch_links (n : Nat) (x : Launch) : (s.setLaunch n x).links = s.links := rfl
@[simp] theorem State.setLaunch_rings (n : Nat) (x : Launch) : (s.setLaunch n x).rings = s.rings := rfl
@[simp] theorem State.setLaunch_fatal (n : Nat) (x : Launch) : (s.setLaunch n x).fatal = s.fatal := rfl
@[simp] theorem State.setLaunch_traces (n : Nat) (x : Launch) : (s.setLaunch n x).traces = s.traces := rfl
@[simp] theorem State.setLaunch_itrace (n : Nat) (x : Launch) : (s.setLaunch n x).itrace = s.itrace := rfl
@[simp] theorem State.setLaunch_pcie (n : Nat) (x : Launch) : (s.setLaunch n x).pcie = s.pcie := rfl
@[simp] theorem State.setLaunch_mbxReq (n : Nat) (x : Launch) : (s.setLaunch n x).mbxReq = s.mbxReq := rfl
@[simp] theorem State.setLaunch_mbxRsp (n : Nat) (x : Launch) : (s.setLaunch n x).mbxRsp = s.mbxRsp := rfl
@[simp] theorem State.setLaunch_mbxSeq (n : Nat) (x : Launch) : (s.setLaunch n x).mbxSeq = s.mbxSeq := rfl
@[simp] theorem State.setLaunch_busy (n : Nat) (x : Launch) : (s.setLaunch n x).busy = s.busy := rfl
@[simp] theorem State.setLaunch_nextId (n : Nat) (x : Launch) : (s.setLaunch n x).nextId = s.nextId := rfl
@[simp] theorem State.setLaunch_freeCtr (n : Nat) (x : Launch) : (s.setLaunch n x).freeCtr = s.freeCtr := rfl
@[simp] theorem State.setLaunch_out (n : Nat) (x : Launch) : (s.setLaunch n x).out = s.out := rfl
@[simp] theorem State.setLaunch_pending (n : Nat) (x : Launch) : (s.setLaunch n x).pending = s.pending := rfl

@[simp] theorem State.setPort_units (n : Nat) (x : Port) : (s.setPort n x).units = s.units := rfl
@[simp] theorem State.setPort_boot (n : Nat) (x : Port) : (s.setPort n x).boot = s.boot := rfl
@[simp] theorem State.setPort_time (n : Nat) (x : Port) : (s.setPort n x).time = s.time := rfl
@[simp] theorem State.setPort_regs (n : Nat) (x : Port) : (s.setPort n x).regs = s.regs := rfl
@[simp] theorem State.setPort_freeze (n : Nat) (x : Port) : (s.setPort n x).freeze = s.freeze := rfl
@[simp] theorem State.setPort_dict (n : Nat) (x : Port) : (s.setPort n x).dict = s.dict := rfl
@[simp] theorem State.setPort_power (n : Nat) (x : Port) : (s.setPort n x).power = s.power := rfl
@[simp] theorem State.setPort_dram (n : Nat) (x : Port) : (s.setPort n x).dram = s.dram := rfl
@[simp] theorem State.setPort_rstore (n : Nat) (x : Port) : (s.setPort n x).rstore = s.rstore := rfl
@[simp] theorem State.setPort_pmap (n : Nat) (x : Port) : (s.setPort n x).pmap = s.pmap := rfl
@[simp] theorem State.setPort_agents (n : Nat) (x : Port) : (s.setPort n x).agents = s.agents := rfl
@[simp] theorem State.setPort_dirs (n : Nat) (x : Port) : (s.setPort n x).dirs = s.dirs := rfl
@[simp] theorem State.setPort_net (n : Nat) (x : Port) : (s.setPort n x).net = s.net := rfl
@[simp] theorem State.setPort_cores (n : Nat) (x : Port) : (s.setPort n x).cores = s.cores := rfl
@[simp] theorem State.setPort_launches (n : Nat) (x : Port) : (s.setPort n x).launches = s.launches := rfl
@[simp] theorem State.setPort_queues (n : Nat) (x : Port) : (s.setPort n x).queues = s.queues := rfl
@[simp] theorem State.setPort_enq (n : Nat) (x : Port) : (s.setPort n x).enq = s.enq := rfl
@[simp] theorem State.setPort_ctxs (n : Nat) (x : Port) : (s.setPort n x).ctxs = s.ctxs := rfl
@[simp] theorem State.setPort_mobjs (n : Nat) (x : Port) : (s.setPort n x).mobjs = s.mobjs := rfl
@[simp] theorem State.setPort_fences (n : Nat) (x : Port) : (s.setPort n x).fences = s.fences := rfl
@[simp] theorem State.setPort_batons (n : Nat) (x : Port) : (s.setPort n x).batons = s.batons := rfl
@[simp] theorem State.setPort_reqs (n : Nat) (x : Port) : (s.setPort n x).reqs = s.reqs := rfl
@[simp] theorem State.setPort_meter (n : Nat) (x : Port) : (s.setPort n x).meter = s.meter := rfl
@[simp] theorem State.setPort_rings (n : Nat) (x : Port) : (s.setPort n x).rings = s.rings := rfl
@[simp] theorem State.setPort_fatal (n : Nat) (x : Port) : (s.setPort n x).fatal = s.fatal := rfl
@[simp] theorem State.setPort_traces (n : Nat) (x : Port) : (s.setPort n x).traces = s.traces := rfl
@[simp] theorem State.setPort_itrace (n : Nat) (x : Port) : (s.setPort n x).itrace = s.itrace := rfl
@[simp] theorem State.setPort_pcie (n : Nat) (x : Port) : (s.setPort n x).pcie = s.pcie := rfl
@[simp] theorem State.setPort_mbxReq (n : Nat) (x : Port) : (s.setPort n x).mbxReq = s.mbxReq := rfl
@[simp] theorem State.setPort_mbxRsp (n : Nat) (x : Port) : (s.setPort n x).mbxRsp = s.mbxRsp := rfl
@[simp] theorem State.setPort_mbxSeq (n : Nat) (x : Port) : (s.setPort n x).mbxSeq = s.mbxSeq := rfl
@[simp] theorem State.setPort_busy (n : Nat) (x : Port) : (s.setPort n x).busy = s.busy := rfl
@[simp] theorem State.setPort_nextId (n : Nat) (x : Port) : (s.setPort n x).nextId = s.nextId := rfl
@[simp] theorem State.setPort_freeCtr (n : Nat) (x : Port) : (s.setPort n x).freeCtr = s.freeCtr := rfl
@[simp] theorem State.setPort_out (n : Nat) (x : Port) : (s.setPort n x).out = s.out := rfl
@[simp] theorem State.setPort_pending (n : Nat) (x : Port) : (s.setPort n x).pending = s.pending := rfl

@[simp] theorem State.tally_units (idx event die n : Nat) : (s.tally idx event die n).units = s.units := rfl
@[simp] theorem State.tally_boot (idx event die n : Nat) : (s.tally idx event die n).boot = s.boot := rfl
@[simp] theorem State.tally_time (idx event die n : Nat) : (s.tally idx event die n).time = s.time := rfl
@[simp] theorem State.tally_regs (idx event die n : Nat) : (s.tally idx event die n).regs = s.regs := rfl
@[simp] theorem State.tally_busy (idx event die n : Nat) : (s.tally idx event die n).busy = s.busy := rfl
@[simp] theorem State.tally_freeze (idx event die n : Nat) : (s.tally idx event die n).freeze = s.freeze := rfl
@[simp] theorem State.tally_dict (idx event die n : Nat) : (s.tally idx event die n).dict = s.dict := rfl
@[simp] theorem State.tally_power (idx event die n : Nat) : (s.tally idx event die n).power = s.power := rfl
@[simp] theorem State.tally_dram (idx event die n : Nat) : (s.tally idx event die n).dram = s.dram := rfl
@[simp] theorem State.tally_rstore (idx event die n : Nat) : (s.tally idx event die n).rstore = s.rstore := rfl
@[simp] theorem State.tally_pmap (idx event die n : Nat) : (s.tally idx event die n).pmap = s.pmap := rfl
@[simp] theorem State.tally_agents (idx event die n : Nat) : (s.tally idx event die n).agents = s.agents := rfl
@[simp] theorem State.tally_dirs (idx event die n : Nat) : (s.tally idx event die n).dirs = s.dirs := rfl
@[simp] theorem State.tally_net (idx event die n : Nat) : (s.tally idx event die n).net = s.net := rfl
@[simp] theorem State.tally_cores (idx event die n : Nat) : (s.tally idx event die n).cores = s.cores := rfl
@[simp] theorem State.tally_launches (idx event die n : Nat) : (s.tally idx event die n).launches = s.launches := rfl
@[simp] theorem State.tally_queues (idx event die n : Nat) : (s.tally idx event die n).queues = s.queues := rfl
@[simp] theorem State.tally_enq (idx event die n : Nat) : (s.tally idx event die n).enq = s.enq := rfl
@[simp] theorem State.tally_ctxs (idx event die n : Nat) : (s.tally idx event die n).ctxs = s.ctxs := rfl
@[simp] theorem State.tally_mobjs (idx event die n : Nat) : (s.tally idx event die n).mobjs = s.mobjs := rfl
@[simp] theorem State.tally_fences (idx event die n : Nat) : (s.tally idx event die n).fences = s.fences := rfl
@[simp] theorem State.tally_batons (idx event die n : Nat) : (s.tally idx event die n).batons = s.batons := rfl
@[simp] theorem State.tally_reqs (idx event die n : Nat) : (s.tally idx event die n).reqs = s.reqs := rfl
@[simp] theorem State.tally_links (idx event die n : Nat) : (s.tally idx event die n).links = s.links := rfl
@[simp] theorem State.tally_rings (idx event die n : Nat) : (s.tally idx event die n).rings = s.rings := rfl
@[simp] theorem State.tally_fatal (idx event die n : Nat) : (s.tally idx event die n).fatal = s.fatal := rfl
@[simp] theorem State.tally_traces (idx event die n : Nat) : (s.tally idx event die n).traces = s.traces := rfl
@[simp] theorem State.tally_itrace (idx event die n : Nat) : (s.tally idx event die n).itrace = s.itrace := rfl
@[simp] theorem State.tally_pcie (idx event die n : Nat) : (s.tally idx event die n).pcie = s.pcie := rfl
@[simp] theorem State.tally_mbxReq (idx event die n : Nat) : (s.tally idx event die n).mbxReq = s.mbxReq := rfl
@[simp] theorem State.tally_mbxSeq (idx event die n : Nat) : (s.tally idx event die n).mbxSeq = s.mbxSeq := rfl
@[simp] theorem State.tally_mbxRsp (idx event die n : Nat) : (s.tally idx event die n).mbxRsp = s.mbxRsp := rfl
@[simp] theorem State.tally_nextId (idx event die n : Nat) : (s.tally idx event die n).nextId = s.nextId := rfl
@[simp] theorem State.tally_freeCtr (idx event die n : Nat) : (s.tally idx event die n).freeCtr = s.freeCtr := rfl
@[simp] theorem State.tally_out (idx event die n : Nat) : (s.tally idx event die n).out = s.out := rfl
@[simp] theorem State.tally_pending (idx event die n : Nat) : (s.tally idx event die n).pending = s.pending := rfl

@[simp] theorem State.markBusy_units (o : Nat) : (s.markBusy o).units = s.units := rfl
@[simp] theorem State.markBusy_boot (o : Nat) : (s.markBusy o).boot = s.boot := rfl
@[simp] theorem State.markBusy_time (o : Nat) : (s.markBusy o).time = s.time := rfl
@[simp] theorem State.markBusy_regs (o : Nat) : (s.markBusy o).regs = s.regs := rfl
@[simp] theorem State.markBusy_freeze (o : Nat) : (s.markBusy o).freeze = s.freeze := rfl
@[simp] theorem State.markBusy_dict (o : Nat) : (s.markBusy o).dict = s.dict := rfl
@[simp] theorem State.markBusy_power (o : Nat) : (s.markBusy o).power = s.power := rfl
@[simp] theorem State.markBusy_dram (o : Nat) : (s.markBusy o).dram = s.dram := rfl
@[simp] theorem State.markBusy_rstore (o : Nat) : (s.markBusy o).rstore = s.rstore := rfl
@[simp] theorem State.markBusy_pmap (o : Nat) : (s.markBusy o).pmap = s.pmap := rfl
@[simp] theorem State.markBusy_agents (o : Nat) : (s.markBusy o).agents = s.agents := rfl
@[simp] theorem State.markBusy_dirs (o : Nat) : (s.markBusy o).dirs = s.dirs := rfl
@[simp] theorem State.markBusy_net (o : Nat) : (s.markBusy o).net = s.net := rfl
@[simp] theorem State.markBusy_cores (o : Nat) : (s.markBusy o).cores = s.cores := rfl
@[simp] theorem State.markBusy_launches (o : Nat) : (s.markBusy o).launches = s.launches := rfl
@[simp] theorem State.markBusy_queues (o : Nat) : (s.markBusy o).queues = s.queues := rfl
@[simp] theorem State.markBusy_enq (o : Nat) : (s.markBusy o).enq = s.enq := rfl
@[simp] theorem State.markBusy_ctxs (o : Nat) : (s.markBusy o).ctxs = s.ctxs := rfl
@[simp] theorem State.markBusy_mobjs (o : Nat) : (s.markBusy o).mobjs = s.mobjs := rfl
@[simp] theorem State.markBusy_fences (o : Nat) : (s.markBusy o).fences = s.fences := rfl
@[simp] theorem State.markBusy_batons (o : Nat) : (s.markBusy o).batons = s.batons := rfl
@[simp] theorem State.markBusy_reqs (o : Nat) : (s.markBusy o).reqs = s.reqs := rfl
@[simp] theorem State.markBusy_meter (o : Nat) : (s.markBusy o).meter = s.meter := rfl
@[simp] theorem State.markBusy_links (o : Nat) : (s.markBusy o).links = s.links := rfl
@[simp] theorem State.markBusy_rings (o : Nat) : (s.markBusy o).rings = s.rings := rfl
@[simp] theorem State.markBusy_fatal (o : Nat) : (s.markBusy o).fatal = s.fatal := rfl
@[simp] theorem State.markBusy_traces (o : Nat) : (s.markBusy o).traces = s.traces := rfl
@[simp] theorem State.markBusy_itrace (o : Nat) : (s.markBusy o).itrace = s.itrace := rfl
@[simp] theorem State.markBusy_pcie (o : Nat) : (s.markBusy o).pcie = s.pcie := rfl
@[simp] theorem State.markBusy_mbxReq (o : Nat) : (s.markBusy o).mbxReq = s.mbxReq := rfl
@[simp] theorem State.markBusy_mbxSeq (o : Nat) : (s.markBusy o).mbxSeq = s.mbxSeq := rfl
@[simp] theorem State.markBusy_mbxRsp (o : Nat) : (s.markBusy o).mbxRsp = s.mbxRsp := rfl
@[simp] theorem State.markBusy_nextId (o : Nat) : (s.markBusy o).nextId = s.nextId := rfl
@[simp] theorem State.markBusy_freeCtr (o : Nat) : (s.markBusy o).freeCtr = s.freeCtr := rfl
@[simp] theorem State.markBusy_out (o : Nat) : (s.markBusy o).out = s.out := rfl
@[simp] theorem State.markBusy_pending (o : Nat) : (s.markBusy o).pending = s.pending := rfl

@[simp] theorem State.setMapEntry_units (p i e : Nat) : (s.setMapEntry p i e).units = s.units := rfl
@[simp] theorem State.setMapEntry_boot (p i e : Nat) : (s.setMapEntry p i e).boot = s.boot := rfl
@[simp] theorem State.setMapEntry_time (p i e : Nat) : (s.setMapEntry p i e).time = s.time := rfl
@[simp] theorem State.setMapEntry_regs (p i e : Nat) : (s.setMapEntry p i e).regs = s.regs := rfl
@[simp] theorem State.setMapEntry_busy (p i e : Nat) : (s.setMapEntry p i e).busy = s.busy := rfl
@[simp] theorem State.setMapEntry_freeze (p i e : Nat) : (s.setMapEntry p i e).freeze = s.freeze := rfl
@[simp] theorem State.setMapEntry_dict (p i e : Nat) : (s.setMapEntry p i e).dict = s.dict := rfl
@[simp] theorem State.setMapEntry_power (p i e : Nat) : (s.setMapEntry p i e).power = s.power := rfl
@[simp] theorem State.setMapEntry_dram (p i e : Nat) : (s.setMapEntry p i e).dram = s.dram := rfl
@[simp] theorem State.setMapEntry_rstore (p i e : Nat) : (s.setMapEntry p i e).rstore = s.rstore := rfl
@[simp] theorem State.setMapEntry_agents (p i e : Nat) : (s.setMapEntry p i e).agents = s.agents := rfl
@[simp] theorem State.setMapEntry_dirs (p i e : Nat) : (s.setMapEntry p i e).dirs = s.dirs := rfl
@[simp] theorem State.setMapEntry_net (p i e : Nat) : (s.setMapEntry p i e).net = s.net := rfl
@[simp] theorem State.setMapEntry_cores (p i e : Nat) : (s.setMapEntry p i e).cores = s.cores := rfl
@[simp] theorem State.setMapEntry_launches (p i e : Nat) : (s.setMapEntry p i e).launches = s.launches := rfl
@[simp] theorem State.setMapEntry_queues (p i e : Nat) : (s.setMapEntry p i e).queues = s.queues := rfl
@[simp] theorem State.setMapEntry_enq (p i e : Nat) : (s.setMapEntry p i e).enq = s.enq := rfl
@[simp] theorem State.setMapEntry_ctxs (p i e : Nat) : (s.setMapEntry p i e).ctxs = s.ctxs := rfl
@[simp] theorem State.setMapEntry_mobjs (p i e : Nat) : (s.setMapEntry p i e).mobjs = s.mobjs := rfl
@[simp] theorem State.setMapEntry_fences (p i e : Nat) : (s.setMapEntry p i e).fences = s.fences := rfl
@[simp] theorem State.setMapEntry_batons (p i e : Nat) : (s.setMapEntry p i e).batons = s.batons := rfl
@[simp] theorem State.setMapEntry_reqs (p i e : Nat) : (s.setMapEntry p i e).reqs = s.reqs := rfl
@[simp] theorem State.setMapEntry_meter (p i e : Nat) : (s.setMapEntry p i e).meter = s.meter := rfl
@[simp] theorem State.setMapEntry_links (p i e : Nat) : (s.setMapEntry p i e).links = s.links := rfl
@[simp] theorem State.setMapEntry_rings (p i e : Nat) : (s.setMapEntry p i e).rings = s.rings := rfl
@[simp] theorem State.setMapEntry_fatal (p i e : Nat) : (s.setMapEntry p i e).fatal = s.fatal := rfl
@[simp] theorem State.setMapEntry_traces (p i e : Nat) : (s.setMapEntry p i e).traces = s.traces := rfl
@[simp] theorem State.setMapEntry_itrace (p i e : Nat) : (s.setMapEntry p i e).itrace = s.itrace := rfl
@[simp] theorem State.setMapEntry_pcie (p i e : Nat) : (s.setMapEntry p i e).pcie = s.pcie := rfl
@[simp] theorem State.setMapEntry_mbxReq (p i e : Nat) : (s.setMapEntry p i e).mbxReq = s.mbxReq := rfl
@[simp] theorem State.setMapEntry_mbxSeq (p i e : Nat) : (s.setMapEntry p i e).mbxSeq = s.mbxSeq := rfl
@[simp] theorem State.setMapEntry_mbxRsp (p i e : Nat) : (s.setMapEntry p i e).mbxRsp = s.mbxRsp := rfl
@[simp] theorem State.setMapEntry_nextId (p i e : Nat) : (s.setMapEntry p i e).nextId = s.nextId := rfl
@[simp] theorem State.setMapEntry_freeCtr (p i e : Nat) : (s.setMapEntry p i e).freeCtr = s.freeCtr := rfl
@[simp] theorem State.setMapEntry_out (p i e : Nat) : (s.setMapEntry p i e).out = s.out := rfl
@[simp] theorem State.setMapEntry_pending (p i e : Nat) : (s.setMapEntry p i e).pending = s.pending := rfl

@[simp] theorem State.setPack_units (c k : Nat) (x : Pack) : (s.setPack c k x).units = s.units := rfl
@[simp] theorem State.setPack_boot (c k : Nat) (x : Pack) : (s.setPack c k x).boot = s.boot := rfl
@[simp] theorem State.setPack_time (c k : Nat) (x : Pack) : (s.setPack c k x).time = s.time := rfl
@[simp] theorem State.setPack_regs (c k : Nat) (x : Pack) : (s.setPack c k x).regs = s.regs := rfl
@[simp] theorem State.setPack_freeze (c k : Nat) (x : Pack) : (s.setPack c k x).freeze = s.freeze := rfl
@[simp] theorem State.setPack_dict (c k : Nat) (x : Pack) : (s.setPack c k x).dict = s.dict := rfl
@[simp] theorem State.setPack_power (c k : Nat) (x : Pack) : (s.setPack c k x).power = s.power := rfl
@[simp] theorem State.setPack_dram (c k : Nat) (x : Pack) : (s.setPack c k x).dram = s.dram := rfl
@[simp] theorem State.setPack_rstore (c k : Nat) (x : Pack) : (s.setPack c k x).rstore = s.rstore := rfl
@[simp] theorem State.setPack_pmap (c k : Nat) (x : Pack) : (s.setPack c k x).pmap = s.pmap := rfl
@[simp] theorem State.setPack_agents (c k : Nat) (x : Pack) : (s.setPack c k x).agents = s.agents := rfl
@[simp] theorem State.setPack_dirs (c k : Nat) (x : Pack) : (s.setPack c k x).dirs = s.dirs := rfl
@[simp] theorem State.setPack_net (c k : Nat) (x : Pack) : (s.setPack c k x).net = s.net := rfl
@[simp] theorem State.setPack_launches (c k : Nat) (x : Pack) : (s.setPack c k x).launches = s.launches := rfl
@[simp] theorem State.setPack_queues (c k : Nat) (x : Pack) : (s.setPack c k x).queues = s.queues := rfl
@[simp] theorem State.setPack_enq (c k : Nat) (x : Pack) : (s.setPack c k x).enq = s.enq := rfl
@[simp] theorem State.setPack_ctxs (c k : Nat) (x : Pack) : (s.setPack c k x).ctxs = s.ctxs := rfl
@[simp] theorem State.setPack_mobjs (c k : Nat) (x : Pack) : (s.setPack c k x).mobjs = s.mobjs := rfl
@[simp] theorem State.setPack_fences (c k : Nat) (x : Pack) : (s.setPack c k x).fences = s.fences := rfl
@[simp] theorem State.setPack_batons (c k : Nat) (x : Pack) : (s.setPack c k x).batons = s.batons := rfl
@[simp] theorem State.setPack_reqs (c k : Nat) (x : Pack) : (s.setPack c k x).reqs = s.reqs := rfl
@[simp] theorem State.setPack_meter (c k : Nat) (x : Pack) : (s.setPack c k x).meter = s.meter := rfl
@[simp] theorem State.setPack_links (c k : Nat) (x : Pack) : (s.setPack c k x).links = s.links := rfl
@[simp] theorem State.setPack_rings (c k : Nat) (x : Pack) : (s.setPack c k x).rings = s.rings := rfl
@[simp] theorem State.setPack_fatal (c k : Nat) (x : Pack) : (s.setPack c k x).fatal = s.fatal := rfl
@[simp] theorem State.setPack_traces (c k : Nat) (x : Pack) : (s.setPack c k x).traces = s.traces := rfl
@[simp] theorem State.setPack_itrace (c k : Nat) (x : Pack) : (s.setPack c k x).itrace = s.itrace := rfl
@[simp] theorem State.setPack_pcie (c k : Nat) (x : Pack) : (s.setPack c k x).pcie = s.pcie := rfl
@[simp] theorem State.setPack_mbxReq (c k : Nat) (x : Pack) : (s.setPack c k x).mbxReq = s.mbxReq := rfl
@[simp] theorem State.setPack_mbxRsp (c k : Nat) (x : Pack) : (s.setPack c k x).mbxRsp = s.mbxRsp := rfl
@[simp] theorem State.setPack_mbxSeq (c k : Nat) (x : Pack) : (s.setPack c k x).mbxSeq = s.mbxSeq := rfl
@[simp] theorem State.setPack_busy (c k : Nat) (x : Pack) : (s.setPack c k x).busy = s.busy := rfl
@[simp] theorem State.setPack_nextId (c k : Nat) (x : Pack) : (s.setPack c k x).nextId = s.nextId := rfl
@[simp] theorem State.setPack_freeCtr (c k : Nat) (x : Pack) : (s.setPack c k x).freeCtr = s.freeCtr := rfl
@[simp] theorem State.setPack_out (c k : Nat) (x : Pack) : (s.setPack c k x).out = s.out := rfl
@[simp] theorem State.setPack_pending (c k : Nat) (x : Pack) : (s.setPack c k x).pending = s.pending := rfl

/-! ### Reads of what an update wrote -/

theorem State.reg_setReg (o j v : Nat) : (s.setReg o v).reg j = if o = j then v % 2 ^ 64 else s.reg j := by
  unfold State.reg State.setReg
  by_cases h : o = j
  · subst h; simp
  · simp [Tab.get_set_other _ _ _ _ h, h]

@[simp] theorem State.reg_setReg_self (o v : Nat) : (s.setReg o v).reg o = v % 2 ^ 64 := by simp [State.reg_setReg]

theorem State.reg_setReg_other {o j : Nat} (v : Nat) (h : o ≠ j) : (s.setReg o v).reg j = s.reg j := by
  simp [State.reg_setReg, h]

theorem State.reg_count (o j n : Nat) :
    (s.count o n).reg j = if o = j then (s.reg o + n) % 2 ^ 64 else s.reg j := by
  simp [State.count, State.reg_setReg, wrap64]

/-- A counter's update changes no field but the registers. -/
theorem State.count_eq (o n : Nat) : s.count o n = { s with regs := (s.count o n).regs } := rfl

theorem State.core_setCore (n j : Nat) (x : Core) : (s.setCore n x).core j = if n = j then x else s.core j :=
  Tab.get_set _ _ _ _ _

@[simp] theorem State.core_setCore_self (n : Nat) (x : Core) : (s.setCore n x).core n = x := by simp [State.core_setCore]

theorem State.core_setCore_other {n j : Nat} (x : Core) (h : n ≠ j) : (s.setCore n x).core j = s.core j := by
  simp [State.core_setCore, h]

@[simp] theorem State.core_setReg (o v c : Nat) : (s.setReg o v).core c = s.core c := rfl
@[simp] theorem State.core_count (o v c : Nat) : (s.count o v).core c = s.core c := rfl
@[simp] theorem State.core_tick (dt c : Nat) : (s.tick dt).core c = s.core c := rfl
@[simp] theorem State.core_useFree (n c : Nat) : (s.useFree n).core c = s.core c := rfl

theorem State.agent_setAgent (n j : Nat) (x : Agent) : (s.setAgent n x).agent j = if n = j then x else s.agent j :=
  Tab.get_put _ _ _ _ _

theorem State.dir_setDir (n j : Nat) (x : Dir) : (s.setDir n x).dir j = if n = j then x else s.dir j :=
  Tab.get_put _ _ _ _ _

theorem State.queue_setQueue (n j : Nat) (x : Queue) : (s.setQueue n x).queue j = if n = j then x else s.queue j :=
  Tab.get_set _ _ _ _ _

theorem State.ctx_setCtx (n j : Nat) (x : Context) : (s.setCtx n x).ctx j = if n = j then x else s.ctx j :=
  Tab.get_set _ _ _ _ _

theorem State.mobj_setMobj (n j : Nat) (x : MObj) : (s.setMobj n x).mobj j = if n = j then x else s.mobj j :=
  Tab.get_set _ _ _ _ _

theorem State.fence_setFence (n j : Nat) (x : Fence) : (s.setFence n x).fence j = if n = j then x else s.fence j :=
  Tab.get_set _ _ _ _ _

theorem State.baton_setBaton (n j : Nat) (x : Baton) : (s.setBaton n x).baton j = if n = j then x else s.baton j :=
  Tab.get_set _ _ _ _ _

theorem State.request_setRequest (n j : Nat) (x : Request) :
    (s.setRequest n x).request j = if n = j then x else s.request j := Tab.get_set _ _ _ _ _

theorem State.port_setPort (n j : Nat) (x : Port) : (s.setPort n x).port j = if n = j then x else s.port j :=
  Tab.get_set _ _ _ _ _

theorem State.pfn_setPfn (n j : Nat) (x : PFn) : (s.setPfn n x).pfn j = if n = j then x else s.pfn j :=
  Tab.get_set _ _ _ _ _

theorem State.launch_setLaunch (n j : Nat) (x : Launch) :
    (s.setLaunch n x).launch j = if n = j then some x else s.launch j := Tab.look_put _ _ _ _

theorem State.pack_setPack (c k j i : Nat) (x : Pack) :
    (s.setPack c k x).pack j i = if c = j ∧ k = i then some x else s.pack j i := by
  unfold State.setPack State.pack
  by_cases h : c = j
  · subst h; simp [Tab.look_put]
  · simp [State.core_setCore, h]

@[simp] theorem State.pack_setPack_self (c k : Nat) (x : Pack) : (s.setPack c k x).pack c k = some x := by
  simp [State.pack_setPack]

theorem State.core_setPack_other {c j : Nat} (k : Nat) (x : Pack) (h : c ≠ j) : (s.setPack c k x).core j = s.core j := by
  simp [State.setPack, State.core_setCore, h]

theorem State.core_setPack_self (c k : Nat) (x : Pack) :
    (s.setPack c k x).core c = { s.core c with packs := Tab.put (s.core c).packs k x } := by
  simp [State.setPack]

end Sys2Proof.Machine
end

