-- ==== Sys2Proof/Laws/Issue.lean ====
section
/-! SUPPORT. What issuing an instruction can do: on the SIMT engine for a group that issues, on the coach core for a
program that runs, and nothing in a module that runs no work. -/

namespace Sys2Proof.Machine

/-- The outcome of an effect of the SIMT engine, in the state once the issue is counted. -/
def Eff.result (g : Group) (s t : State) : Eff → Res
  | .ok u => .next u
  | .fault k => .next (t.kernelFault g.core g.slot g.pc k)
  | .notReady => .next s
  | .wait f => .next (f s)

/-- The outcome of an effect of the coach core. -/
def CEff.result (g : Program) (s t : State) : CEff → Res
  | .ok u => .next u
  | .fault st reason => .next (t.coachFault g.core st reason)
  | .notReady => .next s

theorem simt_issues {g : Group} {s : State} {regs : List Nat} (h : g.Issues s regs) (f : Ctx → State → Eff) :
    s.simt g.core g.slot regs f = (f g.ctx (g.start s)).result g s (g.start s) := by
  obtain ⟨hc, hs, ha, hk, hl, hp, he, hch, hf, hr⟩ := h
  simp only [State.simt, onUnit, hc, hs, decide_true, Bool.and_self, if_true, ha, hk, hp, hl, he, hch, hf, hr,
    Bool.not_true, Bool.false_eq_true, if_false]
  rfl

theorem coachRun_runs {g : Program} {s : State} {regs : List Nat} (h : g.Runs s regs)
    (f : Launch → Coach → State → CEff) :
    s.coachRun g.core regs f = (f g.launch (s.core g.core).coach (g.start s)).result g s (g.start s) := by
  obtain ⟨hc, ha, hl, hx, hrun, hw, hf, hr⟩ := h
  simp only [State.coachRun, onUnit, hc, decide_true, if_true, ha, hl, hx, hrun, hw, Bool.and_self, hf, hr,
    Bool.false_eq_true, if_false, decide_true]
  rfl

/-- Counting an issue leaves the pack as issued in its slot. -/
theorem Group.pack_start (g : Group) (s : State) : (g.start s).pack g.core g.slot = some g.issued := by
  have h : ∀ (t : State) (o v : Nat), (t.count o v).pack g.core g.slot = t.pack g.core g.slot := fun _ _ _ => rfl
  have ht : ∀ (t : State) (i e d n : Nat), (t.tally i e d n).pack g.core g.slot = t.pack g.core g.slot :=
    fun _ _ _ _ _ => rfl
  have hu : ∀ (t : State) (n : Nat), (t.useFree n).pack g.core g.slot = t.pack g.core g.slot := fun _ _ => rfl
  have ho : ∀ (t : State) (o : IssueOrder),
      (t.setCore g.core { t.core g.core with issue := o }).pack g.core g.slot = t.pack g.core g.slot := by
    intro t o; simp [State.pack]
  simp only [Group.start, State.issue, hu, ht]
  split <;> simp only [h, ho, State.pack_setPack_self]

theorem Group.finish (g : Group) (s : State) (f : Nat → Thread → Thread) :
    g.ctx.finish (g.start s) f = .ok (g.after s f) := by
  simp only [Ctx.finish, Group.ctx, g.pack_start]
  rfl

theorem Group.finishS (g : Group) (s : State) (d v : Nat) :
    g.ctx.finishS (g.start s) (fun p => p.setSreg d v) = .ok (g.afterScalar s d v) := by
  simp only [Ctx.finishS, Group.ctx, g.pack_start]
  rfl

/-! ### Vector instructions -/

theorem alignedReg_holds {g : Group} {r n : Nat} (h : g.holds r n) : alignedReg r n = true := by
  unfold alignedReg; rcases h with h | h
  · simp [h]
  · simp [h.1]

theorem below_holds {g : Group} {r n : Nat} (h : g.holds r n) : regsBelow (roundedRegs g.launch.regs) r n = true := by
  unfold regsBelow; rcases h with h | h
  · simp [h]
  · simp only [h.2, decide_true, Bool.or_true]

/-- A vector instruction whose word and registers are as R122 and R124 ask writes its value in every thread of the group. -/
theorem vec_takes {g : Group} {s : State} {w : BitVec 64} {h : Shape} (ht : g.Takes s w h) (ok : RWord → Bool)
    (op : Ctx → RWord → Thread → Nat → Nat) (hok : ok (rword w) = true) :
    s.vec g.eng w ok h op = .next (g.after s (fun l t => t.setRegs (rword w).d (op g.ctx (rword w) t l) h.d)) := by
  obtain ⟨hc, hi, hf⟩ := ht
  unfold State.vec Group.eng
  simp only
  rw [simt_issues hi]
  have h1 : (h.fields (rword w)).any (fun o => !alignedReg o.1 o.2) = false := by
    rw [List.any_eq_false]; intro o ho; simp [alignedReg_holds (hf o ho)]
  have h2 : (h.fields (rword w)).any (fun o => !regsBelow (g.ctx).count o.1 o.2) = false := by
    rw [List.any_eq_false]; intro o ho
    have := below_holds (hf o ho)
    simp [Ctx.count, Group.ctx, this]
  simp only [hc, hok, h1, h2, Bool.not_true, Bool.or_false, Bool.false_eq_true, if_false, g.finish, Eff.result]

/-- An instruction of a pack in a module that runs no work changes nothing. -/
theorem simt_not_alive {s : State} (h : s.alive = false) (c k : Nat) (regs : List Nat) (f : Ctx → State → Eff) :
    s.simt c k regs f = onUnit (c < s.nCores && k < 64) (.next s) := by
  simp [State.simt, h]

/-- An instruction of an address program in a module that runs no work changes nothing. -/
theorem coachRun_not_alive {s : State} (h : s.alive = false) (c : Nat) (regs : List Nat)
    (f : Launch → Coach → State → CEff) : s.coachRun c regs f = onUnit (c < s.nCores) (.next s) := by
  simp [State.coachRun, h]

end Sys2Proof.Machine
end

