-- ==== Sys2Proof/Laws/Shared.lean ====
section
/-! SUPPORT. What shared operations can change, said once for each: the fields of the state that may differ after it. -/

namespace Sys2Proof.Machine

variable (s : State)

/-- A count changes one register. -/
theorem State.count_only (o n : Nat) : ∃ r, s.count o n = { s with regs := r } := ⟨_, rfl⟩

/-- Counters of cycles and the free values they take. -/
theorem State.accrue_only (l : List Nat) : ∃ r c, s.accrue l = { s with regs := r, freeCtr := c } := by
  unfold State.accrue
  induction l generalizing s with
  | nil => exact ⟨_, _, rfl⟩
  | cons o l ih =>
    obtain ⟨r, c, h⟩ := ih ((s.count o (s.freeVal 64)).useFree 1)
    exact ⟨r, c, h⟩

/-- A look at BUSY. -/
theorem State.stillBusy_only (o : Nat) : ∃ b c, (s.stillBusy o).1 = { s with busy := b, freeCtr := c } := by
  unfold State.stillBusy
  split
  · exact ⟨_, _, rfl⟩
  · split <;> exact ⟨_, _, rfl⟩

/-- A translation taken into a holder's cache. -/
theorem State.tlbFill_only (holder p vpn : Nat) :
    ∃ r m, s.tlbFill holder p vpn = { s with regs := r, pmap := m } := by
  unfold State.tlbFill
  dsimp only
  split <;> exact ⟨_, _, rfl⟩

/-- A read asked of host memory for a packet; none beyond the 768 outstanding (R418). -/
theorem State.askHost_only (q n va addr len : Nat) :
    ∃ p o, s.askHost q n va addr len = { s with pcie := p, out := o } := by
  unfold State.askHost
  split <;> exact ⟨_, _, rfl⟩

theorem State.askHost_full (q n va addr len : Nat) (h : s.readRoom 1 = false) : s.askHost q n va addr len = s := by
  simp [State.askHost, h]

theorem State.askHost_room (q n va addr len : Nat) (h : s.readRoom 1 = true) :
    ((s.askHost q n va addr len).pcie.reads.look s.freeTag).isSome = true := by
  simp [State.askHost, h, State.emit]

/-- With room for a read its tag is one that no read holds: 769 tags are tried and at most 767 are taken. -/
theorem State.freeTag_free (h : s.readRoom 1 = true) : (s.pcie.reads.look s.freeTag).isNone = true := by
  unfold State.freeTag
  cases hf : (List.range 769).find? (fun i => (Tab.look s.pcie.reads ((s.pcie.nextTag + i) % 1024)).isNone) with
  | some i => simpa using List.find?_some hf
  | none =>
    exfalso
    have taken : ∀ i < 769, (s.pcie.nextTag + i) % 1024 ∈ s.pcie.reads.map Prod.fst := by
      intro i hi
      have := List.find?_eq_none.1 hf i (List.mem_range.2 hi)
      simp only [Tab.look, Option.isNone_iff_eq_none, Option.map_eq_none_iff, List.find?_eq_none] at this
      push Not at this
      obtain ⟨p, hp, he⟩ := this
      exact List.mem_map.2 ⟨p, hp, by simpa using he⟩
    have nodup : ((List.range 769).map (fun i => (s.pcie.nextTag + i) % 1024)).Nodup := by
      refine List.Nodup.map_on ?_ List.nodup_range
      intro a ha b hb hab
      simp only [List.mem_range] at ha hb
      omega
    have le := (nodup.subperm (fun x hx => by
      obtain ⟨i, hi, rfl⟩ := List.mem_map.1 hx
      exact taken i (List.mem_range.1 hi))).length_le
    simp [State.readRoom] at h le
    omega

/-- A register access put off to the end of the command. -/
theorem State.askRegs_only (q n p addr len : Nat) : ∃ x, s.askRegs q n p addr len = { s with pcie := x } := ⟨_, rfl⟩

/-- Host memory forgotten for a packet. -/
theorem State.forget_only (q n : Nat) : ∃ x, s.forget q n = { s with pcie := x } := ⟨_, rfl⟩

end Sys2Proof.Machine
end

