-- ==== Sys2Proof/Tests/Slice0.lean ====
section
/-! SUPPORT. Tests: ill-formed commands are refused; single commands on small states give what the specification's own
numbers say; and for every statement with hypotheses a concrete state and operands that meet them (`witness_<statement>`). -/

namespace Sys2Proof.Tests

open Sys2Proof Sys2Proof.Machine

/- One proof at a time: many at once would each hold a stack of their own. -/
set_option Elab.async false

/-! ### Ill-formed commands -/

theorem test_wf_engines : [Instr.iadd (.simt 160 0) 1#64, .iadd (.simt 0 64) 1#64, .iadd (.coach 160) 1#64,
    .iadd (.simt 0 0) 2#64, .exit (.coach 0) 0x95#64, .reservedOpcode (.simt 0 0) 0x94#64].all (fun i => !i.wf) = true := by
  decide +kernel

theorem test_wf_units : [Instr.mm 160, .kernelBoundary 160, .slotDataWrite 0 0 32 0, .injectCell 160, .channelHot 64,
    .clearingComplete true 20, .clearingComplete false 512, .translationWalk 189 0 0 0, .translationWalk 0 0 4096 0,
    .receiptRingWrite 9, .traceDrain 22 0, .droopDetect 6 0, .thermalTrip 64 0, .regulatorFault 12].all (fun i => !i.wf) =
    true := by
  decide +kernel

theorem test_wf_host : [Instr.registerWrite 9 0 4 0 false, .registerWrite 0 (2 ^ 26) 4 0 false, .registerWrite 0 0 4 (2 ^ 32) false,
    .registerRead 0 0 4097, .mapWrite 9 0, .mapWrite 0 8, .bar4Write 9 0 [] false, .hifReset 9 1 SelfTest.pass,
    .lnkGwDb 0 64 0, .gwApertureWrite 0 0 0x20000 [0#8], .vfFlr 0, .vfFlr 9, .d3hotEntry 9, .pcieLinkTrained 7 16 true,
    .pcieLinkTrained 6 3 true, .traceTailWrite 0 9 0, .strDbTail 0 65536 0].all (fun i => !i.wf) = true := by
  decide +kernel

theorem test_wf_coherence : [Instr.rds 20 0 0, .rds 0 (2 ^ 32) 0, .rds 0 0 31, .rdcur 0 0 30, .inv 21 0 0, .recall 21 0,
    .datag 0 0 0 4 0, .datag 0 0 0 0 32, .data 22 0 0 0 ⟨false, .none⟩, .fwdmiss 20 0 0, .invack true 20 0 0, .invack false 21 0 0,
    .agentSilentTimeout 0 0 4 0, .bridgeRetriesExhausted 21 0 0].all (fun i => !i.wf) = true := by
  decide +kernel

theorem test_wf_starter : [Instr.packetDecode 65536, .schedulerPass 8, .copy 65536, .contextDefunct 4096 0,
    .mapScanComplete 4096, .mobjRelease (2 ^ 20), .deadlineExpiry 0 0 (2 ^ 64)].all (fun i => !i.wf) = true := by
  decide +kernel

theorem test_wf_links : [Instr.flitSend 16, .linkTraining 16 (.done 0), .peerLost 64 0, .reduceResult 8192, .collTimeout 8192 0,
    .e2eAck 64 0 0 0, .rnrResend 64 0 0, .retrain 9 0, .retrain 0 16, .sessionIdleExpiry 65536 0,
    .lpddr5xTransferComplete (2 ^ 39) .write 0, .lpddr5xTransferComplete 0 .write 6].all (fun i => !i.wf) = true := by
  decide +kernel

/-! ### A small state: partition 0 holds cluster 0 and LPDDR5X unit 1, and a kernel runs on core 0 -/

/-- Entries of the dictionary: partition 0's carve-out. -/
def carve0 : Tab Nat :=
  [(0x410001, 1), (0x410002, 2), (0x410003, 0), (0x410004, 1), (0x410006, 0), (0x410007, 16), (0x410008, 0),
   (0x410009, 16), (0x41000A, 0), (0x41000B, 16), (0x41000C, 0), (0x41000D, 16), (0x41000E, 0), (0x41000F, 16),
   (0x410010, 0), (0x410011, 16), (0x410013, 0), (0x410014, 16)]

/-- The state after reset with partition 0 carved out, context 0 LIVE, and virtual pages 0 and 1 mapped to the first two
pages of unit 1, page 2 to the next as UC, page 3 to PCIe as DEV. -/
def carved0 : State :=
  { State.reset with
    dict := { Dict.init with active := carve0 }
    pmap := { State.reset.pmap with entries :=
      [(0, BitVec.ofNat 128 (0x21 + 2 ^ 64 * 0x8000)), (8, BitVec.ofNat 128 (0x21 + 2 ^ 31 + 2 ^ 64 * 0x8001)),
       (16, BitVec.ofNat 128 (0x27 + 2 ^ 31 * 2 + 2 ^ 64 * 0x8002)),
       (24, BitVec.ofNat 128 (0x29 + 2 ^ 31 * 3 + 2 ^ 64 + 2 ^ 113 * 3))] }
    ctxs := [(0, { Context.init with st := .live })] }

/-- A thread at 0x100. -/
def thread0 : Thread :=
  { pc := 0x100, exited := false, v := [(3, 5#32), (4, 7#32), (10, 0x8000#32), (12, 0x10000#32), (14, 0x18000#32)], awaits := [], wait := .none, since := 0, waitPc := 0,
    lastIssue := 0, arrivals := [0, 0, 0, 0], resv := none, acq := false, rel := false }

/-- The second thread, whose v8 is 128. -/
def thread1 : Thread := { thread0 with v := [(3, 5#32), (4, 7#32), (8, 128#32), (10, 0x8000#32), (12, 0x10000#32), (14, 0x18000#32)] }

def pack0 : Pack :=
  { team := 0, pack := 0, threads := [thread0, thread1], sregs := [(5, 0x8000#64), (6, 4#64)], sq := [], slots := 0 }

def launch0 : Launch :=
  { lap := false, q := 1, n := 0, part := 0, ctx := 0, ptag := 7, stamp := 0, entry := 0x100, arg := 0, place := [0],
    teams := 1, packs := 1, regs := 32, scratch := 1, next := 1, ended := 0, addr := 0, ncmd := 0, replays := 0, seed := 0,
    paced := false, stopGlint := false, loaded := false, seqLap := [], seqNext := 0, status := 0, stops := [],
    glint := false, complete := false }

def team0 : Team := { gens := [0, 0, 0, 0], scratch := [], seed := 0 }

/-- The kernel of launch 1 on core 0, with its one pack in slot 0. -/
def runs (p : Pack) : State :=
  { carved0 with
    cores := [(0, { Core.init with kernel := some 1, packs := [(0, p)], teams := [(0, team0)] })]
    launches := [(1, launch0)] }

/-- The issue group of both lanes. -/
def grp (p : Pack) : Group :=
  { core := 0, slot := 0, pack := p, lid := 1, launch := launch0, pc := 0x100, lanes := [0, 1], aged := false }

def kern0 : State := runs pack0
def grp0 : Group := grp pack0

theorem issues0 (regs : List Nat) : grp0.Issues kern0 regs :=
  ⟨by decide +kernel, by decide +kernel, by decide +kernel, by decide +kernel, by decide +kernel, by decide +kernel,
   by decide +kernel, by decide +kernel, by decide +kernel, by simp [grp0, grp, pack0, thread0, thread1, Pack.thread, nth]⟩

theorem takes0 {w : BitVec 64} {h : Shape} (hc : (rword w).clean = true)
    (hf : ∀ o ∈ h.fields (rword w), o.1 = 255 ∨ (o.1 % o.2 = 0 ∧ o.1 + o.2 ≤ min (roundedRegs 32) 255)) :
    grp0.Takes kern0 w h := ⟨hc, issues0 _, hf⟩

/-- An outcome that is a next state. -/
def isNext : Res → Bool
  | .next _ => true
  | _ => false

theorem goes {r : Res} (h : isNext r = true) : ∃ t, r = .next t := by
  cases r with
  | next t => exact ⟨t, rfl⟩
  | fault f => simp [isNext] at h
  | refused f => simp [isNext] at h


/-! ### Instructions of kernels and address programs -/

/-- A coach core at 0x100 with loops and registers. -/
def coach0 : Coach :=
  { Coach.init with running := true, pc := 0x100, s := [(5, 0x8000#64), (6, 4#64)] }

def lap0 : LapRun := { LapRun.init 1 0 1 0 with cmds := [0#256] }

/-- A lap of launch 1 on core 0 whose address program runs as `k`. -/
def programs (k : Coach) : State :=
  { carved0 with
    cores := [(0, { Core.init with lap := some lap0, coach := k })]
    launches := [(1, { launch0 with lap := true, loaded := true, ncmd := 1, replays := 1 })] }

def prog0 : Program := { core := 0, lap := lap0, launch := { launch0 with lap := true, loaded := true, ncmd := 1, replays := 1 } }
def coached : State := programs coach0

theorem runs0 (regs : List Nat) : prog0.Runs coached regs :=
  ⟨by decide +kernel, by decide +kernel, by decide +kernel, by decide +kernel, by decide +kernel, by decide +kernel,
   by decide +kernel, by simp [prog0, coached, programs, State.core, Tab.get, coach0, Coach.init]⟩

/-- Words of format R: opcode 0, D 2, A 4, B 4, C 255; the second has I and IMM 8; the third FMT 1; the fourth D 255. -/
def wR : BitVec 64 := 0x0000FF0400040200#64
def wRimm : BitVec 64 := 0x0000000880040200#64
def wR1 : BitVec 64 := 0x0000FF0401040200#64
def wR255 : BitVec 64 := 0x0000FF040004FF00#64

theorem witness_VectorIntegerResults :
    ((rword wR).rnd = 0 ∧ (rword wR).fmt ≤ 1 ∧ (rword wR).isImm = false) ∧
    grp0.Takes kern0 wR { d := 1, a := 1, b := 1, c := 0 } ∧ grp0.Takes kern0 wR1 { d := 2, a := 2, b := 2, c := 0 } ∧
    grp0.Takes kern0 wR255 { d := 1, a := 1, b := 1, c := 1 } ∧ grp0.Takes kern0 wRimm { d := 1, a := 1, b := 1, c := 0 } ∧
    grp0.Takes kern0 wR { d := 1, a := 1, b := 0, c := 0 } ∧
    grp0.Takes kern0 wR { d := 1, a := 0, b := 0, c := 0 } ∧ scalarOk (rword wR).a = true :=
  ⟨by decide +kernel, takes0 (by decide +kernel) (by decide +kernel), takes0 (by decide +kernel) (by decide +kernel),
   takes0 (by decide +kernel) (by decide +kernel), takes0 (by decide +kernel) (by decide +kernel),
   takes0 (by decide +kernel) (by decide +kernel), takes0 (by decide +kernel) (by decide +kernel), by decide +kernel⟩

theorem witness_ScalarResults :
    ((rword wR).clean = true ∧ (rword wR).rnd = 0 ∧ (rword wR).fmt ≤ 1 ∧ scalarOk (rword wR).d = true ∧
      scalarOk (rword wR).a = true ∧ scalarOk (rword wR).b = true) ∧
    grp0.Issues kern0 [] ∧ (∀ regs, prog0.Runs coached regs) ∧ grp0.Issues kern0 [4, 5] ∧ grp0.holds 4 2 :=
  ⟨by decide +kernel, issues0 _, runs0, issues0 _, by unfold Group.holds; decide +kernel⟩

/-- Words with FMT 2, with RND 3 and B a format code (CVT), and with B an aligned pair (RNDD). -/
def wR2 : BitVec 64 := 0x0000FF0402040200#64
def wCvt : BitVec 64 := 0x0000040130040200#64

theorem witness_FloatResults :
    ((rword wR2).fmt = 2 ∧ (rword wCvt).rnd = 3 ∧ (rword wCvt).b ≤ 10 ∧ scalarOk (rword wR).a = true) ∧
    (∀ w ∈ [wR, wR1, wR2, wRimm], grp0.Takes kern0 w { d := 1, a := 1, b := 1, c := 0 }) ∧
    grp0.Takes kern0 wR { d := 1, a := 1, b := 1, c := 1 } ∧
    (∀ w ∈ [wR, wRimm], grp0.Takes kern0 w { d := 1, a := 1, b := 0, c := 0 }) ∧
    grp0.Takes kern0 wCvt { d := 1, a := 1, b := 0, c := 1 } ∧ grp0.Takes kern0 wR { d := 1, a := 0, b := 2, c := 0 } := by
  refine ⟨by decide +kernel, ?_, takes0 (by decide +kernel) (by decide +kernel), ?_,
    takes0 (by decide +kernel) (by decide +kernel), takes0 (by decide +kernel) (by decide +kernel)⟩
  · intro w h
    simp only [List.mem_cons, List.not_mem_nil, or_false] at h
    rcases h with rfl | rfl | rfl | rfl <;> exact takes0 (by decide +kernel) (by decide +kernel)
  · intro w h
    simp only [List.mem_cons, List.not_mem_nil, or_false] at h
    rcases h with rfl | rfl <;> exact takes0 (by decide +kernel) (by decide +kernel)

/-- SRD of index 0x11 into v2, and of index 0. -/
def wSrd : BitVec 64 := 0x0000001180000200#64

theorem witness_KernelControlFlow :
    (∀ regs, grp0.Issues kern0 regs) ∧ ((rword wRimm).clean = true ∧ (rword wRimm).rnd = 0 ∧ (rword wRimm).isImm = true ∧
      (rword wSrd).imm = 0x11 ∧ (rword wSrd).clean = true) ∧ grp0.holds 4 1 ∧ grp0.holds 4 2 ∧ grp0.holds 255 1 ∧
    (∀ l ∈ grp0.lanes, (grp0.pack.thread l).pair 6 % 8 = 0) ∧ grp0.pack.sq = [] ∧
    (kern0.pack grp0.core grp0.slot).any (fun k => k.choose.isSome) = true ∧
    grp0.Takes kern0 wR { d := 1, a := 1, b := 1, c := 0 } ∧ grp0.Takes kern0 wR2 { d := 1, a := 1, b := 0, c := 0 } := by
  refine ⟨issues0, by decide +kernel, ?_, ?_, ?_, by decide +kernel, rfl, by decide +kernel, takes0 (by decide +kernel) (by decide +kernel),
    takes0 (by decide +kernel) (by decide +kernel)⟩ <;> (try unfold Group.holds) <;> decide +kernel

theorem witness_AddressProgramControlFlow :
    (∀ regs, prog0.Runs coached regs) ∧ coach0.loops.any (fun l => decide (l.stop = coach0.pc)) = false ∧
    ((rword wRimm).clean = true ∧ (rword wRimm).rnd = 0 ∧ scalarOk (rword wRimm).a = true ∧ coach0.reg 5 % 8 = 0 ∧
      (coached.core 0).stream.length < 256 ∧ (rword wR).isImm = false ∧ scalarOk (rword wR).b = true) ∧
    (let n := (0x0000000200040088#64 : BitVec 64).toNat
     fld n 8 8 = 0 ∧ fld n 24 8 = 0 ∧ fld n 44 4 = 0 ∧ fld n 48 16 = 0 ∧ scalarOk (fld n 16 8) = true) ∧
    coach0.loops.length < 4 ∧ coach0.loops.head?.all (fun l => decide (l.stop ≠ 0x120)) = true := by
  refine ⟨runs0, ?_⟩; decide +kernel

def fullStream : List AsEntry := List.replicate 256 (.marker 0)

/-- A full address stream and a coach core at the end of a loop's body: the other clauses' states. -/
theorem witness_AddressProgramControlFlow_full :
    prog0.Runs { coached with cores := [(0, { Core.init with lap := some lap0, coach := coach0, stream := fullStream })] } [4] ∧
    fld (0x0003000200000089#64 : BitVec 64).toNat 48 16 = 3 ∧ fld (0x0003000200000089#64 : BitVec 64).toNat 16 8 = 0 :=
  ⟨⟨by decide +kernel, by decide +kernel, by decide +kernel, by decide +kernel, by decide +kernel, by decide +kernel,
    by decide +kernel, by simp [prog0, State.core, Tab.get, coach0, Coach.init]⟩, by decide +kernel, by decide +kernel⟩

/-- A word with a reserved bit set, one whose D is v3 where FMT 1 needs a pair, and one whose D is v40 of 32 registers. -/
theorem witness_IllegalAndRegisterRange :
    (∀ regs, grp0.Issues kern0 regs) ∧ (∀ regs, prog0.Runs coached regs) ∧
    (rword 0x0001FF0400040201#64).clean = false ∧
    (∃ o ∈ ({ d := 2, a := 2, b := 2, c := 0 } : Shape).fields (rword 0x0000FF0401040300#64), o.1 ≠ 255 ∧ o.1 % o.2 ≠ 0) ∧
    (rword 0x0000FF0400042800#64).clean = true ∧
    (∃ o ∈ ({ d := 1, a := 1, b := 1, c := 0 } : Shape).fields (rword 0x0000FF0400042800#64), o.1 ≠ 255 ∧
      min (roundedRegs grp0.launch.regs) 255 < o.1 + o.2) := by
  refine ⟨issues0, runs0, ?_⟩; decide +kernel

theorem witness_RegisterInstructionFrame :
    grp0.Takes kern0 wR { d := 1, a := 1, b := 1, c := 0 } ∧ grp0.Issues kern0 [] ∧
    (∃ t, exec (.iadd grp0.eng wR) kern0 = .next t) ∧ (∃ t, exec (.fadd grp0.eng wR) kern0 = .next t) ∧
    (∃ t, exec (.sadd grp0.eng wR) kern0 = .next t) ∧ (0 ∈ grp0.lanes ∧ 0 < grp0.pack.threads.length) :=
  ⟨takes0 (by decide +kernel) (by decide +kernel), issues0 _, goes (by decide +kernel), goes (by decide +kernel),
   goes (by decide +kernel), by decide +kernel⟩


theorem some_of {α : Type} {o : Option α} (h : o.isSome = true) : ∃ p, o = some p := Option.isSome_iff_exists.1 h

/-- The places of pages 0 to 3. -/
def place (pa : Nat) : Xlat := { pa := pa, tgt := 0, attr := 0, k := false }

/-- LD and ST of 4 B at s5, LINEZ at s5 + v8, ST at s5 + 2. -/
def wM : BitVec 64 := 0x0000000205FF0260#64
def wLinez : BitVec 64 := 0x000000000508FF65#64
def wMisaligned : BitVec 64 := 0x0000020205FF0260#64

/-- A word of format M or AT whose fields the group may use. -/
theorem accesses0 {legal : Bool} {fields : List (Nat × Nat)} (hl : legal = true)
    (hf : ∀ o ∈ fields, o.1 = 255 ∨ (o.1 % o.2 = 0 ∧ o.1 + o.2 ≤ min (roundedRegs 32) 255)) :
    grp0.Accesses kern0 legal fields := ⟨hl, issues0 _, hf⟩

/-- A pack whose store queue is full. -/
def sqEntry : SqEntry := { lanes := [{ lane := 0, attr := 0, pa := 0x40008000, bytes := [1#8] }], zero := false }
def packFull : Pack := { pack0 with sq := List.replicate 16 sqEntry }

theorem witness_KernelLoadsAndStores :
    grp0.Accesses kern0 (mword wM).legal (mword wM).fields ∧
    grp0.ctx.places (grp0.start kern0) (launch0.xreq false true true) (mword wM).size (grp0.addr (mword wM)) =
      .inl [(0, place 0x40008000), (1, place 0x40008000)] ∧
    grp0.ctx.places (grp0.start kern0) (launch0.xreq true true true) (mword wM).size (grp0.addr (mword wM)) =
      .inl [(0, place 0x40008000), (1, place 0x40008000)] ∧
    (grp0.start kern0).legRead (place 0x40008000) = false ∧ (place 0x40008000).attr ≠ Attr.dev ∧
    grp0.pack.sq.length < 16 ∧ (grp packFull).Issues (runs packFull) [] ∧ 16 ≤ (grp packFull).pack.sq.length ∧
    grp0.ctx.places (grp0.start kern0) (launch0.xreq true true true) 128 (grp0.addr (mword wLinez)) =
      .inl [(0, place 0x40008000), (1, place 0x40008080)] ∧
    ((mword wLinez).legal = true ∧ (mword wLinez).vr = 255 ∧ (mword wLinez).sz = 0) ∧ grp0.holds (mword wLinez).vi 1 ∧
    ([0x40008000, 0x40008080] : List Nat).Nodup := by
  refine ⟨accesses0 (by decide +kernel) (by decide +kernel), by decide +kernel, by decide +kernel, by decide +kernel,
    by decide +kernel, by decide +kernel, ⟨by decide +kernel, by decide +kernel, by decide +kernel, by decide +kernel, by decide +kernel, by decide +kernel,
      by decide +kernel, by decide +kernel, by decide +kernel, by decide +kernel⟩, by decide +kernel, by decide +kernel,
    by decide +kernel, ?_, by decide +kernel⟩
  unfold Group.holds; decide +kernel

/-- An address that is not a multiple of 4, and one of a page that is not mapped (v8 = 128 KiB above). -/
theorem witness_AlignmentAndPageFaults :
    grp0.Accesses kern0 (mword wMisaligned).legal (mword wMisaligned).fields ∧ grp0.lanes = 0 :: [1] ∧
    grp0.addr (mword wMisaligned) 0 % (mword wMisaligned).size ≠ 0 ∧
    (let w := 0x0300000205FF0260#64
     grp0.Accesses kern0 (mword w).legal (mword w).fields ∧ grp0.addr (mword w) 0 % (mword w).size = 0 ∧
     (grp0.start kern0).stale 0 0 (grp0.addr (mword w) 0) = false ∧
     (grp0.start kern0).translate 0 (launch0.xreq true true true) (grp0.addr (mword w) 0) = .inr Reason.notMapped) :=
  ⟨accesses0 (by decide +kernel) (by decide +kernel), by decide +kernel, by decide +kernel,
   accesses0 (by decide +kernel) (by decide +kernel), by decide +kernel, by decide +kernel, by decide +kernel⟩

/-- LDS of 4 B at offset 0 and at 1 KiB; ATOMS ADD, without and with a release (ORD 2), of the word at offset v3 = 5 of 16
(v15, unlisted, is 0). -/
def wS : BitVec 64 := 0x0000000200FF0263#64
def wSfar : BitVec 64 := 0x0004000200FF0263#64
def wAS : BitVec 64 := 0x0000FF04020F0271#64
def wASrel : BitVec 64 := 0x0006FF04020F0271#64

/-- The kernel with a store of its cluster accepted and not performed. -/
def kernOpen : State := kern0.setAgent 0 { kern0.agent 0 with
  accepted := [{ id := 9, line := 0x800100, bytes := [], nc := false, sent := false, zero := false, core := none, asked := false }] }

theorem issuesOpen (regs : List Nat) : grp0.Issues kernOpen regs :=
  ⟨by decide +kernel, by decide +kernel, by decide +kernel, by decide +kernel, by decide +kernel, by decide +kernel,
   by decide +kernel, by decide +kernel, by decide +kernel, by simp [grp0, grp, pack0, thread0, thread1, Pack.thread, nth]⟩

theorem releaseOver0 (scope : Nat) (h : (grp0.waited || grp0.atOnce kern0 scope) = true)
    (hp : ((if grp0.waited then grp0.start kern0 else (grp0.released kern0 scope).1).pack 0 0).isSome = true) :
    ∃ a, grp0.ReleaseOver kern0 scope a := by
  obtain ⟨p, hp⟩ := some_of hp
  exact ⟨_, h, p, hp, rfl⟩

theorem releaseWaits0 (scope : Nat) (h : (grp0.waited || grp0.atOnce kernOpen scope) = false)
    (hp : ((kernOpen.packFence 0 0 scope 2).1.pack 0 0).isSome = true) : ∃ a, grp0.ReleaseWaits kernOpen scope a := by
  obtain ⟨p, hp⟩ := some_of hp
  exact ⟨_, h, p, hp, rfl⟩

theorem witness_TeamScratch :
    (kern0.core 0).teams.look 0 = some team0 ∧
    grp0.Accesses kern0 ((mword wS).legal && (mword wS).sb = 0 && (mword wS).xm = 0) (mword wS).fields ∧
    (∀ l ∈ grp0.lanes, (mword wS).addr 0 ((mword wS).index (grp0.pack.thread l)) % 4 = 0 ∧
      (mword wS).addr 0 ((mword wS).index (grp0.pack.thread l)) + 4 ≤ launch0.scratch * 1024) ∧
    grp0.Accesses kern0 ((mword wSfar).legal && (mword wSfar).sb = 0 && (mword wSfar).xm = 0) (mword wSfar).fields ∧
    launch0.scratch * 1024 < (mword wSfar).addr 0 ((mword wSfar).index (grp0.pack.thread 0)) + 4 ∧
    grp0.Accesses kern0 ((aword wAS).legal 0) ((aword wAS).fields 0 true) ∧ (aword wAS).release = false ∧
    (∀ l ∈ grp0.lanes, (grp0.issued.thread l).reg 15 % 4 = 0 ∧ (grp0.issued.thread l).reg 15 + 4 ≤ launch0.scratch * 1024) ∧
    grp0.Accesses kern0 ((aword wASrel).legal 0) ((aword wASrel).fields 0 true) ∧ (aword wASrel).release = true ∧
    (∃ a, grp0.ReleaseOver kern0 (aword wASrel).scope a) ∧ (∃ a, grp0.ReleaseWaits kernOpen 2 a) :=
  ⟨by decide +kernel, accesses0 (by decide +kernel) (by decide +kernel), by decide +kernel,
   accesses0 (by decide +kernel) (by decide +kernel), by decide +kernel, accesses0 (by decide +kernel) (by decide +kernel),
   by decide +kernel, by decide +kernel, accesses0 (by decide +kernel) (by decide +kernel), by decide +kernel,
   releaseOver0 _ (by decide +kernel) (by decide +kernel), releaseWaits0 _ (by decide +kernel) (by decide +kernel)⟩

theorem witness_CombinedAtomicResults :
    3 < 2 ^ 32 ∧ ∀ l ∈ [(0, 4, 0), (1, 5, 6)], l.2.1 < 2 ^ 32 ∧ (l.2.2 : Nat) < 2 ^ 32 := by decide

/-- ATOM ADD of 4 B at v10, v11 (page 1), at v12 (UC) and at v14 (DEV); LDX and STX at v10 and v12. -/
def wA : BitVec 64 := 0x0000FF04020A0270#64
def wAdev : BitVec 64 := 0x0000FF04020E0270#64
def wX : BitVec 64 := 0x0000FFFF020A0272#64
def wXuc : BitVec 64 := 0x0000FFFF020C0272#64

theorem witness_AtomicsAndReservations :
    (grp0.Accesses kern0 ((aword wA).legal 0) ((aword wA).fields 0 false) ∧ (aword wA).release = false ∧
      grp0.ctx.places (grp0.start kern0) (launch0.xreq true true false) 4 (fun l => (grp0.issued.thread l).pair 10) =
        .inl [(0, place 0x40008000), (1, place 0x40008000)]) ∧
    (grp0.Accesses kern0 ((aword wAdev).legal 0) ((aword wAdev).fields 0 false) ∧
      grp0.ctx.places (grp0.start kern0) (launch0.xreq true true false) 4 (fun l => (grp0.issued.thread l).pair 14) =
        .inl [(0, { pa := 0x8000, tgt := 3, attr := Attr.dev, k := false }),
          (1, { pa := 0x8000, tgt := 3, attr := Attr.dev, k := false })]) ∧
    (grp0.Accesses kern0 ((aword wX).legal 1) ((aword wX).fields 1 false) ∧
      grp0.Accesses kern0 ((aword wX).legal 2) ((aword wX).fields 2 false) ∧
      grp0.ctx.places (grp0.start kern0) (launch0.xreq false true false) 4 (fun l => (grp0.issued.thread l).pair 10) =
        .inl [(0, place 0x40008000), (1, place 0x40008000)]) ∧
    (grp0.Accesses kern0 ((aword wXuc).legal 1) ((aword wXuc).fields 1 false) ∧
      grp0.ctx.places (grp0.start kern0) (launch0.xreq false true false) 4 (fun l => (grp0.issued.thread l).pair 12) =
        .inl [(0, { place 0x40010000 with attr := Attr.uc }), (1, { place 0x40010000 with attr := Attr.uc })]) ∧
    (∃ a, grp0.ReleaseOver kern0 2 a) ∧ (∃ a, grp0.ReleaseWaits kernOpen 2 a) :=
  ⟨⟨accesses0 (by decide +kernel) (by decide +kernel), by decide +kernel, by decide +kernel⟩,
   ⟨accesses0 (by decide +kernel) (by decide +kernel), by decide +kernel⟩,
   ⟨accesses0 (by decide +kernel) (by decide +kernel), accesses0 (by decide +kernel) (by decide +kernel), by decide +kernel⟩,
   ⟨accesses0 (by decide +kernel) (by decide +kernel), by decide +kernel⟩,
   releaseOver0 _ (by decide +kernel) (by decide +kernel), releaseWaits0 _ (by decide +kernel) (by decide +kernel)⟩


/-- FENCE of scope CLUSTER and type FULL; L1WB and L1INV. -/
def wF : BitVec 64 := 0x0000000000010078#64
def wL1 : BitVec 64 := 0x000000000000007A#64

/-- A pack whose first lane waits in a fence, with two stores to different bytes in its queue; a coach core likewise. -/
def sqOther : SqEntry := { sqEntry with lanes := [{ lane := 0, attr := 0, pa := 0x40008004, bytes := [2#8] }] }
def packFence : Pack :=
  { pack0 with threads := [{ thread0 with wait := .fence [] true }, thread1], sq := [sqEntry, sqOther] }
def coachFence : Coach := { coach0 with wait := .fence [] true, sq := [sqEntry, sqOther] }

theorem witness_FencesAndStoreQueues :
    (∀ regs, grp0.Issues kern0 regs) ∧ (∀ regs, prog0.Runs coached regs) ∧
    ((fword wF).clean = true ∧ (fword wF).sc ≤ 2 ∧ (fword wF).type ≤ 2) ∧ grp0.pack.sq = [] ∧
    ((fword wL1).clean = true ∧ (fword wL1).sc = 0 ∧ (fword wL1).type = 0) ∧
    (let s := runs packFence
     s.boot.off = false ∧ s.pack 0 0 = some packFence ∧
     packFence.threads.any (fun t => fenceOver ((s.agent 0).accepted.map fun a => a.id) t.wait t.awaits) = true ∧
     packFence.sq[1]? = some sqOther ∧ ∀ y ∈ packFence.sq.take 1, ∀ a ∈ y.lanes, ∀ b ∈ sqOther.lanes,
       a.pa + a.bytes.length ≤ b.pa ∨ b.pa + b.bytes.length ≤ a.pa) ∧
    (let s := programs coachFence
     s.boot.off = false ∧ fenceOver ((s.agent 0).accepted.map fun a => a.id) (s.core 0).coach.wait (s.core 0).coach.awaits = true ∧
     (s.core 0).coach.sq[1]? = some sqOther) := by
  refine ⟨issues0, runs0, ?_⟩; decide +kernel

/-- A pack whose threads have each arrived once at hurdle 1. -/
def packArrived : Pack := { pack0 with threads := [{ thread0 with arrivals := [0, 1, 0, 0], wait := .hurdle 1 0 }] }

theorem witness_HurdleGenerations :
    grp0.Issues kern0 [] ∧ (fword 0x0000000000010080#64).clean = true ∧ (fword 0x0000000000010080#64).type = 0 ∧
    grp0.pack.sq = [] ∧ grp0.lanes.any (fun l => !(grp0.pack.thread l).awaits.isEmpty) = false ∧
    (let s := runs packArrived
     let live := ((s.core 0).teamPacks 0).flatMap (fun p => p.2.threads.filter fun x => !x.exited)
     (s.core 0).teams.look 0 = some team0 ∧ live ≠ [] ∧ ∀ x ∈ live, nth 0 team0.gens 1 < nth 0 x.arrivals 1) := by
  refine ⟨issues0 _, ?_⟩; decide +kernel

/-- Batons 2 and 3 of partition 0 LIVE with values 0 and 3. -/
def withBatons (s : State) : State :=
  { s with batons := [(2, { Baton.init with live := true }), (3, { Baton.init with live := true, value := 3 })] }

/-- BWAIT and BSIG of baton 2 or 3 by immediate; BWAIT of s5 = 0x8000, above 8191. -/
def wBw : BitVec 64 := 0x00000003800000A2#64
def wBw0 : BitVec 64 := 0x00000002800000A2#64
def wBs : BitVec 64 := 0x00010003800000A3#64
def wBbad : BitVec 64 := 0x0000FF00000500A2#64

theorem issuesB (regs : List Nat) : grp0.Issues (withBatons kern0) regs :=
  ⟨by decide +kernel, by decide +kernel, by decide +kernel, by decide +kernel, by decide +kernel, by decide +kernel,
   by decide +kernel, by decide +kernel, by decide +kernel, by simp [grp0, grp, pack0, thread0, thread1, Pack.thread, nth]⟩

def coachRel : Coach := { coach0 with rel := true }

theorem runsB (k : Coach) (hk : k = coach0 ∨ k = coachRel) (regs : List Nat) :
    prog0.Runs (withBatons (programs k)) regs := by
  rcases hk with rfl | rfl <;>
  exact ⟨by decide +kernel, by decide +kernel, by decide +kernel, by decide +kernel, by decide +kernel, by decide +kernel,
   by decide +kernel, by simp [prog0, withBatons, programs, State.core, Tab.get, coachRel, coach0, Coach.init]⟩

theorem witness_KernelBatons :
    (∀ regs, grp0.Issues (withBatons kern0) regs) ∧ (∀ regs, prog0.Runs (withBatons coached) regs) ∧
    (let s := withBatons kern0
     let part := ((grp0.start s).simtActor 0).part
     ((batonOp (rword wBw) false grp0.pack.sreg).legal = true ∧ (batonOp (rword wBw) false grp0.pack.sreg).inRange = true ∧
      (batonOp (rword wBw0) false grp0.pack.sreg).legal = true ∧ (batonOp (rword wBw0) false grp0.pack.sreg).inRange = true ∧
      (batonOp (rword wBs) true grp0.pack.sreg).legal = true ∧ (batonOp (rword wBs) true grp0.pack.sreg).inRange = true) ∧
     (batonOp (rword wBbad) false grp0.pack.sreg).legal = true ∧ (batonOp (rword wBbad) false grp0.pack.sreg).inRange = false ∧
     s.batonCheck part 2 (some 0) = Stat.ok ∧ s.batonCheck part 3 (some 0) = Stat.ok ∧ (s.baton 2).value = 0 ∧
     0 < (s.baton 3).value) ∧
    (∃ a, grp0.ReleaseOver kern0 2 a) ∧ (∃ a, grp0.ReleaseWaits kernOpen 2 a) ∧
    (let s := withBatons kern0
     ∃ p, (s.batonSignal 3 1 (s.simtActor 0) (some 0)).1.pack 0 0 = some p) ∧
    (let s := withBatons kern0
     (s.batonSignal 3 1 (s.simtActor 0) (some 0)).2 = Stat.ok) ∧
    (let j := prog0.start (withBatons (programs coachRel))
     (j.coachActor 0).part = 0 ∧ coachRel.rel = true ∧ (j.setCoach 0 { coachRel with rel := false }).batonCheck 0 3 (some 0) = Stat.ok ∧
     ((j.setCoach 0 { coachRel with rel := false }).batonSignal 3 1 (j.coachActor 0) (some 0)).2 = Stat.ok) :=
  ⟨issuesB, fun regs => runsB coach0 (.inl rfl) regs, by decide +kernel, releaseOver0 _ (by decide +kernel) (by decide +kernel),
   releaseWaits0 _ (by decide +kernel) (by decide +kernel), some_of (by decide +kernel), by decide +kernel, by decide +kernel⟩

/-- LD and ST of 4 B into s6 at s5 (page 1), LINEZ there, ATOM ADD, LDX of s5; the same with s7 = page 2 (UC). -/
def wCM : BitVec 64 := 0x0000000205FF0660#64
def wCZ : BitVec 64 := 0x0000000005FFFF65#64
def wCA : BitVec 64 := 0x0000FF0602050670#64
def wCX : BitVec 64 := 0x0000FFFF02050672#64
def wCXuc : BitVec 64 := 0x0000FFFF02070672#64
def coach1 : Coach := { coach0 with s := [(5, 0x8000#64), (6, 4#64), (7, 0x10000#64)] }

theorem runs1 (regs : List Nat) : prog0.Runs (programs coach1) regs :=
  ⟨by decide +kernel, by decide +kernel, by decide +kernel, by decide +kernel, by decide +kernel, by decide +kernel,
   by decide +kernel, by simp [prog0, programs, State.core, Tab.get, coach1, coach0, Coach.init]⟩

theorem witness_AddressProgramMemory :
    (∀ regs, prog0.Runs (programs coach1) regs) ∧
    (let j := prog0.start (programs coach1)
     let l := prog0.launch
     ((mword wCM).legal = true ∧ scalarOk (mword wCM).vr = true ∧ scalarOk (mword wCM).vi = true ∧ (mword wCM).size = 4) ∧
     (mword wCM).addr (coach1.reg 5) ((mword wCM).cIndex coach1) = 0x8000 ∧
     j.dataXlate l (l.xreq false true true) 0x8000 4 = .inl (place 0x40008000) ∧
     j.dataXlate l (l.xreq true true true) 0x8000 4 = .inl (place 0x40008000) ∧ j.legRead (place 0x40008000) = false ∧
     coach1.sq.length < 16 ∧ (mword wMisaligned).addr (coach1.reg 5) ((mword wMisaligned).cIndex coach1) % 4 ≠ 0 ∧
     ((mword wCZ).legal = true ∧ (mword wCZ).vr = 255 ∧ (mword wCZ).sz = 0 ∧ scalarOk (mword wCZ).vi = true) ∧
     j.dataXlate l (l.xreq true true true) 0x8000 128 = .inl (place 0x40008000) ∧
     ((aword wCA).legal 0 = true ∧ (aword wCX).legal 1 = true ∧ (aword wCX).legal 2 = true ∧ (aword wCA).release = false) ∧
     j.dataXlate l (l.xreq true true false) 0x8000 4 = .inl (place 0x40008000) ∧
     ((aword wCXuc).legal 1 = true ∧ j.dataXlate l (l.xreq false true false) 0x10000 4 =
       .inl { place 0x40010000 with attr := Attr.uc })) := by
  refine ⟨runs1, ?_⟩; decide +kernel

/-! ### Kernels and laps -/

/-- A launch with a team still to start; a core whose last team has ended, before and after its stores are performed; a
launch whose teams have all ended; a pack that waits at a hurdle, and one at a baton. -/
def unstarted : State := { carved0 with launches := [(1, { launch0 with next := 0 })] }
def teamless : State := { runs pack0 with cores := [(0, { Core.init with kernel := some 1, boundary := some [] })] }
def ended0 : State := { carved0 with launches := [(1, { launch0 with ended := 1 })] }
def packBaton : Pack := { pack0 with threads := [{ thread0 with wait := .baton 2 }] }

theorem witness_KernelLife :
    (unstarted.alive = true ∧ unstarted.launch 1 = some { launch0 with next := 0 } ∧
      launch0.place.zipIdx.find? (fun e => unstarted.hasRoom 1 { launch0 with next := 0 } e.1) = some (0, 0) ∧
      ((unstarted.core 0).freeSlots 1)[0]? = some 0) ∧
    (teamless.alive = true ∧ 0 < teamless.nCores ∧ (teamless.core 0).kernel = some 1 ∧ launch0.teams ≤ launch0.next ∧
      (teamless.core 0).packs = [] ∧ (teamless.core 0).boundary = some [] ∧ (teamless.agent 0).accepted = []) ∧
    (ended0.alive = true ∧ ended0.launch 1 = some { launch0 with ended := 1 } ∧ ∀ c ∈ ended0.cores, c.2.kernel ≠ some 1) ∧
    (let t := (runs packArrived).tick (2 ^ 40)
     t.longest (t.core 0).waiting = some ⟨0, 0, 0, .hurdle 1 0, 0⟩ ∧ t.entry 0x2210 2 * 1000 ≤ t.since 0) ∧
    (let t := (runs packBaton).tick (2 ^ 40)
     t.longest (t.core 0).waiting = some ⟨0, 0, 0, .baton 2, 0⟩) := by
  decide +kernel

/-- The state in which launch `x` runs as lap `l` on core 0, whose array, coach core and address stream are given. -/
def lapState (l : LapRun) (x : Launch) (a : ArrayState) (k : Coach) (st : List AsEntry) : State :=
  { withBatons carved0 with
    cores := [(0, { Core.init with lap := some l, array := a, coach := k, stream := st, tile := [(0xC002, 0x80#8), (0xC003, 0x3F#8)] })]
    launches := [(1, x)] }

/-- A free-running lap of one command, dispatched; and a paced one. -/
def lapX : Launch := { launch0 with lap := true, loaded := true, ncmd := 1, replays := 1, addr := 0x8000 }
def lapW (w : BitVec 256) : LapRun := { LapRun.init 1 0 1 0 with cmds := [w], next := 1, win := [(0, w)] }
def lapOf (w : BitVec 256) : State := lapState (lapW w) lapX ArrayState.init Coach.init []

theorem lapAt {s : State} {l : LapRun} {x : Launch} (h : s.alive = true ∧ s.dispatch 0 = s ∧ s.lapOn 0 = some (l, x) ∧
    lapGoing l x = true ∧ 0 < s.nCores) : s.LapAt s 0 l x :=
  ⟨h.2.2.2.2, h.1, h.2.1.symm, h.2.2.1, h.2.2.2.1⟩

theorem reaches {s : State} {fn bar : Nat} (h : (fn ≤ 8) ∧ s.fnOn fn = true ∧ s.barOn = true ∧ s.ideOk fn bar = true ∧
    (s.pfn fn).d3 = false) : s.Reaches fn bar := ⟨h.1, h.2.1, h.2.2.1, h.2.2.2.1, h.2.2.2.2⟩

/-- An MM of one tile whose regions are granules 0, 256 and 512 and whose coarse scales are word 0x3000 (1.0). -/
def wMM : BitVec 256 := BitVec.ofNat 256 (0x10 + 2 ^ 96 * 256 + 2 ^ 128 * 512 + 2 ^ 192 * 0x3000 + 2 ^ 210 * 0x3000 + 2 ^ 228 * 0x3000)
def loadedArray : ArrayState := { ArrayState.init with shadow := some { ord := 0, complete := true, flip := false } }
def mmRun : MMRun :=
  { ord := 0, cmd := wMM, outs := [], glint := 0, flagged := 0, zeros := 0, sat := 0, nonfin := 0, invalid := 0, amax := 0,
    tile0 := 0, checks := [⟨true, false, 2 ^ 64 - 1⟩], inj := [], flip := false }

/-- Launch 1 still to load; loaded and paced; complete but for the record that says so. -/
def unloaded (addr : Nat) : State :=
  lapState { LapRun.init 1 0 1 0 with cmds := [] } { lapX with loaded := false, addr := addr } ArrayState.init Coach.init []
def pacedX : Launch := { lapX with paced := true }
def doneLap : LapRun := { lapW 1#256 with oldest := 1, returned := 1, popped := 1 }
def readyLap : LapRun := { lapW wMM with ready := some 0 }

theorem witness_LapDelivery :
    ((unloaded 0x8000).alive = true ∧ (unloaded 0x8000).launch 1 = some { lapX with loaded := false } ∧
      (unloaded 0x8010).launch 1 = some { lapX with loaded := false, addr := 0x8010 } ∧ 0x8010 % 32 ≠ 0) ∧
    (let s := lapState (lapW wMM) pacedX loadedArray Coach.init []
     s.alive = true ∧ s.launch 1 = some pacedX ∧ pacedX.loaded = true ∧ pacedX.paced = true ∧ pacedX.status = 0) ∧
    (let s := lapState doneLap lapX ArrayState.init Coach.init []
     s.launch 1 = some lapX ∧ lapX.complete = false ∧ s.lapCores 1 lapX = [(0, doneLap)] ∧ s.lapOver 0 = true) ∧
    (let s := lapState readyLap pacedX loadedArray Coach.init []
     s.launch 1 = some pacedX ∧ pacedX.place.Nodup ∧ s.lapCores 1 pacedX = [(0, readyLap)] ∧ readyLap.go = none) ∧
    (let s := lapState (lapW wMM) pacedX loadedArray Coach.init []
     s.LapAt s 0 (lapW wMM) pacedX ∧ (s.core 0).gate (lapW wMM) = some (0, wMM.toNat, true) ∧ (lapW wMM).ready = none) ∧
    (let l : LapRun := { LapRun.init 1 0 1 0 with cmds := [1#256] }
     let s := lapState l lapX ArrayState.init Coach.init []
     s.LapAt s 0 l lapX ∧ l.next < l.total ∧ l.cache.look 0 = none ∧ (l.len + 127) / 128 = 1 ∧
     ∃ y b, (s.tlbUse 0 0 0x8000).readList lapX 0 0x8000 32 = (y, .inl b)) ∧
    (let s := lapState (lapW 0x20#256) lapX ArrayState.init Coach.init []
     let u := s.tick (2 ^ 40)
     u.LapAt u 0 (lapW 0x20#256) lapX ∧ u.lapHeld 0 (lapW 0x20#256) lapX = some (3, 0) ∧ u.lapOver 0 = false ∧
     u.entry 0x2210 1 * 1000 ≤ u.since 0) ∧
    (carved0.Reaches 0 0 ∧ carved0.actsForCore 0 0 = true ∧ carved0.lapOn 0 = none ∧
      (lapOf 1#256).lapState 0 ≠ 0) := by
  refine ⟨by decide +kernel, by decide +kernel, by decide +kernel, by decide +kernel,
    ⟨lapAt (by decide +kernel), by decide +kernel⟩, ⟨lapAt (by decide +kernel), by decide +kernel, by decide +kernel, by decide +kernel, ?_⟩,
    ⟨lapAt (by decide +kernel), by decide +kernel⟩, ⟨reaches (by decide +kernel), by decide +kernel⟩⟩
  have : ((((lapState { LapRun.init 1 0 1 0 with cmds := [1#256] } lapX ArrayState.init Coach.init []).tlbUse 0 0 0x8000).readList
      lapX 0 0x8000 32).2.isLeft) = true := by decide +kernel
  obtain ⟨b, hb⟩ := Sum.isLeft_iff.mp this
  exact ⟨_, b, Prod.ext rfl hb⟩

/-- WAITB of baton 3 (value 3), 2 (value 0) and 5 (not LIVE); SIGB of baton 3 by 1; HEALTH STORE, CLEAR and SUM; LOAD and
STORE of 128 B as a byte run; SCALE. -/
def wWaitb (b : Nat) : BitVec 256 := BitVec.ofNat 256 (0x40 + 2 ^ 64 * b)
def wSigb : BitVec 256 := BitVec.ofNat 256 (0x41 + 2 ^ 64 * 3 + 2 ^ 96)
def wHealth (m : Nat) : BitVec 256 := BitVec.ofNat 256 (0x50 + 2 ^ 24 * m)
def wMove (op : Nat) : BitVec 256 := BitVec.ofNat 256 (op + 2 ^ 24)
def feeds (va : Nat) : FeedRun := { ord := 0, descs := [BitVec.ofNat 128 va] }
def feedState (op va : Nat) : State := lapState { lapW (wMove op) with feeding := [feeds va] } lapX ArrayState.init Coach.init []

/-- A lap of one NOP, fetched and not dispatched. -/
def nopLap : LapRun := { LapRun.init 1 0 1 0 with cmds := [1#256], cache := [(0, 1#256)] }
def nopState : State := lapState nopLap lapX ArrayState.init Coach.init []

theorem witness_LapCommands :
    (nopState.LapAt nopState 0 nopLap lapX ∧ lapX.paced = false ∧ nopLap.room = true ∧
      nopLap.cache.look 0 = some 1#256 ∧
      changedBad nopState.optionalUnits (nopLap.cmds.map (fun y => y.toNat)) 0 1 = false) ∧
    (let r (b : Nat) := (lapOf (wWaitb b)).batonWait b (.lap 0) ((lapOf (wWaitb b)).lapActor 0 0) (some 0)
     (lapOf (wWaitb 3)).LapAt (lapOf (wWaitb 3)) 0 (lapW (wWaitb 3)) lapX ∧
     (lapW (wWaitb 3)).pendingCmds.find? (fun e => isBarrier e.2) = some (0, (wWaitb 3).toNat) ∧
     (r 3).2 = (Stat.ok, true) ∧ (r 2).2 = (Stat.ok, false) ∧ (r 5).2.1 ≠ Stat.ok) ∧
    ((lapOf wSigb).LapAt (lapOf wSigb) 0 (lapW wSigb) lapX ∧ (lapW wSigb).pendingCmds.head? = some (0, wSigb.toNat) ∧
      cOp wSigb.toNat = 0x41) ∧
    ((lapOf (wHealth 1)).LapAt (lapOf (wHealth 1)) 0 (lapW (wHealth 1)) lapX ∧
      (lapW (wHealth 0)).Oldest 0 (wHealth 0).toNat ∧ (lapW (wHealth 1)).Oldest 0 (wHealth 1).toNat ∧
      (lapW (wHealth 2)).Oldest 0 (wHealth 2).toNat ∧ fld (wHealth 0).toNat 24 2 = 0 ∧ fld (wHealth 1).toNat 24 2 = 1 ∧
      fld (wHealth 2).toNat 24 2 = 2) ∧
    ((lapOf (wMove 0x20)).LapAt (lapOf (wMove 0x20)) 0 (lapW (wMove 0x20)) lapX ∧
      (lapW (wMove 0x20)).Feeds 0 (wMove 0x20).toNat ∧ (lapW (wMove 0x21)).Feeds 0 (wMove 0x21).toNat ∧
      (lapW 0x30#256).Feeds 0 0x30) ∧
    (let l (op va : Nat) : LapRun := { lapW (wMove op) with feeding := [feeds va] }
     (feedState 0x20 0x8000).LapAt (feedState 0x20 0x8000) 0 (l 0x20 0x8000) lapX ∧
     (l 0x20 0x8000).loads.head? = some (feeds 0x8000) ∧ (l 0x21 0x8000).stores.head? = some (feeds 0x8000) ∧
     (feedState 0x20 0x8000).feedFault lapX false ((l 0x20 0x8000).parts (feeds 0x8000)) = none ∧
     (feedState 0x21 0x8000).feedFault lapX true ((l 0x21 0x8000).parts (feeds 0x8000)) = none ∧
     (feedState 0x20 (2 ^ 40)).LapAt (feedState 0x20 (2 ^ 40)) 0 (l 0x20 (2 ^ 40)) lapX ∧
     ((feedState 0x20 (2 ^ 40)).feedFault lapX false ((l 0x20 (2 ^ 40)).parts (feeds (2 ^ 40)))).isSome = true) ∧
    (((lapOf 1#256).core 0).coach.running = false ∧ (lapW 1#256).returned < (lapW 1#256).replays) ∧
    (let l : LapRun := { lapW 1#256 with oldest := 1, returned := 1 }
     let s := lapState l lapX ArrayState.init Coach.init [.marker 0]
     s.LapAt s 0 l lapX ∧ l.popped < l.returned ∧ (l.popped + 1) * l.len ≤ l.oldest ∧ (s.core 0).stream = [.marker 0]) := by
  unfold LapRun.Oldest LapRun.Feeds
  refine ⟨⟨lapAt (by decide +kernel), by decide +kernel⟩, ⟨lapAt (by decide +kernel), by decide +kernel⟩,
    ⟨lapAt (by decide +kernel), by decide +kernel⟩, ⟨lapAt (by decide +kernel), by decide +kernel⟩,
    ⟨lapAt (by decide +kernel), by decide +kernel⟩,
    ⟨lapAt (by decide +kernel), by decide +kernel, by decide +kernel, by decide +kernel, by decide +kernel, lapAt (by decide +kernel),
     by decide +kernel⟩, by decide +kernel, ⟨lapAt (by decide +kernel), by decide +kernel⟩⟩

def shadowArray : ArrayState := { ArrayState.init with shadow := some { ord := 0, complete := false, flip := false } }
def issuedArray : ArrayState := { ArrayState.init with issued := [mmRun] }

theorem witness_MatrixArray :
    (let s := lapOf wMM
     s.LapAt s 0 (lapW wMM) lapX ∧ (s.core 0).toLoad (lapW wMM) ((s.core 0).unissued (lapW wMM)) = some (0, wMM.toNat) ∧
     (s.core 0).array.shadow = none ∧ (lapW wMM).resident 0 (mmOf wMM.toNat).stationary = true) ∧
    (let s := lapState (lapW wMM) lapX shadowArray Coach.init []
     s.LapAt s 0 (lapW wMM) lapX ∧ (s.core 0).array.shadow.any (fun h => !h.complete) = true) ∧
    (let s := lapState (lapW wMM) lapX loadedArray Coach.init []
     s.LapAt s 0 (lapW wMM) lapX ∧ (s.core 0).gate (lapW wMM) = some (0, wMM.toNat, true) ∧
     (mmOf wMM.toNat).overlaps = false ∧ ((s.core 0).mmCompute (mmOf wMM.toNat) ⟨0, 0, 0, 0, 0⟩ 0 wMM).isSome = true) ∧
    (let s := lapState (lapW wMM) lapX issuedArray Coach.init []
     s.LapAt s 0 (lapW wMM) lapX ∧ (s.core 0).array.issued = [mmRun] ∧ mmRun.fails = false ∧
     0 < (mmOf mmRun.cmd.toNat).tiles ∧ 0 ∈ mmRun.madeRows) ∧
    ((carved0.core 0).array.issued = [] ∧ carved0.alive = true ∧ 0 < carved0.nCores ∧ carved0.coreOn 0 = true) :=
  ⟨⟨lapAt (by decide +kernel), by decide +kernel⟩, ⟨lapAt (by decide +kernel), by decide +kernel⟩,
   ⟨lapAt (by decide +kernel), by decide +kernel⟩, ⟨lapAt (by decide +kernel), by decide +kernel⟩, by decide +kernel⟩

/-! ### Coherence -/

/-- A line of unit 1 whose home is cluster 0's slice, and lines of its directory set. -/
def ln : Nat := 0x800100
def setLines : List Nat :=
  [8397056, 8405248, 8413440, 8421632, 8429824, 8438016, 8446208, 8454401, 8462593, 8470785, 8478977, 8487169, 8495361,
   8503553, 8511745, 8519938]

def entryIn (st owner sharers : Nat) : DirEntry := { st := st, owner := owner, sharers := sharers, txn := none }
def homeWith (es : Tab DirEntry) : State := { carved0 with dirs := [(0, { Dir.init 0 with entries := es })] }
def request (kind : Nat) : HReq := { kind := kind, line := ln, req := 2, bytes := [(0, 1#8)] }
def busyWith (st owed : Nat) (isRecall : Bool) (kind : Nat) : DirEntry :=
  { entryIn st 1 2 with txn := some { request := request kind, owed := owed, isRecall := isRecall } }

/-- A request in a module with nothing in flight arrives as the row names it. -/
abbrev AskedAt (s : State) (kind req : Nat) : Prop := s.Asked s (askMsg kind 0 ln req 0 []) (askMsg kind 0 ln req 0 [])

theorem asked0 {s : State} {kind req : Nat} (h : s.alive = true ∧ s.homeOf ln = some 0 ∧ (s.dir 0).waiting.length < 256 ∧
    req ≤ 20 ∧ s.agentOn req = true ∧ s.net = []) : AskedAt s kind req :=
  ⟨show 0 < 20 by decide, h.1, h.2.1, h.2.2.1, .inl ⟨h.2.2.2.1, h.2.2.2.2.1⟩, by simp [State.arrive, h.2.2.2.2.2], rfl⟩

theorem askedHost : AskedAt carved0 5 31 :=
  ⟨by decide, by decide +kernel, by decide +kernel, by decide +kernel, .inr ⟨rfl, .inr rfl⟩, by decide +kernel, rfl⟩

/-- The directory's states I, S (agents 1 and 2), X and O (owner 1), and a WrNC of the PCIe host port; a Put of its owner
and one of an agent that no longer owns the line. -/
theorem witness_HomeRequests :
    (∀ kind, AskedAt carved0 kind 2) ∧ AskedAt carved0 5 31 ∧ carved0.dirEntry 0 ln = none ∧ (carved0.dir 0).claimed ln = false ∧
    (∀ a ∈ listed 6, carved0.agentOn a = true) ∧
    ((carved0.dir 0).entries.filter (fun p => lineHash p.1 % 8192 = lineHash ln % 8192)).length < 16 ∧
    (∀ kind, AskedAt (homeWith [(ln, entryIn 1 0 6)]) kind 2) ∧
    (homeWith [(ln, entryIn 1 0 6)]).dirEntry 0 ln = some (entryIn 1 0 6) ∧
    (∀ kind, AskedAt (homeWith [(ln, entryIn 2 1 2)]) kind 2) ∧
    (homeWith [(ln, entryIn 2 1 2)]).dirEntry 0 ln = some (entryIn 2 1 2) ∧ (entryIn 2 1 2).owner ≠ 2 ∧
    (∀ kind, AskedAt (homeWith [(ln, entryIn 3 1 6)]) kind 1) ∧
    (homeWith [(ln, entryIn 3 1 6)]).dirEntry 0 ln = some (entryIn 3 1 6) ∧ (entryIn 3 1 6).owner = 1 ∧
    bitOf (entryIn 3 1 6).sharers 2 = true :=
  ⟨fun _ => asked0 (by decide +kernel), askedHost, by decide +kernel, by decide +kernel, by decide +kernel, by decide +kernel,
   fun _ => asked0 (by decide +kernel), by decide +kernel, fun _ => asked0 (by decide +kernel), by decide +kernel,
   by decide +kernel, fun _ => asked0 (by decide +kernel), by decide +kernel, by decide +kernel, by decide +kernel⟩

def fullSet : State := homeWith (setLines.map (fun l => (l, entryIn 1 0 6)))

theorem witness_HomeHolds :
    (let s := homeWith [(ln, busyWith 1 0 false 0)]
     (∀ kind, AskedAt s kind 3) ∧ ∃ e, s.dirEntry 0 ln = some e ∧ e.txn ≠ none) ∧
    (let s := homeWith [(8397056, { entryIn 1 0 6 with txn := some { request := request 0, owed := 2, isRecall := true } })]
     (∀ kind, AskedAt s kind 3) ∧ s.dirEntry 0 ln = none ∧ (s.dir 0).claimed ln = true) ∧
    (∀ kind, AskedAt fullSet kind 3) ∧ fullSet.dirEntry 0 ln = none ∧ (fullSet.dir 0).claimed ln = false ∧
    16 ≤ ((fullSet.dir 0).entries.filter (fun p => lineHash p.1 % 8192 = lineHash ln % 8192)).length ∧
    (fullSet.dir 0).entries.head? = some (8397056, entryIn 1 0 6) :=
  ⟨⟨fun _ => asked0 (by decide +kernel), busyWith 1 0 false 0, by decide +kernel⟩,
   ⟨fun _ => asked0 (by decide +kernel), by decide +kernel⟩, fun _ => asked0 (by decide +kernel), by decide +kernel⟩

/-- An answer to the home arrives as the row names it. -/
abbrev OwedAt (s : State) (cls kind src : Nat) (e : DirEntry) (x : HomeTxn) : Prop :=
  s.Owed s (Msg.plain cls kind ln src 0 true) (Msg.plain cls kind ln src 0 true) e x

theorem owed0 {s : State} {cls kind src : Nat} {e : DirEntry} {x : HomeTxn} (h : s.alive = true ∧ s.net = [] ∧
    s.dirEntry 0 ln = some e ∧ e.txn = some x) : OwedAt s cls kind src e x :=
  ⟨show 0 < 20 by decide, h.1, by simp [State.arrive, h.2.1], h.2.2.1, h.2.2.2⟩

def txn (owed : Nat) (isRecall : Bool) (kind : Nat) : HomeTxn := { request := request kind, owed := owed, isRecall := isRecall }
def busyHome (st owed : Nat) (isRecall : Bool) (kind : Nat) : State := homeWith [(ln, busyWith st owed isRecall kind)]

/-- A transaction that owes no, one or two answers, of a WrNC or a recall, and RdS, RdX and RdCur that await CompAck. -/
theorem witness_HomeAnswers :
    (∀ cls kind, OwedAt (busyHome 2 0 false 0) cls kind 2 (busyWith 2 0 false 0) (txn 0 false 0)) ∧
    (∀ cls kind, OwedAt (busyHome 1 2 false 5) cls kind 1 (busyWith 1 2 false 5) (txn 2 false 5)) ∧
    (∀ cls kind, OwedAt (busyHome 1 1 false 5) cls kind 1 (busyWith 1 1 false 5) (txn 1 false 5)) ∧
    (∀ cls kind, OwedAt (busyHome 1 1 true 0) cls kind 1 (busyWith 1 1 true 0) (txn 1 true 0)) ∧
    (∀ cls kind, OwedAt (busyHome 2 0 false 1) cls kind 2 (busyWith 2 0 false 1) (txn 0 false 1)) ∧
    (∀ cls kind, OwedAt (busyHome 0 0 false 4) cls kind 2 (busyWith 0 0 false 4) (txn 0 false 4)) ∧
    ((txn 0 false 0).request.req = 2 ∧ (busyWith 2 0 false 0).st ≠ 3) :=
  ⟨fun _ _ => owed0 (by decide +kernel), fun _ _ => owed0 (by decide +kernel), fun _ _ => owed0 (by decide +kernel),
   fun _ _ => owed0 (by decide +kernel), fun _ _ => owed0 (by decide +kernel), fun _ _ => owed0 (by decide +kernel),
   by decide +kernel⟩

/-- Agent 1 holds the line in a state. -/
def lineIn (st : LineState) (hold : Nat) (parked : List Parked) : CLine :=
  { st := st, data := 5, way := 0, got := false, dirtyBit := false, grant := none, acks := 0, zero := false, hold := hold,
    parked := parked, coach := 0 }
def agentWith (l : CLine) : State := { carved0 with agents := [(1, { Agent.init 1 with lines := [(ln, l)] })] }

/-- A message to agent 1 arrives as the row names it. -/
abbrev ToldAt (s : State) : Prop := ∀ (b : Msg) (src : Option Nat), b.dst = 1 → s.Told s b b src

theorem told0 {s : State} (h : s.alive = true ∧ s.net = []) : ToldAt s :=
  fun b _ hb => ⟨by omega, h.1, by simp [State.arrive, h.2]⟩

theorem witness_AgentForwards :
    ToldAt carved0 ∧ carved0.homeOf ln = some 0 ∧ carved0.line 1 ln = none ∧
    (∀ st, ToldAt (agentWith (lineIn st 0 []))) ∧
    ((agentWith (lineIn .S 0 [])).line 1 ln = some (lineIn .S 0 []) ∧ (agentWith (lineIn .E 0 [])).line 1 ln = some (lineIn .E 0 []) ∧
     (agentWith (lineIn .M 0 [])).line 1 ln = some (lineIn .M 0 []) ∧ (agentWith (lineIn .O 0 [])).line 1 ln = some (lineIn .O 0 []) ∧
     (agentWith (lineIn .SMA 0 [])).line 1 ln = some (lineIn .SMA 0 []) ∧ (agentWith (lineIn .OMA 0 [])).line 1 ln = some (lineIn .OMA 0 []) ∧
     (agentWith (lineIn .MIA 0 [])).line 1 ln = some (lineIn .MIA 0 []) ∧ (agentWith (lineIn .OIA 0 [])).line 1 ln = some (lineIn .OIA 0 [])) ∧
    ToldAt (agentWith (lineIn .M 1 [])) ∧
    (let s := agentWith (lineIn .M 1 (List.replicate 16 ⟨8, 2⟩))
     ToldAt s ∧ 16 ≤ (s.agent 1).parkedCount) ∧
    ((agentWith (lineIn .M 1 [])).line 1 ln = some (lineIn .M 1 []) ∧ ((agentWith (lineIn .M 1 [])).agent 1).parkedCount < 16) ∧
    ((agentWith (lineIn .M 1 [⟨8, 2⟩])).line 1 ln = some (lineIn .M 1 [⟨8, 2⟩]) ∧ (agentWith (lineIn .M 1 [⟨8, 2⟩])).alive = true) :=
  ⟨told0 (by decide +kernel), by decide +kernel, by decide +kernel,
   fun _ => told0 ⟨by show carved0.alive = true; decide +kernel, rfl⟩, by decide +kernel, told0 (by decide +kernel),
   ⟨told0 (by decide +kernel), by decide +kernel⟩,
   by decide +kernel, by decide +kernel⟩

/-- Lines that await data, a grant, acks, or an answer to a write-back; a store sent as WrNC. -/
def granted (st : LineState) (install acks have' : Nat) (got : Bool) : CLine :=
  { lineIn st 0 [] with grant := some ⟨install, acks⟩, acks := have', got := got }
def sentNc : Accepted := { id := 3, line := ln, bytes := [(0, 1#8)], nc := true, sent := true, zero := false, core := none, asked := false }
def ncAgent : State :=
  { carved0 with agents := [(1, { Agent.init 1 with lines := [(ln, lineIn .S 0 [])], accepted := [sentNc] })] }

theorem witness_AgentResponses :
    (∀ st, ToldAt (agentWith (lineIn st 0 []))) ∧ (∀ st i a h g, ToldAt (agentWith (granted st i a h g))) ∧
    (carved0.homeOf ln = some 0 ∧ (lineIn .ISD 0 []).way < 16 ∧ (lineIn .ISD 0 []).zero = false ∧ (lineIn .ISD 0 []).got = false ∧
      (lineIn .ISD 0 []).grant = none ∧ (lineIn .IMAD 0 []).acks = 0 ∧
      ((agentWith (lineIn .ISD 0 [])).agent 1).ncReads = []) ∧
    ((granted .ISD 1 0 0 false).grant = some ⟨1, 0⟩ ∧ (granted .IMAD 3 0 0 false).grant = some ⟨3, 0⟩ ∧
      (granted .IMAD 3 2 1 true).grant = some ⟨3, 2⟩ ∧ (granted .IMAD 3 2 1 true).acks + 1 = 2 ∧ (granted .ISD 1 0 0 true).got = true) ∧
    ToldAt ncAgent ∧
    (ncAgent.line 1 ln = some (lineIn .S 0 []) ∧
      (ncAgent.agent 1).accepted.find? (fun x => x.line = ln && x.sent) = some sentNc) :=
  ⟨fun _ => told0 ⟨by show carved0.alive = true; decide +kernel, rfl⟩,
   fun _ _ _ _ _ => told0 ⟨by show carved0.alive = true; decide +kernel, rfl⟩,
   by decide +kernel, by decide +kernel, told0 (by decide +kernel), by decide +kernel⟩

/-- Cluster 19 is absent, and a directory entry lists it. -/
def absentSharer : State := { homeWith [(ln, entryIn 1 0 (2 ^ 19))] with units := { carved0.units with clusters := 2 ^ 19 - 1 } }

theorem witness_CoherenceFailures :
    (carved0.boot.start = 7 ∧ carved0.boot.off = false ∧ carved0.boot.fatal = 0 ∧ carved0.oneDie = false) ∧
    ToldAt carved0 ∧ (carved0.line 1 ln = none ∧ (carved0.agent 1).ncReads = []) ∧
    (∀ cls kind, OwedAt (busyHome 3 0 false 0) cls kind 2 (busyWith 3 0 false 0) (txn 0 false 0)) ∧
    ((busyHome 3 0 false 0).boot.start = 7 ∧ (busyWith 3 0 false 0).st = 3) ∧
    (let b : Msg := { Msg.plain 3 21 ln 1 0 true with req := 1, flag := false }
     carved0.arrive b (some 1) = some (carved0, b) ∧ carved0.dirEntry 0 ln = none) ∧
    (AskedAt absentSharer 0 2 ∧ absentSharer.dirEntry 0 ln = some (entryIn 1 0 (2 ^ 19)) ∧ 19 ∈ listed (2 ^ 19) ∧
      absentSharer.agentOn 19 = false) :=
  ⟨by decide +kernel, told0 (by decide +kernel), by decide +kernel, fun _ _ => owed0 (by decide +kernel),
   by decide +kernel, by decide +kernel, asked0 (by decide +kernel), by decide +kernel⟩

/-- Slices 0 and 19 and unit 511 await clearing. -/
def clearing0 : State := { carved0 with pmap := { carved0.pmap with clearSlices := [0, 19], clearUnits := [511] } }

theorem witness_MemoryEvents :
    (carved0.boot.off = false ∧ carved0.sliceOf rsBase = some 0 ∧ carved0.boot.fatal = 0) ∧
    (clearing0.boot.off = false ∧ 19 ∈ clearing0.pmap.clearSlices ∧ 511 < clearing0.nUnits ∧ 511 ∈ clearing0.pmap.clearUnits) ∧
    63 < carved0.nChannels ∧ (carved0.inDram 0 = true ∧ carved0.inDram 0x40000000 = true ∧ carved0.barOn = true) := by
  decide +kernel

/-! ### Translation, BARs and registers -/

/-- Partition 0's map registers: index, entry. -/
def mapRegs (i e : Nat) : State :=
  ((carved0.setReg (Reg.cchMapIndex 0) i).setReg (Reg.cchMapData0 0) (e % 2 ^ 64)).setReg (Reg.cchMapData1 0) (e / 2 ^ 64)
/-- Valid entries: page 4 to unit 1, page 4 to unit 2 (not in the carve-out), one with bit 7 set. -/
def entryIn1 : Nat := 0x21 + 2 ^ 31 * 4 + 2 ^ 64 * 0x8003
def entryIn2 : Nat := 0x21 + 2 ^ 31 * 4 + 2 ^ 64 * 0x10003

theorem witness_PageMapRegisters :
    ((mapRegs 0 0).Reaches 0 0 ∧ (mapRegs 32767 entryIn1).Reaches 0 0 ∧ (mapRegs 32768 0).Reaches 0 0) ∧ ((mapRegs 0 0).alive = true ∧ actsFor 0 0 = true) ∧
    ((mapRegs 32767 0).reg (Reg.cchMapIndex 0) < (mapRegs 32767 0).mapUnits 0 * 32768 ∧
     (mapRegs 32768 0).mapUnits 0 * 32768 ≤ (mapRegs 32768 0).reg (Reg.cchMapIndex 0)) ∧
    (eV 0 = false ∧ eV entryIn1 = true ∧ entryFormOk entryIn1 = true ∧ carved0.physOk 0 (eTgt entryIn1) (ePage entryIn1) = true ∧
      carved0.inCarve 0 (eTgt entryIn1) (ePage entryIn1) = true ∧ eTgt entryIn1 ≤ 1) ∧
    (eV (entryIn1 + 0x80) = true ∧ entryFormOk (entryIn1 + 0x80) = false) ∧
    (eV entryIn2 = true ∧ entryFormOk entryIn2 = true ∧ carved0.physOk 0 (eTgt entryIn2) (ePage entryIn2) = true ∧
      eTgt entryIn2 ≤ 1 ∧ carved0.inCarve 0 (eTgt entryIn2) (ePage entryIn2) = false) :=
  ⟨⟨reaches (by decide +kernel), reaches (by decide +kernel), reaches (by decide +kernel)⟩, by decide +kernel⟩

/-- Entries of partition 0 that fail each check: another context's, outside the carve-out, write-protected, key-value. -/
def checked0 : State :=
  { carved0 with pmap := { carved0.pmap with entries :=
    [(0, BitVec.ofNat 128 (0x01 + 2 ^ 8 * 5 + 2 ^ 64 * 0x8000)), (8, BitVec.ofNat 128 (0x21 + 2 ^ 31 + 2 ^ 64 * 0x10000)),
     (16, BitVec.ofNat 128 (0x61 + 2 ^ 31 * 2 + 2 ^ 64 * 0x8002)), (24, BitVec.ofNat 128 (0x31 + 2 ^ 31 * 3 + 2 ^ 64 * 0x8003))] } }

theorem witness_TranslationOrder :
    (carved0.walk 0 0).isSome = true ∧ carved0.walk 0 9 = none ∧ 0 < carved0.mapUnits 0 ∧
    (carved0.alive = true ∧ carved0.holds 0 0 = true ∧ carved0.holds 188 7 = true ∧ carved0.pmap.tlb = []) ∧
    ((checked0.walk 0 0).any (fun w => !eSH w.2 && eOwner w.2 ≠ 0) = true ∧
     (checked0.walk 0 1).any (fun w => eOwner w.2 = 0 && !checked0.inCarve 0 (eTgt w.2) (ePage w.2)) = true ∧
     (checked0.walk 0 2).any (fun w => eOwner w.2 = 0 && checked0.inCarve 0 (eTgt w.2) (ePage w.2) && eWP w.2) = true ∧
     (checked0.walk 0 3).any (fun w => eOwner w.2 = 0 && checked0.inCarve 0 (eTgt w.2) (ePage w.2) && !eWP w.2 && eK w.2) = true) := by
  decide +kernel

/-- The first virtual function enabled. -/
def vfs : State := { carved0 with pcie := { carved0.pcie with vfEnable := true, numVfs := 1 } }

theorem quiet0 : carved0.Quiet := ⟨by decide +kernel, by decide +kernel, by decide +kernel⟩

theorem witness_BarFour :
    carved0.Reaches 0 2 ∧ vfs.Reaches 1 2 ∧
    (carved0.alive = true ∧ 0x40008000 + 4 ≤ carved0.bar4Size 0 ∧ carved0.bar4Phys 0x40008000 = true ∧ carved0.bar4Phys 0 = false) ∧ carved0.Quiet ∧
    (vfs.alive = true ∧ 0x48000 + 4 ≤ vfs.bar4Size 1 ∧
      vfs.translate 0 { ctx := none, write := false, devOk := true, kOk := true } 0x48000 = .inr 1) :=
  ⟨reaches (by decide +kernel), reaches (by decide +kernel), by decide +kernel, quiet0, by decide +kernel⟩

/-- A window register, DBG_BAD_ACCESS, a register of core 0 that is not the partition's, and HIF_CAP_PEERS, which is the
marshal's; a block the virtual function does not reach. -/
theorem witness_RegisterAccess :
    carved0.Reaches 0 0 ∧ vfs.Reaches 1 0 ∧
    (carved0.reaches 0 0x100000 = true ∧ carved0.blockOn 0x100000 = true ∧ arrayOf 0 0x100000 = none ∧
      (regOf 0x100000 4).any (fun r => r.2 = 0x100000 && r.1.access = .rw && r.1.bytes = 4 && mayRead 0 0x100000 r.1 && mayWrite 0 r.1) = true ∧
      blockOf 0x100000 = some (.window, 0, 0)) ∧
    (let o := Reg.dbgBadAccess
     carved0.reaches 0 o = true ∧ carved0.blockOn o = true ∧ arrayOf 0 o = none ∧ (regOf o 8).any (fun r => r.2 = o && r.1.access = .rs &&
      r.1.bytes = 8 && r.1.counts && mayRead 0 o r.1 && mayWrite 0 r.1) = true ∧ carved0.freeze.copy = none) ∧
    ({ carved0 with freeze := { carved0.freeze with copy := some [] } } : State).freeze.copy ≠ none ∧
    (vfs.reaches 1 0x400010 = true ∧ vfs.blockOn 0x400010 = true ∧ arrayOf 1 0x400010 = none ∧
      (regOf 0x400010 4).any (fun r => !mayRead 1 0x400010 r.1 && !mayWrite 1 r.1) = true) ∧
    (regOf 0x68 8).any (fun r => r.1.access = .ro && mayRead 0 0x68 r.1 && !mayWrite 0 r.1) = true ∧
    vfs.reaches 1 0x110000 = false :=
  ⟨reaches (by decide +kernel), reaches (by decide +kernel), by decide +kernel⟩

/-! ### The Starter -/

/-- Queue 0's descriptor: ring in page 1, completion ring half a page later, 16 entries each, weight 1, a wait limit of
1 µs; a periodic one of 10 µs with a deadline of 1 µs. -/
def desc0 : BitVec 512 :=
  BitVec.ofNat 512 (0x8000 + 2 ^ 64 * 0xC000 + 2 ^ 128 * 4 + 2 ^ 136 * 4 + 2 ^ 152 + 2 ^ 224)
def descP : BitVec 512 := BitVec.ofNat 512 (desc0.toNat + 2 ^ 192 + 2 ^ 256 * 10000 + 2 ^ 288 * 1000)

def packet (raw : Nat) : Packet :=
  { raw := BitVec.ofNat 512 raw, stamp := 0, dstat := 0, desc := 0, place := [0], st := .decoded, start := 0, status := 0,
    done := false, launch := none, slot := none, meter := 0, waitSince := none, metBy := none, metAt := none, dma := 0, moved := 0,
    faultAddr := 0, reason := 0, msg := none, glint := false }
def queueOf (st : QState) (desc : BitVec 512) (ks : Tab Packet) : Queue :=
  { Queue.init with st := st, desc := desc, tail := 1, packets := ks }
def queued (x : Queue) : State :=
  { withBatons carved0 with queues := [(0, x)], fences := [(1, { Fence.init with st := 1 })] }
/-- Queue 0 RUNNING with one packet decoded. -/
def starting (raw : Nat) : State := queued (queueOf .running desc0 [(0, packet raw)])
def opening (x : Request) (raw : Nat) (cur : Option Nat) : State :=
  { queued { queueOf .running desc0 [(0, packet raw)] with cur := cur } with reqs := [(1, x)] }

theorem starts0 {s : State} {op dma : Nat} {k : Packet} (h : s.alive = true ∧ s.settle = s ∧ s.fetching = true ∧
    (s.queue 0).nextStart = some (0, k) ∧ (s.queue 0).packets.look 0 = some k ∧ pOpcode k.raw = op ∧
    (s.pass (s.qPart 0)).2.find? (fun r => r.1 = 0) = some (0, 0, dma)) : s.Starts s 0 op 0 k dma :=
  ⟨by decide, h.1, h.2.1.symm, h.2.2.1, h.2.2.2.1, h.2.2.2.2.1, h.2.2.2.2.2.1, 0, h.2.2.2.2.2.2⟩

/-- Commands on the queue 15 (DISABLED, its descriptor's words all zero), on queue 16, which is not the partition's, and on
queue 0 in each state. -/
def selecting (q : Nat) (x : Queue) : State := (queued x).setReg (Reg.strQSel 0) q

theorem witness_QueueCommands :
    ((selecting 16 Queue.init).Reaches 0 0 ∧ (selecting 15 Queue.init).Reaches 0 0 ∧
      (selecting 0 (queueOf .running desc0 [])).Reaches 0 0) ∧
    ((selecting 16 Queue.init).inRange 0 .queue ((selecting 16 Queue.init).reg (Reg.strQSel 0)) = false ∧
      (selecting 15 Queue.init).inRange 0 .queue ((selecting 15 Queue.init).reg (Reg.strQSel 0)) = true ∧
      (selecting 15 Queue.init).qdescOk 0 ((selecting 15 Queue.init).queue 15) = false) ∧
    (actsFor 0 0 = true ∧ (selecting 0 (queueOf .disabled desc0 [])).alive = true ∧
      (selecting 0 (queueOf .disabled desc0 [])).qdescOk 0 (queueOf .disabled desc0 []) = true) ∧
    ((queueOf .running desc0 [(0, { packet 1 with st := .started })]).inFlight = 1 ∧
      (queueOf .running desc0 [(0, packet 1)]).inFlight = 0 ∧ (queueOf .stopped desc0 []).st = .stopped ∧
      (queueOf .draining desc0 []).st = .draining) ∧
    (Reg.strQStatus 0 ∉ (selecting 0 Queue.init).busy ∧ ((selecting 0 (queueOf .running desc0 [])).ctx 0).st ≠ .aborting ∧
      Reg.strQStatus 0 ∈ ({ selecting 0 Queue.init with busy := [Reg.strQStatus 0] } : State).busy) :=
  ⟨⟨reaches (by decide +kernel), reaches (by decide +kernel), reaches (by decide +kernel)⟩, by decide +kernel⟩

/-- Doorbells of a ring of 16 with TAIL 1: to 1, 16 (the whole ring) and 17; of a periodic queue's list. -/
theorem witness_Doorbells :
    ((queued (queueOf .running desc0 [])).Reaches 0 1 ∧ (queued (queueOf .running desc0 [])).Reaches 0 0) ∧
    ((queued (queueOf .running desc0 [])).alive = true ∧ (queued (queueOf .running desc0 [])).partOf .queue 0 = some 0 ∧
      (queued (queueOf .running desc0 [])).partOf .queue 16 = none ∧ (queued Queue.init).partOf .queue 0 = some 0) ∧
    (let x := queueOf .running desc0 []
     (x.tail + 2 ^ 32 - x.head) % 2 ^ 32 = 1 ∧ (1 + 2 ^ 32 - x.head) % 2 ^ 32 = 1 ∧ (16 + 2 ^ 32 - x.head) % 2 ^ 32 = 2 ^ x.ringLog ∧
     2 ^ x.ringLog < (17 + 2 ^ 32 - x.head) % 2 ^ 32 ∧ (x.ccount + 2 ^ 32 - 0) % 2 ^ 32 = 0 ∧
     2 ^ x.cqLog < (x.ccount + 2 ^ 32 - 1) % 2 ^ 32) ∧
    ((queueOf .running descP []).periodic = true ∧ (queueOf .running desc0 []).periodic = false) :=
  ⟨⟨reaches (by decide +kernel), reaches (by decide +kernel)⟩, by decide +kernel⟩

/-- Queue 0 with a packet to decode: a ring at page 1 (all zeros: no opcode), and one at an unmapped page; and the words
of a packet that passes, one with a reserved header bit set, and one whose payload is wrong. -/
def toDecode (desc : BitVec 512) : State := queued (queueOf .running desc [])

theorem witness_PacketDecoding :
    (let s := toDecode desc0
     let x := queueOf .running desc0 []
     s.alive = true ∧ s.fetching = true ∧ s.queue 0 = x ∧ x.periodic = false ∧ x.nextDecode = some 0 ∧
     (match (s.tlbUse starterTlb 0 0x8000).readFor 0 0 0 x.context 0x8000 64 with | .data v _ => v.payloadOk 0 1 | _ => false) = true) ∧
    (let d := BitVec.ofNat 512 (desc0.toNat + 2 ^ 32)
     let s := toDecode d
     (queueOf .running d []).nextDecode = some 0 ∧
     (match (s.tlbUse starterTlb 0 (0x8000 + 2 ^ 32)).readFor 0 0 0 0 (0x8000 + 2 ^ 32) 64 with | .fault _ _ => true | _ => false) = true) ∧
    (packetOpcodes.contains (pOpcode (0 : BitVec 512)) = false ∧ packetOpcodes.contains (pOpcode (1 : BitVec 512)) = true ∧
      headerOk 1 false = true ∧ runsLaunch 1 = false ∧ pDeadline 1 = 0) ∧
    (headerOk (BitVec.ofNat 512 (1 + 2 ^ 12)) false = false ∧ carved0.payloadOk 0 (BitVec.ofNat 512 (1 + 2 ^ 256)) = false) := by
  decide +kernel

def at' (o v : Nat) : Nat := 2 ^ (8 * o) * v
def kTime : Nat := 0x02 + at' 32 0x8000
def kKernel : Nat := 0x10 + at' 32 0x8000 + at' 48 1
def kLap : Nat := 0x11 + at' 32 0x8000 + at' 56 1
def kCopy : Nat := 0x20 + at' 32 0x8000 + at' 40 0x9000 + at' 48 16
def kFill : Nat := 0x21 + at' 32 0x8000 + at' 48 8
def kWaitF : Nat := 0x30
def kWaitB : Nat := 0x32 + at' 32 (2 ^ 31 + 3)
def kSigF : Nat := 0x31 + at' 32 5 + at' 40 (2 ^ 31 + 1)
def kSigB : Nat := 0x33 + at' 32 (2 ^ 31 + 2 ^ 13 + 2)
def kOpen (kind : Nat) : Nat := 0x40 + at' 32 77 + at' 40 9 + at' 44 1 + at' 46 kind
def kClose : Nat := 0x41 + at' 32 77 + at' 44 1
def openReq (attached : Nat) : Request := { Request.init with st := 1, reqid := 77, tenant := 9, attached := attached }

theorem witness_PacketStarts :
    (starting 0x01).Starts (starting 0x01) 0 0x01 0 (packet 0x01) 0 ∧
    (starting kTime).Starts (starting kTime) 0 0x02 0 (packet kTime) 0 ∧
    (starting kKernel).Starts (starting kKernel) 0 0x10 0 (packet kKernel) 0 ∧
    (starting 0x10).Starts (starting 0x10) 0 0x10 0 (packet 0x10) 0 ∧
    (starting kLap).Starts (starting kLap) 0 0x11 0 (packet kLap) 0 ∧
    (starting 0x11).Starts (starting 0x11) 0 0x11 0 (packet 0x11) 0 ∧
    (starting kCopy).Starts (starting kCopy) 0 0x20 0 (packet kCopy) 0 ∧
    (starting kFill).Starts (starting kFill) 0 0x21 0 (packet kFill) 0 ∧
    (starting kWaitF).Starts (starting kWaitF) 0 0x30 0 (packet kWaitF) 0 ∧
    (starting kWaitB).Starts (starting kWaitB) 0 0x32 0 (packet kWaitB) 0 ∧
    (starting kSigF).Starts (starting kSigF) 0 0x31 0 (packet kSigF) 0 ∧
    (starting kSigB).Starts (starting kSigB) 0 0x33 0 (packet kSigB) 0 ∧
    (starting 0x50).Starts (starting 0x50) 0 0x50 0 (packet 0x50) 0 ∧
    ((starting kKernel).placed (packet kKernel) = true ∧ (starting kLap).placed (packet kLap) = true ∧
      (let s : State := { starting kKernel with units := { (starting kKernel).units with cores := 2 ^ 160 - 2 } }
       s.placed (packet kKernel) = false ∧ (s.pass 0).2.map Prod.fst = [0])) ∧
    (runsLaunch (packet kKernel).raw = true ∧ runsLaunch (packet 0x10).raw = false ∧ runsLaunch (packet kLap).raw = true) ∧
    (let u := (starting kTime).tlbUse starterTlb 0 0x8000
     u.stale 0 0 0x8000 = false ∧ (match u.writePart 20 0 0 0x8000 (leBytes 8 0) with | .inl _ => true | _ => false) = true) :=
  ⟨starts0 (by decide +kernel), starts0 (by decide +kernel), starts0 (by decide +kernel),
   starts0 (by decide +kernel), starts0 (by decide +kernel), starts0 (by decide +kernel),
   starts0 (by decide +kernel), starts0 (by decide +kernel), starts0 (by decide +kernel),
   starts0 (by decide +kernel), starts0 (by decide +kernel), starts0 (by decide +kernel),
   starts0 (by decide +kernel), by decide +kernel, by decide +kernel, by decide +kernel⟩

/-- OPEN_REQUEST of slot 1, which is FREE, taken, or in use by the queue; an attach to request 77 with room and without, and
to another; CLOSE_REQUEST of the current slot and of another. -/
theorem witness_PacketStarts_requests :
    (opening Request.init (kOpen 0) none).Starts (opening Request.init (kOpen 0) none) 0 0x40 0 (packet (kOpen 0)) 0 ∧
    (opening (openReq 1) (kOpen 0) none).Starts (opening (openReq 1) (kOpen 0) none) 0 0x40 0 (packet (kOpen 0)) 0 ∧
    (opening (openReq 254) (kOpen 1) none).Starts (opening (openReq 254) (kOpen 1) none) 0 0x40 0 (packet (kOpen 1)) 0 ∧
    (opening (openReq 255) (kOpen 1) none).Starts (opening (openReq 255) (kOpen 1) none) 0 0x40 0 (packet (kOpen 1)) 0 ∧
    (opening Request.init (kOpen 1) none).Starts (opening Request.init (kOpen 1) none) 0 0x40 0 (packet (kOpen 1)) 0 ∧
    (opening (openReq 1) kClose (some 1)).Starts (opening (openReq 1) kClose (some 1)) 0 0x41 0 (packet kClose) 0 ∧
    (opening (openReq 1) kClose none).Starts (opening (openReq 1) kClose none) 0 0x41 0 (packet kClose) 0 ∧
    (pAt (packet (kOpen 0)).raw 46 1 = 0 ∧ pAt (packet (kOpen 1)).raw 46 1 ≠ 0 ∧ pAt (packet (kOpen 1)).raw 44 2 = 1 ∧
      (openReq 254).reqid = pAt (packet (kOpen 1)).raw 32 8 ∧ (openReq 1).reqid = pAt (packet kClose).raw 32 8) :=
  ⟨starts0 (by decide +kernel), starts0 (by decide +kernel), starts0 (by decide +kernel),
   starts0 (by decide +kernel), starts0 (by decide +kernel), starts0 (by decide +kernel),
   starts0 (by decide +kernel), by decide +kernel⟩

/-- A started packet of queue 0: a launch that has completed or not, a COPY of no byte, a FILL of 8 bytes at page 1. -/
def started (raw : Nat) : Packet := { packet raw with st := .started, launch := some 1, slot := none }
def flying (raw : Nat) : State :=
  { queued { queueOf .running desc0 [(0, started raw)] with reserved := 1 } with launches := [(1, { launch0 with q := 0, n := 0 })] }

theorem witness_PacketCompletion :
    ((flying kKernel).alive = true ∧ ((flying kKernel).queue 0).packets.look 0 = some (started kKernel) ∧
      (started kKernel).st = .started ∧ pOpcode (started kKernel).raw = 0x10 ∧ pOpcode (started kLap).raw = 0x11 ∧
      (flying kKernel).launch 1 = some { launch0 with q := 0, n := 0 } ∧ launch0.complete = false ∧
      ({ launch0 with complete := true } : Launch).complete = true) ∧
    (pOpcode (started 0x20).raw = 0x20 ∧ (started 0x20).status = 0 ∧ (started 0x20).length ≤ (started 0x20).moved) ∧
    (let p := { started kCopy with moved := 16 }
     p.length ≤ p.moved ∧ pOpcode p.raw = 0x20 ∧ ({ p with status := Stat.discarded } : Packet).status ≠ 0) ∧
    (let x := { queueOf .running descP [(0, started kCopy)] with active := true, dropped := true, skipOwner := some 0, list := (0, 2) }
     x.counting 0 = true ∧ ((flying kCopy).queue 0).counting 0 = false ∧ (queued x).fetching = true) ∧
    (let p := started kCopy
     let u := (flying kCopy).tlbUse (dmaTlb 0) 0 0x8000
     p.moved = 0 ∧ p.length = 16 ∧ 0x8000 % 0x8000 + 16 ≤ 0x8000 ∧ 0x9000 % 0x8000 + 16 ≤ 0x8000 ∧
     u.stale 0 0 0x8000 = false ∧
     (match u.readPart 0 0 0 0 0 0x8000 16 with
      | .data r b =>
        let v := r.useFree 3
        let w := v.tlbUse (dmaTlb 0) 0 0x9000
        !r.kPage 0 0x8000 && b.length = 16 && (List.range 16).all (fun i => !v.aliased 0 0 p 0x9000 i) && !w.stale 0 0 0x9000 &&
          (match w.writePart 0 0 0 0x9000 b with | .inl t => decide (t.pcie.dmaRegs = []) | _ => false)
      | _ => false) = true) ∧
    (let p := started kFill
     let u := (flying kFill).tlbUse (dmaTlb 0) 0 0x8000
     p.moved = 0 ∧ p.length = 8 ∧ pAt p.raw 32 8 % 0x8000 + p.length ≤ 0x8000 ∧ u.stale 0 0 0x8000 = false ∧
     (match u.writePart 0 0 0 0x8000 (List.replicate 8 0#8) with | .inl t => decide (t.pcie.dmaRegs = []) | _ => false) = true) ∧
    (let x := (flying kKernel).queue 0
     x.packets = [(0, started kKernel)] ∧ x.st = .running ∧ x.halt = false ∧ x.periodic = false ∧ x.head = 0 ∧ x.skip = false ∧
     x.skipOwner = none ∧ (started kKernel).glint = false ∧ pCr (started kKernel).raw = false) ∧
    (pOpcode (started kKernel).raw ≠ 0x41 ∧ stopping Stat.pageFault = true ∧ (flying kKernel).entry 0x2210 3 = 0) := by
  decide +kernel

/-- A packet whose DEADLINE is 100, decoded or started; one that waits since 0 on a fence below its value. -/
def kDue (op : Nat) : Nat := op + at' 8 100
def kHeld : Nat := 0x30 + at' 32 5 + at' 40 (2 ^ 31 + 1)
def heldQ : Queue := queueOf .running desc0 [(0, { packet kHeld with waitSince := some 0 })]
/-- A periodic queue of 10 µs before its first period, in it, and STOPPED. -/
def periodic (st : QState) (active : Bool) (ks : Tab Packet) : Queue :=
  { queueOf st descP ks with active := active, list := (0, 1), nextList := (0, 1) }

theorem witness_StarterClocks :
    (let t := ((queued (queueOf .running desc0 [(0, packet (kDue 1))])).tick 100).settle
     (t.queue 0).packets.look 0 = some (packet (kDue 1)) ∧ (t.queue 0).periodic = false ∧ (t.queue 0).st = .running ∧
     pDeadline (packet (kDue 1)).raw = t.time ∧ (t.queue 0).cur = none ∧ pOpcode (packet (kDue 1)).raw ≠ 0x40) ∧
    (let t := ((queued (queueOf .running desc0 [(0, packet (kDue 1))])).tick 99).settle
     (t.queue 0).packets.look 0 = some (packet (kDue 1)) ∧ t.time < pDeadline (packet (kDue 1)).raw) ∧
    (let t := ((queued (queueOf .running desc0 [(0, started (kDue 0x20))])).tick 100).settle
     (t.queue 0).packets.look 0 = some (started (kDue 0x20)) ∧ (started (kDue 0x20)).st = .started ∧ t.faulted (started (kDue 0x20)) = false) ∧
    (let t := ((queued heldQ).tick 1000).settle
     (t.queue 0).nextStart = some (0, { packet kHeld with waitSince := some 0 }) ∧
     (t.queue 0).cond123 0 { packet kHeld with waitSince := some 0 } = true ∧ (t.queue 0).room = true ∧
     t.waitsMet (packet kHeld).raw = false ∧ (t.queue 0).waitLimit = 1 ∧ t.since 0 = 1000 ∧
     (((queued heldQ).tick 1001).settle).since 0 = 1001) ∧
    (let t := ((queued (periodic .running false [])).tick 0).settle
     (t.queue 0).periodic = true ∧ (t.queue 0).periodNs = 10000 ∧ (t.queue 0).active = false ∧ (t.queue 0).halt = false ∧
     (t.queue 0).inFlight = 0 ∧
     t.fetching = true ∧ (t.queue 0).startOf 0 ≤ t.time ∧ t.time < (t.queue 0).deadlineOf 0 ∧ 0 < (t.queue 0).nextList.2) ∧
    (let t := ((queued { periodic .running false [] with next := 1 }).tick 9999).settle
     t.time < (t.queue 0).startOf (t.queue 0).next) ∧
    (let x := periodic .running true [(0, packet 1)]
     let t := ((queued x).tick 1000).settle
     (t.queue 0).active = true ∧ (t.queue 0).dropped = false ∧ (t.queue 0).deadlineOf (t.queue 0).period ≤ t.time ∧
     (t.queue 0).list.2 = 1 ∧ (t.queue 0).packets = [(0, packet 1)] ∧ pFinally (packet 1).raw = false ∧ (t.queue 0).prec = false) ∧
    (let t := ((queued (periodic .stopped false [])).tick 0).settle
     (t.queue 0).st = .stopped ∧ (t.queue 0).startOf (t.queue 0).next ≤ t.time) := by
  decide +kernel

/-! ### Shared objects -/

/-- Partition 0's object registers: slot, data words; and a slot number no class of the partition has. -/
def selected (s : State) (n d0 d1 d2 : Nat) : State :=
  (((s.setReg (Reg.strObjSel 0) n).setReg (Reg.strObjData 0 0) d0).setReg (Reg.strObjData 0 1) d1).setReg (Reg.strObjData 0 2) d2
def busyObj : State := selected (carved0.setReg (Reg.strObjStatus 0) 1) 0 0 0 0

/-- Context 1 in a state, and object 1. -/
def objects (c : CtxState) (m : MObj) : State :=
  { carved0 with ctxs := [(0, { Context.init with st := .live }), (1, { Context.init with st := c })], mobjs := [(1, m)] }
def mobj1 : MObj := { MObj.init with st := 1, base := 0x10000, pages := 2 }

theorem witness_ContextsAndMemoryObjects :
    (busyObj.Reaches 0 0 ∧ (selected (objects .live mobj1) 1 0x8000 1 0).Reaches 0 0) ∧
    (busyObj.alive = true ∧ actsFor 0 0 = true ∧ busyObj.reg (Reg.strObjStatus 0) % 2 = 1) ∧
    (let s := selected (objects .live mobj1) 4096 0 0 0
     s.reg (Reg.strObjStatus 0) % 2 = 0 ∧ s.inRange 0 (classKind 0) 4096 = false ∧ s.inRange 0 (classKind 4) 4096 = false) ∧
    (let s := selected (objects .free MObj.init) 1 0x8000 1 0
     s.reg (Reg.strObjSel 0) = 1 ∧ s.inRange 0 .ctx 1 = true ∧ (s.ctx 1).st = .free ∧ s.inRange 0 .mobj 1 = true ∧ (s.mobj 1).st = 0 ∧
     s.reg (Reg.strObjData 0 0) = 0x8000 ∧ s.ownerOk 0 0 = true ∧ s.mobjs = [(1, MObj.init)]) ∧
    (let s := selected (objects .live mobj1) 1 0x8000 1 0
     (s.ctx 1).st = .live ∧ s.partOf .ctx 1 = some 0 ∧ (s.mobj 1).st = 1 ∧ s.freeing 0 < 128 ∧ s.reg (Reg.strObjData 0 2) = 0) ∧
    (let s := selected (objects .live mobj1) 2 0x18000 1 0
     (s.mobj 2).st = 0 ∧ s.partOf .mobj 1 = some 0 ∧ 0x18000 < mobj1.base + mobj1.pages * 0x8000 ∧ mobj1.base < 0x18000 + 0x8000) ∧
    (let s := objects .aborting mobj1
     s.partOf .ctx 1 = some 0 ∧ (s.ctx 1).st = .aborting ∧ s.queuesOf 1 = [] ∧
     let t : State := { s with queues := [(0, queueOf .draining (BitVec.ofNat 512 (desc0.toNat + 2 ^ 160))
       [(0, { packet 1 with st := .started })])] }
     t.queuesOf 1 = [0] ∧ (t.queue 0).inFlight ≠ 0) ∧
    (carved0.busy = [] ∧ ({ carved0 with busy := [Reg.strObjStatus 0] } : State).reg (Reg.strObjStatus 0) % 2 = 0 ∧
      Reg.strObjStatus 0 ∈ ({ carved0 with busy := [Reg.strObjStatus 0] } : State).busy) ∧
    (let s := objects .defunct { mobj1 with st := 2 }
     (s.ctx 1).st = .defunct ∧ (s.ctx 1).scanned = false ∧ Tab.wf 0#128 s.pmap.entries = true ∧ s.partOf .mobj 1 = some 0 ∧
     s.releasable 0 1 = true ∧ (s.mobj 1).fv = false ∧ (objects .live mobj1).releasable 0 1 = false) :=
  ⟨⟨reaches (by decide +kernel), reaches (by decide +kernel)⟩, by decide +kernel⟩

/-- Fence 1 as given, baton 2 as given, request 1. -/
def shared (f : Fence) (b : Baton) : State :=
  { carved0 with fences := [(1, f)], batons := [(1, b)], reqs := [(1, openReq 1)] }
def liveF (value : Nat) : Fence := { Fence.init with st := 1, value := value }
def liveB (value : Nat) : Baton := { Baton.init with live := true, value := value, waiters := [(.lap 0, 0)] }

theorem witness_FencesBatonsAndRequests :
    ((selected (shared Fence.init Baton.init) 1 5 0 0).Reaches 0 0 ∧ (selected (shared (liveF 4) (liveB 0)) 1 5 0 0).Reaches 0 0) ∧
    (let s := selected (shared Fence.init Baton.init) 1 5 0 0
     s.alive = true ∧ actsFor 0 0 = true ∧ s.reg (Reg.strObjStatus 0) % 2 = 0 ∧ s.reg (Reg.strObjSel 0) = 1 ∧
     s.inRange 0 .fence 1 = true ∧ s.partOf .fence 1 = some 0 ∧ (s.fence 1).st = 0 ∧ s.reg (Reg.strObjData 0 0) = 5 ∧
     s.ownerOk 0 0 = true ∧ exportOk 0 = true ∧ exportOk 1 = false ∧ s.inRange 0 .baton 1 = true ∧ (s.baton 1).live = false ∧
     s.inRange 0 .req 1 = true) ∧
    ((selected (shared Fence.init Baton.init) 1 (2 ^ 63) 0 0).reg (Reg.strObjData 0 0) = 2 ^ 63) ∧
    (let s := selected (shared (liveF 4) (liveB 0)) 1 5 0 0
     (s.fence 1).st = 1 ∧ (s.fence 1).imported = false ∧ (s.fence 1).value = 4 ∧ (s.baton 1).live = true ∧
     (s.baton 1).waiters.length = 1) ∧
    (let s := selected (shared (liveF (2 ^ 63)) (liveB (2 ^ 32 - 1))) 1 5 (2 ^ 48) 0
     2 ^ 63 ≤ (s.fence 1).value ∧ s.reg (Reg.strObjData 0 1) = 1 * 2 ^ 48 ∧ 2 ^ 32 ≤ (s.baton 1).value + 5) ∧
    (let s := selected (shared Fence.init Baton.init) 1 5 (2 ^ 16 + 2 ^ 24 * 7) 0
     s.coreOn 7 = true ∧ bitOf (s.pClusters 0) (7 / 8) = true ∧ s.coreOn 255 = false) :=
  ⟨⟨reaches (by decide +kernel), reaches (by decide +kernel)⟩, by decide +kernel⟩

/-! ### Energy and receipts -/

def meterIdx0 : MeterIdx :=
  { reqid := 77, tenant := 9, part := 0, slot := 1, frameOpen := 0, tOpen := 0, cls := 0, tstep := false, packets := 0,
    energy := 0, cats := [], stat := 0, closed := some (0, 5), frameClose := none, spread := false }
def frameRec : FrameRecord := 
  { samples := List.replicate 2000 (1, 1), shunt := 400, rails := List.replicate 12 0, saturated := 0, outOfRange := 0, badCheck := 0,
    counts := [{ idx := 0, event := 0, die := 0, n := 1 }], temp := 400, mv := List.replicate 12 700, inputMv := 48000, day := 0 }
def metered (m : Meter → Meter) : State := { carved0 with meter := m carved0.meter }
def off0 : State := { carved0 with boot := { carved0.boot with off := true, armed := false } }

theorem witness_EnergyAttribution :
    (([3, 1] : List Nat).sum ≠ 0 ∧ ([0, 0] : List Nat).sum = 0 ∧ 1 < ([0, 0] : List Nat).length) ∧
    (carved0.boot.off = false ∧ off0.boot.off = true) ∧
    (let s := metered (fun m => { m with idx := [(0, meterIdx0)] })
     s.meter.idx.look 0 = some meterIdx0 ∧ s.meter.stopped = 0 ∧ s.invalidMask frameRec / 2 ^ 12 % 2 = 0 ∧
     s.invalidMask frameRec % 2 = 0 ∧ (s.attribution frameRec).idx.any (fun y => y.1 = 0) = true) := by
  decide +kernel

/-- An entry for ring 0, whose base is page 1 or unmapped; the host ring; a note and its key at the anchor. -/
def entry0 : RingEntry := { kind := 1, leaf := 0, block := 0, body := [1#8], path := [] }
def ring0 (base : Nat) : State :=
  { metered (fun m => { m with backlog := [[entry0]], ringOn := 1 }) with
    dict := { Dict.init with active := carve0 ++ [(dkey 0x6100 1, base), (dkey 0x6100 2, 4)] } }
def note0 : NoteMsg := { reqid := 77, tenant := 9, module := 0, boot := 1, block := 0, hash := 0, status := 0, cls := 1, energy := 5, uncert := 0 }
def key0 : NoteKey := { reqid := 77, tenant := 9, part := some 0, first := 0, seq := 0, notes := [note0] }
def putOk (r : State ⊕ Nat) : Option State := match r with | .inl t => some t | .inr _ => none

theorem witness_LedgerAndReceipts :
    (carved0.fetching = true ∧ carved0.meter.due = []) ∧
    (let s := metered (fun m => { m with due := [(m.cur, 100, 100000000)], hssQ := 768, hssEnd := 1025 })
     s.fetching = true ∧ s.meter.blocked = false ∧ s.meter.hssReady = true ∧ (∀ r < 9, s.ringBase r = 0) ∧ s.meter.backlogBytes ≤ 2 ^ 28 ∧
     s.meter.hssEnd - s.meter.hssQ = 257) ∧
    (let s := metered (fun m => { m with hssPending := true, due := [(m.cur, 100, 100000000)], hssQ := 768, hssEnd := 768 })
     s.fetching = true ∧ s.meter.hssPending = true ∧ s.meter.hssFailed = false ∧ s.meter.due ≠ [] ∧ s.meter.hssReady = false) ∧
    ((metered (fun m => { m with hssPending := true, hssFailed := true })).meter.hssFailed = true) ∧
    (let s := ring0 0x8000
     nth [] s.meter.backlog 0 = [entry0] ∧ s.fetching = true ∧ s.alive = true ∧ bitOf s.meter.ringOn 0 = true ∧ s.ringBase 0 = 0x8000 ∧ s.ringLog 0 = 4 ∧
     ¬ (2 ^ s.ringLog 0 ≤ (s.reg (ringHead 0) + 2 ^ 32 - s.reg (ringTail 0)) % 2 ^ 32) ∧
     (putOk (s.ringPut 0 (0x8000 + 16) ((s.entryBytes 0 0 entry0).drop 16))).any (fun t =>
       (putOk (t.ringPut 0 0x8000 ((s.entryBytes 0 0 entry0).take 16))).isSome) = true) ∧
    (let s := (ring0 0x8000).setReg (ringHead 0) 16
     2 ^ s.ringLog 0 ≤ (s.reg (ringHead 0) + 2 ^ 32 - s.reg (ringTail 0)) % 2 ^ 32) ∧
    (putOk ((ring0 0x80000).ringPut 0 (0x80000 + 16) (((ring0 0x80000).entryBytes 0 0 entry0).drop 16)) = none) ∧
    (carved0.Reaches 0 0 ∧ actsFor 0 0 = true) ∧
    ((metered (fun m => { m with notes := [note0] })).meter.notes.drop 0 = [note0] ∧ carved0.links.sent = []) ∧
    (let s := metered (fun m => { m with keys := [key0] })
     s.meter.held.find? (fun x => x.is 77 9) = some key0 ∧
     (s.tick (2 ^ 40)).since key0.first = 2 ^ 40 ∧ s.entry 0x6000 0x0C * 1000000 + (s.tick (2 ^ 40)).since s.meter.cur.time ≤ 2 ^ 41) := by
  refine ⟨by decide +kernel, by decide +kernel, by decide +kernel, by decide +kernel, by decide +kernel, by decide +kernel,
    by decide +kernel, ⟨reaches (by decide +kernel), by decide +kernel⟩, by decide +kernel, by decide +kernel⟩

/-! ### Cartal -/

/-- Port 0 as given, the module settled as number 5; port 0 UP towards module 4. -/
def ported (x : Port) : State :=
  { carved0 with links := { carved0.links with ports := [(0, x)], coord := 5, valid := true, settled := true } }
def beacon0 : BeaconMsg :=
  { port := 1, variant := 1, units := 0, groupId := 0, boot := 1, serial := 5, root := 3, coord := 4, settled := true, valid := true,
    anchor := true, links := 1, nonce := [], eph := [], cert := [], certOk := true }
def portIn (st : Nat) : Port := { Port.init with st := st, mated := true, peer := some beacon0 }

theorem witness_LinkStates :
    (0 < (ported (portIn 0)).nPorts ∧ (ported (portIn 0)).mayTrain 0 = true ∧ (ported Port.init).mayTrain 0 = false ∧
      (ported (portIn PortSt.training)).mayTrain 0 = true) ∧
    (let s := ported { portIn PortSt.down with attempts := 3 }
     s.boot.off = false ∧ (s.port 0).st = PortSt.down ∧ 3 ≤ (s.port 0).attempts ∧ (s.tick 1000000000).since 0 = 1000000000 ∧
     (s.tick 999999999).since 0 < 1000000000) ∧
    ((ported (portIn PortSt.up)).beaconing 0 = true ∧ ((ported (portIn PortSt.up)).recent 1000000000 []).length < 3 ∧
      3 ≤ ((ported (portIn PortSt.up)).recent 1000000000 [0, 0, 0]).length ∧
      2 ≤ ((ported (portIn PortSt.up)).recent 60000000000 [0, 0]).length) ∧
    (ported (portIn PortSt.up)).Reaches 0 0 ∧
    (let x := { portIn PortSt.auth with finished := true, badAuth := 2 }
     ((ported x).port 0).st = PortSt.auth ∧ ((ported x).port 0).finished = true ∧ 2 ≤ x.badAuth ∧ (portIn PortSt.auth).badAuth < 2 ∧
     ((ported x).tick 100000000).since 0 = 100000000) ∧
    (let x := { portIn PortSt.quarantined with quarLen := 3600000000000 }
     ((ported x).port 0).st = PortSt.quarantined ∧ ((ported x).port 0).quarLen ≤ ((ported x).tick 3600000000000).since 0) ∧
    (ported (portIn PortSt.up)).portUp 0 = true := by
  refine ⟨by decide +kernel, by decide +kernel, by decide +kernel, reaches (by decide +kernel), by decide +kernel, by decide +kernel,
    by decide +kernel⟩

/-- The PCIe link is up. -/
def linked : State := { carved0 with pcie := { carved0.pcie with link := true } }

/-- A queued flit of the MSG class, the replay buffer full, a flit in order and out of order, keys in use. -/
def flit0 : QFlit := { vc := 1, share := 0, dst := 4, seq := 0, head := 0, payload := [] }
def kept0 : KeptFlit := { seq := 0, bytes := [], resends := 7 }
def upWith (x : Port → Port) : State := ported (x (portIn PortSt.up))
def flitIn (head : Nat) (crcOk tagOk : Bool) : FlitIn :=
  { header := BitVec.ofNat 64 head, payload := [], corrected := false, crcOk := crcOk, tagOk := tagOk }

theorem witness_FlitsAndBeacons :
    (let s := upWith (fun x => { x with queue := [flit0] })
     s.portUp 0 = true ∧ s.links.hostWrites = [] ∧ (s.port 0).replay.length < 256 ∧ ((s.port 0).pick s.linkWeight).isSome = true ∧
     flit0.head.toNat % 2 ^ 32 = 0 ∧ (s.port 0).txSeq < 2 ^ 16 ∧ (s.port 0).rxSeq = 2 ^ 16 - 1) ∧
    ((upWith id).port 0).pick (upWith id).linkWeight = none ∧
    (256 ≤ (List.replicate 256 kept0).length) ∧
    (let f := flitIn 0 true true
     f.corrected = false ∧ f.header.toNat % 2 ^ 16 = (0xFFFF + 1) % 2 ^ 16 ∧ f.header.toNat / 2 ^ 36 % 2 = 0 ∧
     ((upWith id).port 0).taken (flitClass 0) < nth 0 State.creditsAtReset (flitClass 0) ∧
     (flitIn 1 true true).header.toNat % 2 ^ 16 ≠ (0xFFFF + 1) % 2 ^ 16 ∧ (flitIn 0 false true).crcOk = false ∧
     (flitIn 0 true false).tagOk = false) ∧
    (let s := upWith (fun x => { x with freed := List.replicate 8 96 })
     nth 0 State.creditsAtReset (flitClass 0) ≤ (s.port 0).taken (flitClass 0)) ∧
    (let s := ported (portIn PortSt.auth)
     s.beaconing 0 = true ∧ s.portUp 0 = false ∧ (flitIn (2 ^ 33) true true).header.toNat / 2 ^ 33 % 4 ≠ 0) ∧
    (let s := upWith (fun x => { x with replay := [kept0] })
     (s.port 0).replay = [kept0] ∧ (s.tick 2000).since (s.port 0).lastAck = 2000 ∧ 7 ≤ kept0.resends ∧
     (s.tick 1999).since (s.port 0).lastAck < 2000) ∧
    (let s := ported (portIn PortSt.auth)
     s.beaconing 0 = true ∧ s.variantOk beacon0 = true ∧ s.denied beacon0.serial = false ∧ beacon0.groupId = s.entry 0x5000 1 ∧
     (s.port 0).seenBeacon = [] ∧ beacon0.certOk = true ∧ s.variantOk { beacon0 with variant := 3 } = false ∧ ({ beacon0 with groupId := 7 } : BeaconMsg).groupId ≠ s.entry 0x5000 1) ∧
    (let s := upWith id
     (s.port 0).st ≠ PortSt.auth ∧ (s.tick 100000000).since (s.port 0).lastBeacon = 100000000 ∧ (s.port 0).txSeq = 0 ∧
     (s.port 0).keyFlits < 2 ^ 40 ∧ s.since (s.port 0).keyTime < 86400000000000 ∧
     2 ^ 40 ≤ ((upWith (fun x => { x with keyFlits := 2 ^ 40 })).port 0).keyFlits) ∧
    (let s := { carved0 with links := { carved0.links with valid := true } }
     s.links.settled = false ∧ s.links.valid = true ∧ s.peers = [] ∧
     s.entry 0x5000 0x0A * 1000000 ≤ (s.tick (2 ^ 40)).since s.links.coordSince ∧ carved0.boot.off = false) := by
  decide +kernel

/-- Handle 1 as given in the settled module with port 0 UP. -/
def handled (h : Handle) : State :=
  { ported (portIn PortSt.up) with
    links := { (ported (portIn PortSt.up)).links with handles := [(1, h)] }
    fences := [(1, { Fence.init with st := 1, imported := true, source := 4 })] }
def msgIn (kind seq : Nat) (param : Nat) (data : List (BitVec 8)) : MsgIn :=
  { kind := kind, src := 4, dst := 5, req := false, srcPart := 0, handle := 1, len := data.length, seq := seq, param := param,
    reqid := 77, tenant := 9, reserved := false, abort := false, data := data }
/-- A receive queue of 16 slots of 64 B at page 1 for source 4; a window of a page; a collective of modules 4 and 5. -/
def rq0 : Handle := { Handle.init with kind := 1, data := [0x8000, 4 + 2 ^ 8 * 6, 0, 16] }
def window0 : Handle := { Handle.init with kind := 2, data := [0x8000, 0x8000, 0, 16] }
def coll0 : Handle := { Handle.init with kind := 3, data := [0x8000, 64, 0, 48], epoch := 1 }

theorem witness_MessagesReceived :
    (let s := handled rq0
     let m := msgIn 0 0 7 [1#8]
     let c := s.countMsg 0 m
     s.portUp 0 = true ∧ 0 < s.nPorts ∧ m.dst = s.links.coord ∧ m.data.length = m.len ∧ m.seq = Tab.get 0 s.links.recvSeq m.src ∧
     c.flooding 0 = false ∧ bitOf (nth 0 rq0.data 3) m.src = true ∧ m.len + 32 ≤ 2 ^ rq0.slotLog ∧
     (rq0.received + 2 ^ 32 - rq0.consumed) % 2 ^ 32 < 2 ^ rq0.ringLog ∧ 2 ^ rq0.slotLog < 33 + 32 ∧
     (let w := c.writeAll 20 rq0.part rq0.ctx (0x8000 + 16) (List.replicate 16 0#8 ++ m.data)
      w.2 = (17, none) ∧ (w.1.writeAll 20 rq0.part rq0.ctx 0x8000 (List.replicate 16 0#8)).2 = (16, none)) ∧
     bitOf (nth 0 rq0.data 2) 15 = false) ∧
    (({ rq0 with received := 16 }.received + 2 ^ 32 - rq0.consumed) % 2 ^ 32 = 2 ^ rq0.ringLog ∧ (handled rq0).handle 1 = rq0) ∧
    (let s := handled window0
     let m := msgIn 1 0 0 [1#8]
     bitOf (nth 0 window0.data 3) m.src = true ∧ m.param + m.len ≤ fld (nth 0 window0.data 1) 0 40 ∧
     ((s.countMsg 0 m).writeAll ((s.countMsg 0 m).rxDma 0) 0 0 0x8000 m.data).2 = (1, none) ∧ s.pcie.dmaRegs = [] ∧
     fld (nth 0 window0.data 1) 0 40 < 0x8000 + m.len) ∧
    (let s := handled rq0
     let g := (msgIn 2 0 (2 ^ 32) (leBytes 8 5)).param / 2 ^ 32 % 2 ^ 18
     g = 1 ∧ s.partOf .fence g = some 0 ∧ (s.fence g).st = 1 ∧ (s.fence g).imported = true ∧ (s.fence g).source = 4 ∧
     (s.fence g).value < 2 ^ 63) ∧
    ((msgIn 4 0 0 (List.replicate 64 0#8)).len = 64 ∧ (msgIn 6 0 8 [1#8]).data ≠ [] ∧ (handled rq0).pcie.link = false ∧ linked.pcie.link = true ∧
      2 ^ 31 < (2 ^ 32 - 1 + 2 ^ 32 - 0) % 2 ^ 32 ∧ (0 : Nat) < 2 ^ 31) := by
  decide +kernel

/-- A message to module 4 that a COPY's packet waits for, refused or not. -/
def sent0 (notReady : Bool) (resends : Nat) : SentMsg :=
  { dst := 4, seq := 0, kind := 0, part := 0, q := some (0, 0), handle := 1, param := 0, reqid := 0, tenant := 0, req := false,
    data := [], sentAt := 0, startAt := 0, resends := resends, notReady := notReady, unsent := false }
def awaiting (m : SentMsg) : State :=
  { flying 0x50 with links := { (ported (portIn PortSt.up)).links with sent := [m] } }
/-- The collective of a whole octet with its use by queue 0 waiting, every part there. -/
def allParts : List (Nat × Nat × List (BitVec 8)) :=
  (List.range 8).flatMap (fun m => [(m, 1, List.replicate 8 0#8), (m, 1, List.replicate 8 1#8)])
def collAll : Handle := { coll0 with data := [0x8000, 64, 0, 255], packet := some (0, 0), since := some 0, contrib := allParts }

theorem witness_MessageResults :
    (let s := awaiting (sent0 false 4)
     s.boot.off = false ∧ s.sentMsg 4 0 = some (sent0 false 4) ∧ (s.queue 0).packets.look 0 = some (started 0x50) ∧
     (started 0x50).status = 0 ∧ s.entry 0x2210 3 = 0 ∧ (s.tick 50000).since 0 = 50000 ∧ ((s.tick 50000).route 4).isSome = true ∧
     (({ s with links := { s.links with valid := false } } : State).tick 0).route 4 = none) ∧
    ((awaiting (sent0 true 0)).sentMsg 4 0 = some (sent0 true 0) ∧ ((awaiting (sent0 true 0)).tick 2000).since 0 = 2000 ∧
      (awaiting (sent0 true 0)).entry 0x5000 5 * 1000 ≤ ((awaiting (sent0 true 0)).tick (2 ^ 50)).since 0) ∧
    (let s := handled coll0
     let m := msgIn 3 0 1 (List.replicate 8 0#8)
     m.dst = s.links.coord ∧ (s.countMsg 0 m).flooding 0 = false ∧ s.handle 1 = coll0 ∧ bitOf coll0.members m.src = true ∧
     coll0.packet = none ∧ m.param = coll0.epoch ∧ coll0.lenOk m.data.length = true ∧ m.data.length = m.len ∧ bitOf window0.members 6 = false) ∧
    (let s := handled collAll
     s.handle 1 = collAll ∧ (collAll.result s.links.coord).any (fun l =>
       ((s.writeAll 20 0 0 0x8000 l.flatten).2.2).isNone &&
       (pagesOf 0x8000 l.flatten.length).all (fun x => !s.staleRange 0 0 x)) = true ∧
     bitOf (nth 0 collAll.data 2) 15 = false) ∧
    (let h := { coll0 with packet := some (0, 0), since := some 0 }
     let s := { flying 0x50 with links := (handled h).links }
     (s.handle 1).since = some 0 ∧ ((handled rq0).route 4).isSome = true ∧ (handled rq0).alive = true ∧ (s.handle 1).result s.links.coord = none ∧ s.entry 0x5000 6 * 1000 ≤ (s.tick (2 ^ 50)).since 0 ∧
     (s.handle 1).packet = some (0, 0) ∧ (s.queue 0).packets.look 0 = some (started 0x50)) ∧
    (let s := { ported (portIn PortSt.up) with pcie := { carved0.pcie with link := false } }
     s.pcie.link = false ∧ s.hostAnchor = some 4) ∧
    (linked.pcie.link = true ∧ linked.alive = true ∧ linked.time / 1000000 ≠ (linked.tick 1000000).time / 1000000) ∧
    (let s := handled rq0
     6 ≠ s.links.coord ∧ Tab.wf Fence.init s.fences = true ∧ (s.tick 0).unreachable 6 = false ∧
     (s.tick 1000000).unreachable 6 = true ∧ bitOf s.links.lost 6 = false) := by
  refine ⟨by decide +kernel, by decide +kernel, by decide +kernel, by decide +kernel, by decide +kernel, by decide +kernel,
    by decide +kernel, by decide +kernel⟩

/-- Handle registers of partition 0: number 1 or 16 (not the partition's), arguments of a receive queue, a window, a
collective of this module's octet, and one that is none of these. -/
def choosing (h : Handle) (n : Nat) (args : List Nat) : State :=
  let s := { carved0 with links := { carved0.links with handles := [(1, h)] } }
  (((((s.setReg (Reg.lnkHSel 0) n).setReg (Reg.lnkHData 0 0) (nth 0 args 0)).setReg (Reg.lnkHData 0 1) (nth 0 args 1)).setReg
    (Reg.lnkHData 0 2) (nth 0 args 2))).setReg (Reg.lnkHData 0 3) (nth 0 args 3)
def rqArgs : List Nat := [0x8000, 4 + 2 ^ 8 * 6, 0, 16]
def collArgs : List Nat := [0x8000, 64, 0, 1]

theorem witness_HandlesAndGroupWindow :
    ((choosing Handle.init 1 rqArgs).Reaches 0 0 ∧ (choosing Handle.init 16 rqArgs).Reaches 0 0 ∧ (choosing rq0 1 rqArgs).Reaches 0 0) ∧
    (let s := choosing Handle.init 1 rqArgs
     s.alive = true ∧ s.inRange 0 .handle (s.reg (Reg.lnkHSel 0)) = true ∧ (s.handle 1).kind = 0 ∧ s.rqOk 0 rqArgs = true ∧
     s.windowOk 0 [0x8000, 0x8000, 0, 16] = true ∧ s.collOk 0 collArgs = true ∧ s.collectives < 256 ∧
     s.rqOk 0 [1, 0, 0, 0] = false ∧ s.windowOk 0 [1, 0, 0, 0] = false ∧ s.collOk 0 [1, 0, 0, 0] = false ∧
     [s.reg (Reg.lnkHData 0 0), s.reg (Reg.lnkHData 0 1), s.reg (Reg.lnkHData 0 2), s.reg (Reg.lnkHData 0 3)] = rqArgs) ∧
    ((choosing Handle.init 16 rqArgs).inRange 0 .handle ((choosing Handle.init 16 rqArgs).reg (Reg.lnkHSel 0)) = false) ∧
    (let s := choosing rq0 1 rqArgs
     (s.handle 1).kind = 1 ∧ (s.handle 1).packet = none ∧ (s.handle 1).data.length ≤ 4 ∧
     ((s.handle 1).received + 2 ^ 32 - 0) % 2 ^ 32 ≤ 2 ^ (s.handle 1).ringLog ∧
     2 ^ (s.handle 1).ringLog < ((s.handle 1).received + 2 ^ 32 - 1) % 2 ^ 32) ∧
    (linked.Reaches 0 0 ∧ linked.pcie.link = true ∧ linked.moduleNo = 0 ∧ linked.isLost 4 = false ∧
      ({ linked with links := { linked.links with lost := 2 ^ 5 } } : State).isLost 5 = true ∧
      (linked.readReg 0 0 8).2.isSome = true ∧ linked.reg (Reg.lnkGwRegstat 4) % 2 = 0 ∧
      (linked.setReg (Reg.lnkGwRegstat 4) 1).reg (Reg.lnkGwRegstat 4) % 2 = 1) :=
  ⟨⟨reaches (by decide +kernel), reaches (by decide +kernel), reaches (by decide +kernel)⟩, by decide +kernel, by decide +kernel,
   by decide +kernel, reaches (by decide +kernel), by decide +kernel⟩

theorem witness_SchedulerAndProbe :
    (let t := (starting kCopy).settle
     (starting kCopy).fetching = true ∧ t.candidates 0 = [{ q := 0, n := 0, p := packet kCopy }] ∧
       t.fits 0 [] { q := 0, n := 0, p := packet kCopy } = some 0 ∧ (t.queue 0).nextStart = some (0, packet kCopy) ∧
       (t.queue 0).packets = [(0, packet kCopy)] ∧ pOpcode (packet kCopy).raw = 0x20 ∧ t.queues.map Prod.fst = [0]) ∧
    (((queued (queueOf .running desc0 [])).settle.pass 0).2 = [] ∧ (queued (queueOf .running desc0 [])).fetching = true) ∧
    ((starting 0x01).settle.fetching = true ∧ off0.fetching = false ∧ (0, 0, 0) ∈ ((starting 0x01).settle.pass 0).2 ∧
      Tab.wf Queue.init (starting 0x01).settle.queues = true) ∧
    (vfs.Reaches 1 0 ∧ carved0.Reaches 0 0) ∧
    (let s := homeWith [(ln, busyWith 1 0 false 0)]
     s.inDram 0x40008000 = true ∧ s.homeOf (0x40008000 / 128) = some 0 ∧ s.dirEntry 0 (0x40008000 / 128) = some (busyWith 1 0 false 0) ∧
     carved0.inDram (2 ^ 47) = false) :=
  ⟨by decide +kernel, by decide +kernel, by decide +kernel, ⟨reaches (by decide +kernel), reaches (by decide +kernel)⟩, by decide +kernel⟩

/-! ### The dictionary and its sessions -/

/-- A dictionary in a state; a session of principal 0, whose role the dictionary gives. -/
def dicted (d : Dict → Dict) : State := { carved0 with dict := d carved0.dict }
def session0 (opened : Bool) : Session :=
  { mac := 9, principal := 0, opened := opened, since := 0, nextSeq := 0, priv := 1, client := List.replicate 97 4#8,
    transcript := [], key := List.replicate 32 7#8 }
def sessioned (role : Nat) (d : Dict → Dict) : State :=
  dicted (fun x => d { x with sessions := [(1, session0 true)], active := carve0 ++ [(dkey 0x2100 2, role)] })

theorem hearsMailbox {s : State} (h : s.barOn = true ∧ s.reg Reg.hifMbxStatus % 2 = 0) :
    s.Hears (s.setReg Reg.hifMbxStatus 1) .mailbox := ⟨h.1, h.2, rfl⟩

theorem hearsSession {s : State} (h : s.segmentOn = true ∧ s.recovery = false ∧
    s.dict.sessions.look 1 = some (session0 true) ∧ s.lockedOut 9 = false) :
    ∃ t, s.Hears t (.session ⟨.own, none⟩ 1 1 true) :=
  ⟨_, rfl, rfl, h.1, h.2.1, rfl, session0 true, h.2.2.1, rfl, h.2.2.2, by decide, rfl⟩

def itemOf (index sub type : Nat) (data : List (BitVec 8)) : Item := { index := index, sub := sub, type := type, data := data }

theorem witness_DictionaryOperations :
    (let t := carved0.setReg Reg.hifMbxStatus 1
     carved0.Hears t .mailbox ∧ Role.admin ≤ t.role .mailbox ∧ t.dict.owner = 0 ∧ t.dict.state = 0 ∧ t.shadowFails = [] ∧
     24 + 72 * 0 ≤ pduLimit .mailbox) ∧
    (∃ t, (sessioned 0 id).Hears t (.session ⟨.own, none⟩ 1 1 true)) ∧ (sessioned 0 id).role (.session ⟨.own, none⟩ 1 1 true) = 0 ∧
    (sessioned 1 id).role (.session ⟨.own, none⟩ 1 1 true) = 1 ∧ (sessioned 2 id).role (.session ⟨.own, none⟩ 1 1 true) = 2 ∧
    (∃ t, (sessioned 1 id).Hears t (.session ⟨.own, none⟩ 1 1 true)) ∧ (∃ t, (sessioned 2 id).Hears t (.session ⟨.own, none⟩ 1 1 true)) ∧
    (∀ r, (dictRow 0x3000 4 = some r → r.acc = .rws ∧ hasOffset r = false ∧ r.bytes = 2 ∧ typeBytes r.type ≠ 0 ∧ 3000 > r.hi) ∧
      (dictRow 0x3000 1 = some r → r.acc = .rwi ∧ r.admin = false) ∧ (dictRow 0x3000 7 = some r → r.acc = .ro) ∧
      (dictRow 0x1000 0x10 = some r → r.acc = .wo)) ∧
    (dictRow 0x3000 4).isSome = true ∧ (dictRow 0x3000 1).isSome = true ∧ (dictRow 0x3000 7).isSome = true ∧
    (dictRow 0x1000 0x10).isSome = true ∧ (dictRow 0x3FFF 1).isNone = true ∧ inRangeOf 0x3000 4 700 = true ∧ inRangeOf 0x3000 1 1000 = true ∧
    (dicted (fun d => { d with state := 3 })).Hears ((dicted (fun d => { d with state := 3 })).setReg Reg.hifMbxStatus 1) .mailbox ∧
    (dicted (fun d => { d with owner := 5, state := 1 })).Hears ((dicted (fun d => { d with owner := 5, state := 1 })).setReg Reg.hifMbxStatus 1) .mailbox ∧
    (dicted (fun d => { d with state := 2 })).Hears ((dicted (fun d => { d with state := 2 })).setReg Reg.hifMbxStatus 1) .mailbox ∧
    (let s := dicted (fun d => { d with state := 1, shadow := [(dkey 0x3000 4, 5)], applySrc := 0xFFFF })
     s.Hears (s.setReg Reg.hifMbxStatus 1) .mailbox ∧ s.shadowFails ≠ [] ∧
     24 + itemsLen (s.shadowFails.map failItem) ≤ pduLimit .mailbox ∧ s.boot.off = false) ∧
    (let s := dicted (fun d => { d with state := 3 })
     s.shadowFails = [] ∧ s.time = s.meter.frameTime ∧ (s.frameEnd frameRec).dict.state = 3 ∧ (0x3000, 4) ∈ storedEntries) := by
  refine ⟨⟨hearsMailbox (by decide +kernel), by decide +kernel⟩, hearsSession (by decide +kernel), by decide +kernel, by decide +kernel,
    by decide +kernel, hearsSession (by decide +kernel), hearsSession (by decide +kernel), ?_, by decide +kernel, by decide +kernel,
    by decide +kernel, by decide +kernel, by decide +kernel, by decide +kernel, by decide +kernel, hearsMailbox (by decide +kernel),
    hearsMailbox (by decide +kernel), hearsMailbox (by decide +kernel), ⟨hearsMailbox (by decide +kernel), by decide +kernel⟩,
    by decide +kernel⟩
  intro r
  refine ⟨?_, ?_, ?_, ?_⟩ <;> intro h <;> cases h <;> decide

/-- A MAC address is heard with no session and with eight; a half session of it; configuration and image checks due. -/
def eight : State := dicted (fun d => { d with
  sessions := (List.range 8).map (fun n => (n + 1, session0 true)) })
def half : State := sessioned 3 (fun d => { d with sessions := [(1, session0 false)] })

theorem witness_SessionsAndManagement :
    ((sessioned 3 id).Hears (sessioned 3 id) (.segment ⟨.own, none⟩ 9 1) ∧ (sessioned 3 id).entry (0x2100 + 0) 2 ≠ 0 ∧ (sessioned 3 id).dict.state ≠ 3) ∧
    (eight.Hears eight (.segment ⟨.own, none⟩ 9 1) ∧ 8 ≤ (eight.dict.sessions.filter (fun k => k.2.opened || eight.since k.2.since ≤ 1000000000)).length) ∧
    ((dicted (fun d => { d with failures := [(9, 0), (9, 0)] })).Hears (dicted (fun d => { d with failures := [(9, 0), (9, 0)] })) (.segment ⟨.own, none⟩ 9 1) ∧
      carved0.entry (0x2100 + 1) 2 = 0) ∧
    (half.Hears half (.segment ⟨.own, none⟩ 9 1) ∧ half.time < 2 ^ 64 ∧ half.dict.sessions.look 1 = some (session0 false) ∧ half.since 0 ≤ 1000000000 ∧
      half.entry (0x2100 + 0) 2 ≠ 0) ∧
    (∃ t, (sessioned 3 (fun d => { d with owner := 1, state := 1 })).Hears t (.session ⟨.own, none⟩ 1 1 true)) ∧
    ((sessioned 3 id).dict.sessions.look 1 = some (session0 true) ∧ (sessioned 3 id).entry 0x2000 7 * 1000000000 ≤
      ((sessioned 3 id).tick (300 * 1000000000)).since 0) ∧
    (carved0.Hears (carved0.setReg Reg.hifMbxStatus 1) .mailbox ∧ carved0.recovery = false ∧ carved0.boot.running = 0 ∧
      carved0.inFlight = 0 ∧ (queued (queueOf .running desc0 [(0, started kFill)])).inFlight ≠ 0 ∧ carved0.entry 0x3000 0x0C ≠ 0 ∧
      carved0.attestRetry = none ∧ ({ carved0 with boot := { carved0.boot with reportTime := some 0 } } : State).attestRetry.isSome = true) ∧
    ((dicted (fun d => { d with storeState := 1 })).dict.storeState = 1 ∧ carved0.dict.storeState = 0 ∧ carved0.boot.fwState ≠ 1 ∧
      ({ carved0 with boot := { carved0.boot with fwState := 1, svnMin := 2 } } : State).boot.fwState = 1) ∧
    (carved0.Reaches 0 0 ∧ carved0.reg Reg.hifMbxStatus % 2 = 0 ∧ (carved0.setReg Reg.hifMbxStatus 1).reg Reg.hifMbxStatus % 2 = 1) ∧
    (let pdu := pduBytes 1 2 0 0 7 0 [(itemOf 0x1000 2 2 [], 0)]
     let s : State := { carved0 with mbxReq := Mem.write [] 0 pdu }
     s.Reaches 0 0 ∧ s.reg Reg.hifMbxStatus % 2 = 0 ∧ Mem.bytes s.mbxReq 0 32 = pdu ∧ pdu.length = 32) ∧
    (let s := sessioned 3 (fun d => { d with sessions := [(1, { session0 true with nextSeq := 5 })] })
     s.dict.sessions.look 1 = some { session0 true with nextSeq := 5 } ∧ s.segmentOn = true ∧ s.recovery = false ∧
     s.lockedOut 9 = false) := by
  refine ⟨⟨⟨rfl, rfl, by decide +kernel, by decide +kernel, by decide +kernel, rfl⟩, by decide +kernel⟩,
    ⟨⟨rfl, rfl, by decide +kernel, by decide +kernel, by decide +kernel, rfl⟩, by decide +kernel⟩,
    ⟨⟨rfl, rfl, by decide +kernel, by decide +kernel, by decide +kernel, rfl⟩, by decide +kernel⟩,
    ⟨⟨rfl, rfl, by decide +kernel, by decide +kernel, by decide +kernel, rfl⟩, by decide +kernel⟩, hearsSession (by decide +kernel), by decide +kernel,
    ⟨hearsMailbox (by decide +kernel), by decide +kernel⟩, by decide +kernel, ⟨reaches (by decide +kernel), by decide +kernel⟩,
    ⟨reaches (by decide +kernel), by decide +kernel⟩, by decide +kernel⟩

/-! ### Power, start-up, traces and the host -/

def powered (p : Power → Power) : State := { carved0 with power := p carved0.power }
def booted (b : Boot → Boot) : State := { carved0 with boot := b carved0.boot }

theorem witness_PowerAndHeat :
    (carved0.boot.off = false ∧ carved0.boot.fatal = 0 ∧ (booted (fun b => { b with fatal := 5 })).boot.fatal ≠ 0) ∧
    (let peak := carved0.entry 0x3000 2 * 1000
     let sus := carved0.entry 0x3000 1 * 1000
     sus ≤ peak ∧ 95 * peak < 100 * peak ∧ 0 < sus ∧ 700 ≤ carved0.power.mhz ∧ (carved0.tick 10000).since 0 < 1000000 ∧
     1000000 ≤ (carved0.tick 1000000).since carved0.power.lastChange) ∧
    (islandKey 5 0 ∉ carved0.power.droop ∧ islandKey 5 0 ∈ (powered (fun p => { p with droop := [islandKey 5 0] })).power.droop) ∧
    (carved0.boot.start = Start.ready ∧ 1000000 ≤ (carved0.tick 10000000).since carved0.power.lastTherm ∧ carved0.power.thermDrop < 14 ∧
      0 < (powered (fun p => { p with thermDrop := 1 })).power.thermDrop ∧ (carved0.entry 0x3000 6 : Nat) = 100) ∧
    (booted (fun b => { b with start := Start.memory })).boot.start = Start.memory ∧
    (50000000 ≤ (carved0.tick 50000000).since carved0.meter.frameTime ∧ (carved0.tick 49999999).since carved0.meter.frameTime < 50000000) := by
  decide +kernel

def armed0 : State := booted (fun b => { b with off := true, armed := true })
def result0 : PowerUpResult :=
  { slotA := some (1, 0), slotB := none, calOk := true, reserved := true, railsOk := true, trainOk := true, test := SelfTest.pass, overTemp := false, ns := 5 }
def meteredReq : State := metered (fun m => { m with idx := [(0, meterIdx0)] })

theorem witness_StartResetAndPowerDown :
    (armed0.mayBoot = true ∧ carved0.mayBoot = false ∧ bootSlot result0.slotA result0.slotB = some 0 ∧ bootSlot none none = none ∧
      armed0.boot.resetNLow = false ∧ armed0.unitFail result0.test = false ∧
      armed0.unitFail { SelfTest.pass with other := true } = true ∧
      (booted (fun b => { b with off := true, armed := true, resetNLow := true })).boot.resetNLow = true) ∧
    carved0.Reaches 0 0 ∧ meteredReq.Reaches 0 0 ∧
    (carved0.mayReset = true ∧ carved0.boot.start = Start.ready ∧ meteredReq.meter.idx ≠ [] ∧ carved0.meter.idx = [] ∧
      carved0.boot.resetNLow = false ∧ carved0.boot.fatal = 0 ∧ carved0.unitFail SelfTest.pass = false) ∧
    (let s := booted (fun b => { b with start := Start.memory, resetNLow := true })
     s.boot.off = false ∧ s.boot.start = Start.memory ∧ s.unitFail s.boot.test = false) ∧
    (let s := booted (fun b => { b with start := Start.resetting, resetStep := 3, resetNLow := true })
     s.boot.start = Start.resetting ∧ s.boot.resetStep = 3 ∧ s.hot = false ∧ s.unitFail s.boot.test = false) ∧
    (let s := booted (fun b => { b with start := Start.poweringDown, pdStep := 2, pdGrace := 1000 })
     s.boot.off = false ∧ s.boot.pdStep = 2 ∧ s.inFlight = 0 ∧ s.meter.idx = [] ∧ s.meter.backlog.all List.isEmpty = true ∧
     s.meter.reserving = false ∧ s.dict.storeState ≠ 1 ∧ s.boot.pdGrace * 1000000 ≤ (s.tick 1000000000).since 0) ∧
    (booted (fun b => { b with margin := true })).boot.margin = true :=
  ⟨by decide +kernel, reaches (by decide +kernel), reaches (by decide +kernel), by decide +kernel⟩

/-- Ring 0's trace ring ON at page 1 of 64 records (context 0), the host's at 2^20; a buffer of records of the module. -/
def rec0 (part : BitVec 8) : List (BitVec 8) := List.replicate 11 0#8 ++ [part] ++ List.replicate 52 0#8
def traced (recs : List (List (BitVec 8))) (s : State) : State :=
  { ((s.setReg (trCfg 8) 6).setReg (trBase 8) 0x100000).setReg (trCfg 0) 6 with
    traces := [(20, { TraceBuf.init with recs := recs })]
    pcie := { s.pcie with link := true } }
def on8 (s : State) : State := (s.setReg (trStatus 8) 1).setReg (trStatus 0) 1
def fullRing0 : State := (on8 (traced (List.replicate 128 (rec0 0#8)) carved0)).setReg (trHead 0) 64

theorem witness_TraceRings :
    (carved0.Reaches 0 0 ∧ vfs.Reaches 1 0 ∧ (traced [] carved0).Reaches 0 0 ∧ (on8 (traced [] carved0)).Reaches 0 0) ∧
    (actsFor 1 0 = true ∧ actsFor 1 1 = false ∧ actsFor 0 7 = true) ∧
    (let s := traced [] carved0
     s.reg (trBase 8) % 4096 = 0 ∧ s.reg (trCfg 8) % 32 = 6 ∧ s.reg (trCfg 0) % 32 = 6 ∧ s.reg (trBase 0) % 4096 = 0 ∧
     s.inRange 0 .ctx 0 = true ∧ (s.ctx 0).st = .live ∧ s.itrace.copy = none ∧ s.reg (trCfg 1) % 32 < 6) ∧
    (let s := { traced [] carved0 with itrace := { carved0.itrace with count := 3 } }
     s.trOn 8 = false ∧ s.itrace.count ≠ 0 ∧ (on8 s).trOn 8 = true ∧ (on8 s).reg (trHead 8) + 3 ≤ 2 ^ ((on8 s).reg (trCfg 8) % 32)) ∧
    (let s := traced (List.replicate 128 (rec0 0xFF#8)) carved0
     128 ≤ (s.buffer 20).recs.length ∧ (s.buffer 20).held = none ∧ ((rec0 0xFF#8).drop 11).headD 0 = 0xFF#8 ∧ s.boot.off = false ∧
     (traced [rec0 0xFF#8] carved0).entry 0x2300 3 * 1000 ≤ ((traced [rec0 0xFF#8] carved0).tick (2 ^ 40)).since 0) ∧
    (let s := on8 (traced (List.replicate 32 (rec0 0xFF#8)) carved0)
     s.trOn 8 = true ∧ s.pcie.link = true ∧ s.reg (trHead 8) = 0 ∧ (s.buffer 20).recs.length ≤ 2 ^ (s.reg (trCfg 8) % 32)) ∧
    (fullRing0.trOn 0 = true ∧ fullRing0.trRoom 0 = false ∧ (fullRing0.buffer 20).recs.head? = some (rec0 0#8)) :=
  ⟨⟨reaches (by decide +kernel), reaches (by decide +kernel), reaches (by decide +kernel), reaches (by decide +kernel)⟩, by decide +kernel⟩

def freezing (f : Freeze → Freeze) : State := { carved0 with freeze := f carved0.freeze }
def grouped : State := { freezing (fun f => { f with group := some (4, 7), copy := some [] }) with
  dict := { carved0.dict with active := carve0 ++ [(dkey 0x2300 2, 1)] } }

theorem witness_FreezeHolders :
    (carved0.Reaches 0 0 ∧ vfs.Reaches 1 0 ∧ (freezing (fun f => { f with reg := true, copy := some [] })).Reaches 0 0) ∧
    (carved0.frozen = false ∧ (freezing (fun f => { f with reg := true, copy := some [] })).frozen = true ∧ carved0.boot.off = false ∧
      carved0.bufferOk 20 = true ∧ (carved0.buffer 20).dropped = 0 ∧ (carved0.buffer 20).recs.length < 256) ∧
    (let s := freezing (fun f => { f with lastRise := some 0 })
     (s.tick 9999).since 0 = 9999 ∧ (s.tick 10000).since 0 = 10000 ∧ s.freeze.high = false) ∧
    (let s := freezing (fun f => { f with high := true, pin := true, copy := some [], lastRise := some 0 })
     s.freeze.high = true ∧ s.freeze.masked = false ∧ 1000000000 < (s.tick 1000000001).since 0 ∧ (s.tick 1000000000).since 0 ≤ 1000000000) ∧
    ((freezing (fun f => { f with high := true, masked := true })).freeze.masked = true) ∧
    (carved0.entry 0x2300 2 ≠ 1 ∧ grouped.entry 0x2300 2 = 1 ∧ grouped.freeze.group = some (4, 7) ∧ carved0.freeze.group = none) :=
  ⟨⟨reaches (by decide +kernel), reaches (by decide +kernel), reaches (by decide +kernel)⟩, by decide +kernel⟩

theorem witness_HostLinkAndResets :
    (off0.boot.off = true ∧ carved0.boot.off = false ∧ carved0.barOn = true ∧ off0.barOn = false ∧ carved0.boot.start = Start.ready ∧
      meteredReq.meter.idx ≠ []) ∧
    (vfs.barOn = true ∧ vfs.fnOn 1 = true ∧ vfs.fnOn 2 = false ∧ (vfs.ctx 0).st = .live ∧ vfs.inRange 0 .ctx 0 = true ∧
      (vfs.pfn 1).msix = false) ∧
    (carved0.boot.hpClk = true ∧ carved0.boot.start ∉ [1, 2, 3, Start.noFirmware, Start.railFault] ∧
      (booted (fun b => { b with hpClk := false })).boot.hpClk = false) ∧
    (carved0.Reaches 0 0 ∧ carved0.pcie.ptm = false ∧ ({ linked with pcie := { linked.pcie with ptm := true } } : State).pcie.ptm = true) ∧
    (let s := { linked with pcie := { linked.pcie with ptm := true, setArmed := true, lastDialogue := some 0 } }
     s.boot.off = false ∧ 1000 * s.reg Reg.hifPtmInterval ≤ (s.tick 10000000).since 0 ∧ s.pcie.setArmed = true) ∧
    (0 < carved0.nPorts ∧ (ported (portIn PortSt.up)).nPorts = 16 ∧ (ported (portIn PortSt.down)).portOn 0 = true ∧
      (ported (portIn PortSt.down)).boot.lkClk = true) :=
  ⟨by decide +kernel, by decide +kernel, by decide +kernel, ⟨reaches (by decide +kernel), by decide +kernel⟩, by decide +kernel, by decide +kernel⟩

/-- A function in D3hot; one whose vector 0 is open and pending; IDE required of function 0's BAR0 and none programmed. -/
def fned (f : PFn) : State := { carved0 with pcie := { carved0.pcie with fns := [(0, f)] } }
def hostRead (who : Option Waiter) (work : Option (Nat × Nat)) : PRead :=
  { addr := 64, len := 4, va := 0x18000, work := work, who := who, reg := 3, sext := false, pc := 0x100 }
def pread0 (who : Option Waiter) (work : Option (Nat × Nat)) (s : State) : State :=
  { s with pcie := { s.pcie with reads := [(5, hostRead who work)] } }
def fetchedOf : Fetched := { q := 0, n := 0, addr := 64, len := 4, data := none }
def fetchingQ : State :=
  let s := pread0 none (some (0, 0)) (flying kCopy)
  { s with pcie := { s.pcie with fetched := [fetchedOf] } }

theorem witness_HostRequestsAndCompletions :
    (carved0.barOn = true ∧ carved0.fnOn 1 = false ∧ carved0.fnOn 0 = true ∧ carved0.ideOk 0 0 = true ∧
      ((fned { PFn.init with d3 := true }).pfn 0).d3 = true ∧ carved0.Reaches 0 0 ∧ vfs.Reaches 1 0) ∧
    ((carved0.setReg Reg.hifIdeReq 1).ideOk 0 0 = false ∧ (carved0.setReg Reg.hifIdeReq 1).fnOn 0 = true) ∧
    ((booted (fun b => { b with start := 1 })).barOn = false ∧ (booted (fun b => { b with start := 1 })).boot.off = false ∧
      off0.boot.off = true ∧ 1 ≤ carved0.units.variant) ∧
    (let f := { PFn.init with msix := true, pba := 1, table := [(0, 64#128)] }
     bitOf ((fned f).pfn 0).pba 0 = true ∧ ((fned f).pfn 0).msix = true ∧ bitOf (((fned f).pfn 0).entry 0).toNat 96 = false) ∧
    (255 < msixEntries 0 ∧ msixEntries 0 ≤ 256 ∧ vfs.fnOn 1 = true) ∧
    ((pread0 (some (.lane 0 0 0)) none kern0).pcie.reads.look 5 = some (hostRead (some (.lane 0 0 0)) none) ∧
      (pread0 (some (.lane 0 0 0)) none kern0).pack 0 0 = some pack0 ∧ 0 < pack0.threads.length) ∧
    ((pread0 (some (.coach 0)) none coached).pcie.reads.look 5 = some (hostRead (some (.coach 0)) none)) ∧
    (fetchingQ.pcie.reads.look 5 = some (hostRead none (some (0, 0))) ∧ fetchingQ.pcie.fetched = [fetchedOf] ∧ (fetchingQ.queue 0).packets.look 0 = some (started kCopy)) ∧
    carved0.pcie.reads.look 5 = none := by
  refine ⟨⟨by decide +kernel, by decide +kernel, by decide +kernel, by decide +kernel, by decide +kernel, reaches (by decide +kernel),
    reaches (by decide +kernel)⟩, by decide +kernel⟩

/-! ### The machine as a whole -/

/-- A module that is off and steps over a command; one whose queue's front is a command. -/
theorem witness_OffStaysOff : off0.Off ∧ ∃ t, step { off0 with pending := [.resetNRelease] } = .next t :=
  ⟨⟨by decide +kernel, by decide +kernel⟩, goes (by decide +kernel)⟩

theorem witness_StepTakesFront : carved0.pending = [] ∧ { carved0 with pending := [.ledgerBlock] }.pending = [.ledgerBlock] := by
  decide +kernel

theorem witness_WellFormedCommandsComplete :
    carved0.units.variant ≠ 3 ∧ (Instr.iadd (.simt 159 63) 1#64).wf = true ∧ (Instr.iadd (.coach 160) 1#64).wf = false ∧
    (Instr.rsPatrol 1 (some rsBase)).wf = true ∧ (carved0.sliceOf rsBase).isSome = true ∧ carved0.nCores ≤ 160 ∧
    carved0.nPorts ≤ 16 ∧ carved0.boot.off = false := by
  decide +kernel

/-- Values within, at and beyond the largest of FP16 and INT8, and encodings of finite values. -/
theorem witness_NumberFormats :
    (Fmt.fp16 ≠ .t2 ∧ Fmt.int8 ≠ .t2) ∧ (0x7BFF < 2 ^ fmtWidth .fp16 ∧ (decodeElem .fp16 0x7BFF).nonfinite = false) ∧
    (0x80 < 2 ^ fmtWidth .int8 ∧ (decodeElem .int8 0x80).nonfinite = false) ∧ (decodeElem .fp16 0x7C00).nonfinite = true ∧
    ((1 : Rat) / 3 ≤ 65504 ∧ (127 : Rat) + 1 ≤ 128 / 1 ∧ (65504 : Rat) < 65510 / 1 ∧ (65510 : Rat) / 1 < 65504 + 32 / 2 ∧
      (65504 : Rat) + 32 / 2 ≤ 65520 / 1 ∧ (65504 : Rat) + 32 ≤ 65536 / 1) ∧ fmtHasInf .fp16 = true ∧ fmtHasInf .int8 = false := by
  norm_num
  decide +kernel

/-! ### Results the specification's numbers give -/

/-- A fact about the state a command answers. -/
def after (r : Res) (p : State → Bool) : Bool :=
  match r with
  | .next t => p t
  | _ => false

/-- Vector register `r` of lane 0, scalar register `r`, of the pack in slot 0. -/
def laneReg (r : Nat) (s : State) : Nat := ((s.pack 0 0).map (fun p => (p.thread 0).reg r)).getD 0
def scalarReg (r : Nat) (s : State) : Nat := ((s.pack 0 0).map (fun p => p.sreg r)).getD 0

/-- Words of format R: D, A, B, C and FMT; and with an immediate in place of B. -/
def wTwo (d a b c fmt : Nat) : BitVec 64 := BitVec.ofNat 64 (2 ^ 8 * d + 2 ^ 16 * a + 2 ^ 24 * fmt + 2 ^ 32 * b + 2 ^ 40 * c)
def wImm (d a imm : Nat) : BitVec 64 := BitVec.ofNat 64 (2 ^ 8 * d + 2 ^ 16 * a + 2 ^ 31 + 2 ^ 32 * imm)
def holding (a b : BitVec 32) : State := runs { pack0 with threads := [{ thread0 with v := [(3, a), (4, b)] }, thread1] }

/-- R125 on 5 and 7; the lanes' pc moves on by 8. -/
theorem test_integer : [(Instr.iadd grp0.eng (wTwo 2 3 4 255 0), 12), (.isub grp0.eng (wTwo 2 3 4 255 0), 2 ^ 32 - 2),
    (.imul grp0.eng (wTwo 2 3 4 255 0), 35), (.and grp0.eng (wTwo 2 3 4 255 0), 5), (.or grp0.eng (wTwo 2 3 4 255 0), 7),
    (.xor grp0.eng (wTwo 2 3 4 255 0), 2), (.shl grp0.eng (wTwo 2 3 4 255 0), 640), (.iadd grp0.eng (wImm 2 3 0xFFFFFFFF), 4)].all
      (fun x => after (exec x.1 kern0) (fun t => laneReg 2 t = x.2 && (t.pack 0 0).all (fun p => (p.thread 0).pc = 0x108))) = true := by
  decide +kernel

/-- R125 on −1 and 2, and on −1 twice: signed and unsigned high words, arithmetic and logical shifts, minima. -/
theorem test_integer_signs : [(Instr.imulh grp0.eng (wTwo 2 3 3 255 0), 0), (.imulhu grp0.eng (wTwo 2 3 3 255 0), 0xFFFFFFFE),
    (.sar grp0.eng (wTwo 2 3 4 255 0), 0xFFFFFFFF), (.shr grp0.eng (wTwo 2 3 4 255 0), 0x3FFFFFFF),
    (.imin grp0.eng (wTwo 2 3 4 255 0), 0xFFFFFFFF), (.umin grp0.eng (wTwo 2 3 4 255 0), 2),
    (.popc grp0.eng (wTwo 2 3 255 255 0), 32), (.clz grp0.eng (wTwo 2 4 255 255 0), 30)].all
      (fun x => after (exec x.1 (holding 0xFFFFFFFF#32 2#32)) (fun t => laneReg 2 t = x.2)) = true := by
  decide +kernel

/-- R126 on 1.5 and 2.5 in FP32. -/
theorem test_float : [(Instr.fadd grp0.eng (wTwo 2 3 4 255 0), 0x40800000), (.fsub grp0.eng (wTwo 2 3 4 255 0), 0xBF800000),
    (.fmul grp0.eng (wTwo 2 3 4 255 0), 0x40700000), (.ffma grp0.eng (wTwo 2 3 4 4 0), 0x40C80000),
    (.fmin grp0.eng (wTwo 2 3 4 255 0), 0x3FC00000), (.fmax grp0.eng (wTwo 2 3 4 255 0), 0x40200000)].all
      (fun x => after (exec x.1 (holding 0x3FC00000#32 0x40200000#32)) (fun t => laneReg 2 t = x.2)) = true := by
  decide +kernel

/-- Scalars s5 = 0x8000 and s6 = 4. -/
theorem test_scalar : [(Instr.sadd grp0.eng (wTwo 2 5 6 255 0), 0x8004), (.ssub grp0.eng (wTwo 2 6 5 255 0), 2 ^ 64 - 0x7FFC),
    (.smul grp0.eng (wTwo 2 5 6 255 0), 0x20000), (.sshl grp0.eng (wTwo 2 5 6 255 0), 0x80000), (.sshr grp0.eng (wTwo 2 5 6 255 0), 0x800),
    (.sor grp0.eng (wTwo 2 5 6 255 0), 0x8004), (.sslt grp0.eng (wTwo 2 6 5 255 0), 1)].all
      (fun x => after (exec x.1 kern0) (fun t => scalarReg 2 t = x.2)) = true := by
  decide +kernel

/-- The largest values of R30, ties of R43, an overflow. -/
theorem test_formats : (toF32 (.fin false 1 3) = 0x3EAAAAAB) ∧ (convertTo .e4m3 .rne (.fin false 448 1)).1 = 0x7E ∧
    (convertTo .fp16 .rne (.fin false 65504 1)).1 = 0x7BFF ∧ (convertTo .fp16 .rne (.fin false 65520 1)).1 = 0x7C00 ∧
    (convertTo .bf16 .rne (.fin true 1 1)).1 = 0xBF80 ∧ (convertTo .int8 .rne (.fin false 5 2)).1 = 2 ∧
    (convertTo .int8 .rne (.fin false 7 2)).1 = 4 ∧ (convertTo .int8 .rtz (.fin true 7 2)).1 = 0xFD ∧
    (convertTo .e2m1 .rne (.fin false 100 1)) = (7, .sat) := by
  decide +kernel

/-- EXIT with bit 30 set: ILLEGAL, and the kernel stops. -/
theorem test_illegal : after (exec (.exit grp0.eng (BitVec.ofNat 64 (0x95 + 2 ^ 30))) kern0) (fun t =>
    (t.launch 1).any (fun l => l.status = Stat.illegal) && (t.pack 0 0).isNone) = true := by
  decide +kernel

/-- A doorbell to TAIL 3 on a ring of 16; a completed NOP moves HEAD; DISABLE of the idle queue. -/
theorem test_queue : after (exec (.strDbTail 0 0 3) (queued (queueOf .running desc0 [(0, packet 1)]))) (fun t =>
      (t.queue 0).tail = 3 && (t.queue 0).head = 0) = true ∧
    after (exec (.nopPacket 0) (starting 0x01)) (fun t => (t.queue 0).head = 1 && (t.queue 0).packets.isEmpty) = true ∧
    after (exec (.queueDisable 0 0) (selecting 0 (queueOf .running desc0 []))) (fun t =>
      (t.queue 0).st = .disabled && t.reg (Reg.strQStatus 0) = 0) = true := by
  decide +kernel

/-- FENCE_SIGNAL SET 5 on a fence at 4; a signal of 5 to a baton at 0 whose one waiter takes a unit. -/
theorem test_objects : after (exec (.fenceSignal 0 0) (selected (shared (liveF 4) (liveB 0)) 1 5 0 0)) (fun t =>
      (t.fence 1).value = 5) = true ∧
    after (exec (.batonSignal 0 0) (selected (shared (liveF 4) (liveB 0)) 1 5 0 0)) (fun t =>
      (t.baton 1).value = 4 && (t.baton 1).waiters.isEmpty) = true := by
  decide +kernel

/-- R193: RdS of a line in S is answered with DataG install S; Inv of an M line is acknowledged and the line gone. -/
theorem test_coherence : after (exec (.rds 0 ln 3) (homeWith [(ln, entryIn 1 0 6)])) (fun t =>
      t.net.map (fun m => (m.kind, m.dst, m.install)) = [(13, 3, 1)]) = true ∧
    after (exec (.inv 1 ln 3) (agentWith (lineIn .M 0 []))) (fun t =>
      (t.line 1 ln).isNone && t.net.map (fun m => (m.kind, m.src, m.dst)) = [(20, 1, 3)]) = true := by
  decide +kernel

/-- MAP_WRITE of an entry; a walk counts a miss. -/
theorem test_map : after (exec (.mapWrite 0 0) (mapRegs 7 entryIn1)) (fun t =>
      t.mapEntry 0 7 = entryIn1 && t.reg (Reg.cchMapWrites 0) = 1) = true ∧
    after (exec (.translationWalk 0 0 0 0x8000) carved0) (fun t => t.reg (Reg.cchXlatMiss 0) = 1) = true := by
  decide +kernel

/-- R371: at 95% of PEAK_W the clock falls by 400 MHz; R372: 115 °C is module-fatal with cause 8. -/
theorem test_power : after (exec (.powerCapTick 2200000 0) carved0) (fun t => t.power.mhz = 1700) = true ∧
    after (exec (.thermalTrip 3 1840) carved0) (fun t => t.boot.fatal = 8 && t.boot.start = 9) = true := by
  decide +kernel

/-- FREEZE copies the counters; a window register takes a write; DBG_BAD_WRITE counts one that may not be made. -/
theorem test_registers : after (exec (.freeze 0) carved0) (fun t => t.freeze.reg && t.freeze.id = 1 && t.freeze.copy.isSome) = true ∧
    after (exec (.registerWrite 0 0x100000 4 5 false) carved0) (fun t => t.reg 0x100000 = 5) = true ∧
    after (exec (.registerWrite 0 0x68 8 5 false) carved0) (fun t => t.reg 0x68 = carved0.reg 0x68 && t.reg Reg.dbgBadWrite = 1) = true := by
  decide +kernel

/-- A flit in order is taken; training that succeeds leaves the port in AUTH. -/
theorem test_links : after (exec (.flitReceive 0 (flitIn 0 true true)) (upWith id)) (fun t => (t.port 0).rxSeq = 0) = true ∧
    after (exec (.linkTraining 0 (.done 1)) (ported (portIn PortSt.training))) (fun t => (t.port 0).st = PortSt.auth) = true := by
  decide +kernel

/-- LAP_NOP completes the lap's command; SCALE puts its word into the tile store. -/
theorem test_lap : after (exec (.lapNop 0) nopState) (fun t => ((t.core 0).lap).any (fun l => l.oldest = 1)) = true ∧
    after (exec (.scale 0) (lapOf (BitVec.ofNat 256 (0x30 + 2 ^ 64 * 3 + 2 ^ 96 * 0x3F800000)))) (fun t =>
      leNat (Mem.bytes (t.core 0).tile 12 4) = 0x3F800000) = true := by
  decide +kernel

end Sys2Proof.Tests
end

section
/-! PROOFS. Number formats (chapter 02, obligation O60). The magnitudes of a format are the values of one strictly
rising grid `gridMag f : Nat → Rat`, whose index is the encoding without its sign; the indices go on above the largest
finite magnitude, as R43 step 3 rounds with an unbounded range. A conversion finds the index below the value
(`convertTo_fin`), moves it up or not (`roundsUp`), and answers the encoding of that index or the overflow (`answer`).
Every clause of the obligation is then a fact about indices of the grid. -/

namespace Sys2Proof.Grid
open Sys2Proof.Machine

/-! ### Exact values -/

/-- A magnitude with its sign. -/
def withSign (neg : Bool) (x : Rat) : Rat := if neg then -x else x

/-- The rational number of a finite value, 0 for the others. -/
def ratOf : Machine.Num → Rat
  | .fin s n d => (if s then -1 else 1) * (n : Rat) / (d : Rat)
  | _ => 0

theorem ratOf_fin (neg : Bool) (n d : Nat) : ratOf (.fin neg n d) = withSign neg ((n : Rat) / d) := by
  cases neg <;> simp [ratOf, withSign, neg_div]

theorem ratAbs_eq_abs (x : Rat) : x.abs = |x| := by
  unfold Rat.abs
  split
  next h => exact (abs_of_nonneg h).symm
  next h => exact (abs_of_neg (not_le.mp h)).symm

theorem abs_withSign (neg : Bool) {x : Rat} (hx : 0 ≤ x) : |withSign neg x| = x := by
  cases neg <;> simp [withSign, abs_of_nonneg hx]

theorem abs_withSign_sub_self (neg : Bool) (x y : Rat) : |withSign neg x - withSign neg y| = |x - y| := by
  cases neg
  · rfl
  · rw [abs_sub_comm x y]; simp [withSign, neg_add_eq_sub]

theorem abs_withSign_sub_not (neg : Bool) {x y : Rat} (hx : 0 ≤ x) (hy : 0 ≤ y) :
    |withSign (!neg) x - withSign neg y| = x + y := by
  have hsum : withSign (!neg) x - withSign neg y = withSign (!neg) (x + y) := by
    cases neg
    · simp only [withSign, Bool.not_false, if_true, Bool.false_eq_true, if_false]; ring
    · simp [withSign]
  rw [hsum, abs_withSign _ (add_nonneg hx hy)]

theorem withSign_not_mul (neg : Bool) (x y : Rat) : withSign (!neg) x * withSign neg y = -(x * y) := by
  cases neg <;> simp [withSign]

theorem scale2_den_pos (n : Nat) {d : Nat} (hd : 0 < d) (e : Int) : 0 < (scale2 n d e).2 := by
  unfold scale2
  split
  · exact hd
  · exact Nat.mul_pos hd (Nat.two_pow_pos _)

theorem scale2_eq_mul_zpow (n d : Nat) (e : Int) :
    ((scale2 n d e).1 : Rat) / ((scale2 n d e).2 : Rat) = (n : Rat) / d * 2 ^ e := by
  unfold scale2
  split
  next h =>
    obtain ⟨k, rfl⟩ := Int.eq_ofNat_of_zero_le h
    simp [mul_div_right_comm]
  next h =>
    obtain ⟨k, hk⟩ := Int.eq_ofNat_of_zero_le (show 0 ≤ -e by omega)
    obtain rfl : e = -(k : Int) := by omega
    simp only [neg_neg, Int.toNat_natCast, Nat.cast_mul, Nat.cast_pow, Nat.cast_ofNat, zpow_neg, zpow_natCast]
    ring

theorem numPow_eq_fin (neg : Bool) (m : Nat) (e : Int) :
    ∃ n d : Nat, 0 < d ∧ numPow neg m e = .fin neg n d ∧ (n : Rat) / d = m * 2 ^ e :=
  ⟨_, _, scale2_den_pos m Nat.one_pos e, rfl, by rw [scale2_eq_mul_zpow]; simp⟩

/-- `floorLog2` is the exponent of the binade of a positive fraction. -/
theorem floorLog2_bounds {n d : Nat} (hn : 0 < n) (hd : 0 < d) :
    (2 : Rat) ^ floorLog2 n d ≤ (n : Rat) / d ∧ (n : Rat) / d < 2 ^ (floorLog2 n d + 1) := by
  have hd' : (0 : Rat) < d := by exact_mod_cast hd
  have hn_le : (2 : Rat) ^ Nat.log2 n ≤ n := by exact_mod_cast Nat.log2_self_le hn.ne'
  have hn_lt : (n : Rat) < 2 ^ (Nat.log2 n + 1) := by exact_mod_cast Nat.lt_log2_self
  have hd_le : (2 : Rat) ^ Nat.log2 d ≤ d := by exact_mod_cast Nat.log2_self_le hd.ne'
  have hd_lt : (d : Rat) < 2 ^ (Nat.log2 d + 1) := by exact_mod_cast Nat.lt_log2_self
  set e : Int := (Nat.log2 n : Int) - Nat.log2 d with he
  have lower : (2 : Rat) ^ (e - 1) ≤ n / d := by
    rw [le_div_iff₀ hd']
    calc (2 : Rat) ^ (e - 1) * d ≤ 2 ^ (e - 1) * 2 ^ (Nat.log2 d + 1) := by gcongr
      _ = 2 ^ Nat.log2 n := by
        rw [← zpow_natCast, ← zpow_natCast, ← zpow_add₀ two_ne_zero]; congr 1; push_cast; omega
      _ ≤ n := hn_le
  have upper : (n : Rat) / d < 2 ^ (e + 1) := by
    rw [div_lt_iff₀ hd']
    calc (n : Rat) < 2 ^ (Nat.log2 n + 1) := hn_lt
      _ = 2 ^ (e + 1) * 2 ^ Nat.log2 d := by
        rw [← zpow_natCast, ← zpow_natCast, ← zpow_add₀ two_ne_zero]; congr 1; push_cast; omega
      _ ≤ 2 ^ (e + 1) * d := by gcongr
  have test : (scale2 1 1 e).1 * d ≤ n * (scale2 1 1 e).2 ↔ (2 : Rat) ^ e ≤ n / d := by
    have hp : (0 : Rat) < (scale2 1 1 e).2 := by exact_mod_cast scale2_den_pos 1 Nat.one_pos e
    have hv := scale2_eq_mul_zpow 1 1 e
    rw [show (2 : Rat) ^ e = (scale2 1 1 e).1 / (scale2 1 1 e).2 by rw [hv]; simp, div_le_div_iff₀ hp hd']
    exact_mod_cast Iff.rfl
  unfold floorLog2
  simp only [← he]
  split
  next h => exact ⟨test.mp h, upper⟩
  next h => exact ⟨lower, by rw [sub_add_cancel]; exact not_le.mp (mt test.mpr h)⟩

/-! ### Rounding to an index -/

/-- Whether a rounding moves up, from a lower neighbour of index `k` with the fraction `t` of the gap above it (R42, R44). -/
def roundsUp (r : Rnd) (k : Nat) (t : Rat) : Bool :=
  match r with
  | .rtz => false
  | .away => decide (0 < t)
  | .rne => decide (1 / 2 < t ∨ (t = 1 / 2 ∧ k % 2 = 1))
  | .sr u => decide ((u : Rat) + 1 ≤ t * 65536)

@[simp] theorem roundsUp_zero (r : Rnd) (k : Nat) : roundsUp r k 0 = false := by
  cases r with
  | rtz => rfl
  | away => simp [roundsUp]
  | rne => norm_num [roundsUp]
  | sr u =>
    have : (0 : Rat) < u + 1 := by positivity
    simp [roundsUp, this]

theorem roundsUp_congr_parity (r : Rnd) {k c : Nat} (h : k % 2 = c % 2) (t : Rat) : roundsUp r k t = roundsUp r c t := by
  cases r <;> simp [roundsUp, h]

theorem fract_eq_mod_div (n : Nat) {d : Nat} (hd : 0 < d) : (n : Rat) / d - (n / d : Nat) = (n % d : Nat) / d := by
  have hd' : (d : Rat) ≠ 0 := by exact_mod_cast hd.ne'
  have h : (d : Rat) * (n / d : Nat) + (n % d : Nat) = n := by exact_mod_cast Nat.div_add_mod n d
  field_simp
  linarith

theorem roundNat_eq (r : Rnd) (n : Nat) {d : Nat} (hd : 0 < d) :
    roundNat r n d = if roundsUp r (n / d) ((n : Rat) / d - (n / d : Nat)) then n / d + 1 else n / d := by
  have hd' : (0 : Rat) < d := by exact_mod_cast hd
  rw [fract_eq_mod_div n hd]
  cases r with
  | rtz => simp [roundNat, roundsUp]
  | away =>
    have h : (0 : Rat) < (n % d : Nat) / d ↔ ¬ n % d = 0 := by
      rw [div_pos_iff_of_pos_right hd', Nat.cast_pos, Nat.pos_iff_ne_zero]
    simp only [roundNat, roundsUp, h, decide_eq_true_eq]
    split <;> simp_all
  | rne =>
    have above : (1 : Rat) / 2 < (n % d : Nat) / d ↔ d < 2 * (n % d) := by
      rw [div_lt_div_iff₀ two_pos hd', one_mul, mul_comm]; exact_mod_cast Iff.rfl
    have tie : ((n % d : Nat) : Rat) / d = 1 / 2 ↔ 2 * (n % d) = d := by
      rw [div_eq_div_iff hd'.ne' two_ne_zero, one_mul, mul_comm]; exact_mod_cast Iff.rfl
    simp only [roundNat, roundsUp, above, tie, decide_eq_true_eq]
    split_ifs <;> omega
  | sr u =>
    have h : (u : Rat) + 1 ≤ (n % d : Nat) / d * 65536 ↔ u < n % d * 65536 / d := by
      rw [div_mul_eq_mul_div, le_div_iff₀ hd', ← Nat.succ_le_iff, Nat.le_div_iff_mul_le hd]
      exact_mod_cast Iff.rfl
    simp only [roundNat, roundsUp, h, decide_eq_true_eq]

/-! ### The grid of a format -/

/-- The binade of an index above the lowest normal one; 0 for the subnormals. -/
def binade (f : Fmt) (c : Nat) : Nat := c / 2 ^ fmtMan f - 1

/-- The exponent of the spacing in a binade. -/
def unitExp (f : Fmt) (E : Nat) : Int := E + 1 - fmtBias f - fmtMan f

/-- The magnitude of index `c`: the significand left when the binades below are taken off, times the binade's unit. -/
def gridMag (f : Fmt) (c : Nat) : Rat :=
  if fmtIsInt f then c else ((c - binade f c * 2 ^ fmtMan f : Nat) : Rat) * 2 ^ unitExp f (binade f c)

/-- The distance from index `c` to the next. -/
def gap (f : Fmt) (c : Nat) : Rat := if fmtIsInt f then 1 else 2 ^ unitExp f (binade f c)

theorem gap_pos (f : Fmt) (c : Nat) : 0 < gap f c := by
  unfold gap
  split <;> positivity

theorem binade_mul_add {f : Fmt} {E k : Nat} (hk : k < 2 * 2 ^ fmtMan f) (hE : E = 0 ∨ 2 ^ fmtMan f ≤ k) :
    binade f (E * 2 ^ fmtMan f + k) = E := by
  unfold binade
  have hM : 0 < 2 ^ fmtMan f := Nat.two_pow_pos _
  generalize 2 ^ fmtMan f = M at *
  rw [Nat.add_comm, Nat.add_mul_div_right _ _ hM]
  by_cases h : M ≤ k
  · rw [Nat.div_eq_of_lt_le (k := 1) (by omega) (by omega)]; omega
  · rw [Nat.div_eq_of_lt (by omega)]; omega

/-- Every index is a binade and a significand that is below two binades' worth, and normal above the lowest binade. -/
theorem index_split (f : Fmt) (c : Nat) : ∃ k, c = binade f c * 2 ^ fmtMan f + k ∧ k < 2 * 2 ^ fmtMan f ∧
    (binade f c = 0 ∨ 2 ^ fmtMan f ≤ k) := by
  unfold binade
  have hM : 0 < 2 ^ fmtMan f := Nat.two_pow_pos _
  generalize 2 ^ fmtMan f = M at *
  have hr := Nat.mod_lt c hM
  have hc := Nat.div_add_mod c M
  cases hq : c / M with
  | zero => exact ⟨c, by omega, by rw [hq] at hc; omega, .inl rfl⟩
  | succ e =>
    rw [hq] at hc
    exact ⟨M + c % M, by rw [Nat.add_sub_cancel, Nat.mul_comm e M]; rw [Nat.mul_add, Nat.mul_one] at hc; omega,
      by omega, .inr (by omega)⟩

/-- The magnitude of a significand `k` in binade `E`, the first index of the next binade included. -/
theorem gridMag_mul_add {f : Fmt} (hf : fmtIsInt f = false) {E k : Nat} (hk : k ≤ 2 * 2 ^ fmtMan f)
    (hE : E = 0 ∨ 2 ^ fmtMan f ≤ k) : gridMag f (E * 2 ^ fmtMan f + k) = k * 2 ^ unitExp f E := by
  rcases hk.lt_or_eq with hlt | rfl
  · simp [gridMag, hf, binade_mul_add hlt hE]
  · have hM : 0 < 2 ^ fmtMan f := Nat.two_pow_pos _
    have hnext : E * 2 ^ fmtMan f + 2 * 2 ^ fmtMan f = (E + 1) * 2 ^ fmtMan f + 2 ^ fmtMan f := by ring
    have hunit : unitExp f (E + 1) = unitExp f E + 1 := by unfold unitExp; push_cast; ring
    rw [hnext, gridMag, hf, binade_mul_add (by omega) (.inr le_rfl), Nat.add_sub_cancel_left, hunit,
      zpow_add_one₀ two_ne_zero]
    simp only [Bool.false_eq_true, if_false]
    push_cast
    ring

theorem gridMag_succ (f : Fmt) (c : Nat) : gridMag f (c + 1) = gridMag f c + gap f c := by
  cases hf : fmtIsInt f
  case true => simp [gridMag, gap, hf]
  case false =>
    obtain ⟨k, hc, hk, hE⟩ := index_split f c
    have hgap : gap f c = 2 ^ unitExp f (binade f c) := by simp [gap, hf]
    generalize binade f c = E at *
    rw [hgap, hc, Nat.add_assoc, gridMag_mul_add hf (by omega) (by omega), gridMag_mul_add hf hk.le hE]
    push_cast
    ring

theorem gridMag_strictMono (f : Fmt) : StrictMono (gridMag f) :=
  strictMono_nat_of_lt_succ fun c => by rw [gridMag_succ]; exact lt_add_of_pos_right _ (gap_pos f c)

@[simp] theorem gridMag_zero (f : Fmt) : gridMag f 0 = 0 := by simp [gridMag]

theorem gridMag_nonneg (f : Fmt) (c : Nat) : 0 ≤ gridMag f c :=
  (gridMag_zero f).symm.le.trans ((gridMag_strictMono f).monotone c.zero_le)

/-- `c` is the index of the largest magnitude of the grid not above `x`. -/
def Below (f : Fmt) (c : Nat) (x : Rat) : Prop := gridMag f c ≤ x ∧ x < gridMag f (c + 1)

theorem Below.le_iff {f : Fmt} {c : Nat} {x : Rat} (h : Below f c x) (i : Nat) : gridMag f i ≤ x ↔ i ≤ c :=
  ⟨fun hi => Nat.lt_succ_iff.mp ((gridMag_strictMono f).lt_iff_lt.mp (hi.trans_lt h.2)),
    fun hi => ((gridMag_strictMono f).monotone hi).trans h.1⟩

theorem Below.lt_iff {f : Fmt} {c : Nat} {x : Rat} (h : Below f c x) (i : Nat) : x < gridMag f i ↔ c < i := by
  rw [← not_le, h.le_iff, not_le]

theorem Below.eq_of_gridMag {f : Fmt} {c i : Nat} (h : Below f c (gridMag f i)) : c = i :=
  le_antisymm ((gridMag_strictMono f).le_iff_le.mp h.1) ((h.le_iff i).mp le_rfl)

/-- Where `x` stands between index `c` and the next, from 0 to 1. -/
def fraction (f : Fmt) (c : Nat) (x : Rat) : Rat := (x - gridMag f c) / (gridMag f (c + 1) - gridMag f c)

/-- The index a rounding of `x` gives, from the index `c` below `x`. -/
def roundIndex (f : Fmt) (r : Rnd) (c : Nat) (x : Rat) : Nat := if roundsUp r c (fraction f c x) then c + 1 else c

theorem le_roundIndex (f : Fmt) (r : Rnd) (c : Nat) (x : Rat) : c ≤ roundIndex f r c x := by
  unfold roundIndex; split <;> omega

theorem roundIndex_le (f : Fmt) (r : Rnd) (c : Nat) (x : Rat) : roundIndex f r c x ≤ c + 1 := by
  unfold roundIndex; split <;> omega

@[simp] theorem roundIndex_rtz (f : Fmt) (c : Nat) (x : Rat) : roundIndex f .rtz c x = c := rfl

@[simp] theorem roundIndex_self (f : Fmt) (r : Rnd) (c : Nat) : roundIndex f r c (gridMag f c) = c := by
  simp [roundIndex, fraction]

theorem roundIndex_sr (f : Fmt) (u c : Nat) (x : Rat) :
    roundIndex f (.sr u) c x = if (u : Rat) + 1 ≤ fraction f c x * 65536 then c + 1 else c := by
  simp [roundIndex, roundsUp]

theorem fraction_eq (f : Fmt) (c : Nat) (x : Rat) : fraction f c x = (x - gridMag f c) / gap f c := by
  rw [fraction, gridMag_succ, add_sub_cancel_left]

/-- Rounding to nearest chooses the nearer neighbour, and the even one on a tie. -/
theorem roundIndex_rne (f : Fmt) (c : Nat) (x : Rat) :
    roundIndex f .rne c x = c ∧ (x - gridMag f c < gridMag f (c + 1) - x ∨
        x - gridMag f c = gridMag f (c + 1) - x ∧ c % 2 = 0) ∨
      roundIndex f .rne c x = c + 1 ∧ (gridMag f (c + 1) - x < x - gridMag f c ∨
        x - gridMag f c = gridMag f (c + 1) - x ∧ c % 2 = 1) := by
  have hg := gap_pos f c
  have above : 1 / 2 < fraction f c x ↔ gridMag f (c + 1) - x < x - gridMag f c := by
    rw [fraction_eq, gridMag_succ, lt_div_iff₀ hg]
    constructor <;> intro h <;> linarith
  have tie : fraction f c x = 1 / 2 ↔ x - gridMag f c = gridMag f (c + 1) - x := by
    rw [fraction_eq, gridMag_succ, div_eq_iff hg.ne']
    constructor <;> intro h <;> linarith
  simp only [roundIndex, roundsUp, above, tie, decide_eq_true_eq]
  by_cases h : gridMag f (c + 1) - x < x - gridMag f c ∨ x - gridMag f c = gridMag f (c + 1) - x ∧ c % 2 = 1
  · exact .inr ⟨if_pos h, h⟩
  · refine .inl ⟨if_neg h, ?_⟩
    rw [not_or, not_lt, not_and] at h
    rcases h.1.lt_or_eq with hlt | heq
    · exact .inl hlt
    · exact .inr ⟨heq, by have := h.2 heq; omega⟩

/-! ### Encodings -/

/-- The index of the largest finite magnitude of a format (R30). -/
def topIndex (f : Fmt) : Nat := if fmtIsInt f then (fmtMax f).1 else fmtMaxCode f

/-- The last index with an encoding on the side of a sign: an integer format has one more below zero. -/
def lastIndex (f : Fmt) (neg : Bool) : Nat := if fmtIsInt f && neg then topIndex f + 1 else topIndex f

/-- The encoding of the magnitude of index `c` with a sign. -/
def encode (f : Fmt) (neg : Bool) (c : Nat) : Nat :=
  if fmtIsInt f then wrapInt (fmtWidth f) (if neg then -(c : Int) else c) else signBit f neg + c

/-- The encodings of finite values. -/
def FiniteCode (f : Fmt) (w : Nat) : Prop := w < 2 ^ fmtWidth f ∧ (decodeElem f w).nonfinite = false

theorem topIndex_le_lastIndex (f : Fmt) (neg : Bool) : topIndex f ≤ lastIndex f neg := by
  unfold lastIndex; split <;> omega

theorem lastIndex_le_succ (f : Fmt) (neg : Bool) : lastIndex f neg ≤ topIndex f + 1 := by
  unfold lastIndex; split <;> omega

theorem signBit_eq_mul (f : Fmt) (neg : Bool) : signBit f neg = bit neg * 2 ^ fmtExp f * 2 ^ fmtMan f := by
  cases neg <;> simp [signBit, bit, pow_add]

section fields
variable {f : Fmt} {c : Nat} (neg : Bool)

theorem mantissa_signBit_add : fld (signBit f neg + c) 0 (fmtMan f) = c % 2 ^ fmtMan f := by
  rw [fld, pow_zero, Nat.div_one, signBit_eq_mul, Nat.mul_add_mod_self_right]

theorem exponent_signBit_add (hc : c < 2 ^ (fmtExp f + fmtMan f)) :
    fld (signBit f neg + c) (fmtMan f) (fmtExp f) = c / 2 ^ fmtMan f := by
  rw [fld, signBit_eq_mul, Nat.add_comm, Nat.add_mul_div_right _ _ (Nat.two_pow_pos _), Nat.add_mul_mod_self_right,
    Nat.mod_eq_of_lt ((Nat.div_lt_iff_lt_mul (Nat.two_pow_pos _)).mpr (by rwa [← pow_add]))]

theorem sign_signBit_add (hc : c < 2 ^ (fmtExp f + fmtMan f)) : bitOf (signBit f neg + c) (fmtExp f + fmtMan f) = neg := by
  rw [bitOf, signBit_eq_mul, mul_assoc, ← pow_add, Nat.add_comm, Nat.add_mul_div_right _ _ (Nat.two_pow_pos _),
    Nat.div_eq_of_lt hc]
  cases neg <;> rfl

end fields

/-- The two cases of a floating-point decoding, subnormal and normal, are one significand in a binade. -/
theorem decode_cases_eq_grid (f : Fmt) (neg : Bool) (c : Nat) :
    (if c / 2 ^ fmtMan f = 0 then numPow neg (c % 2 ^ fmtMan f) (1 - (fmtBias f : Int) - fmtMan f)
      else numPow neg (2 ^ fmtMan f + c % 2 ^ fmtMan f) (((c / 2 ^ fmtMan f : Nat) : Int) - fmtBias f - fmtMan f)) =
      numPow neg (c - binade f c * 2 ^ fmtMan f) (unitExp f (binade f c)) := by
  unfold binade unitExp
  generalize 2 ^ fmtMan f = M
  have hc := Nat.mod_add_div c M
  generalize c / M = e at *
  cases e with
  | zero =>
    rw [if_pos rfl]
    congr 1
    simpa using hc
  | succ e =>
    rw [if_neg e.succ_ne_zero]
    congr 1
    · rw [Nat.mul_comm, Nat.add_mul] at hc
      simp only [Nat.add_sub_cancel]
      omega

theorem decodeElem_of_float {f : Fmt} (hf : fmtIsInt f = false) (h4 : f ≠ .e4m3) (w : Nat) : decodeElem f w =
    let m := fld w 0 (fmtMan f)
    let e := fld w (fmtMan f) (fmtExp f)
    let s := bitOf w (fmtMan f + fmtExp f)
    if fmtHasInf f ∧ e = 2 ^ fmtExp f - 1 then if m = 0 then .inf s else .nan
    else if e = 0 then numPow s m (1 - (fmtBias f : Int) - fmtMan f)
    else numPow s (2 ^ fmtMan f + m) ((e : Int) - fmtBias f - fmtMan f) := by
  cases f
  case int8 | int4 | t2 => cases hf
  case e4m3 => exact absurd rfl h4
  all_goals rfl

theorem decodeElem_e4m3 (w : Nat) : decodeElem .e4m3 w =
    let m := fld w 0 (fmtMan .e4m3)
    let e := fld w (fmtMan .e4m3) (fmtExp .e4m3)
    let s := bitOf w (fmtMan .e4m3 + fmtExp .e4m3)
    if e = 15 ∧ m = 7 then .nan
    else if e = 0 then numPow s m (1 - (fmtBias .e4m3 : Int) - fmtMan .e4m3)
    else numPow s (2 ^ fmtMan .e4m3 + m) ((e : Int) - fmtBias .e4m3 - fmtMan .e4m3) := rfl

/-- The exponent field that is all ones belongs to the indices above the largest finite one. -/
theorem exponent_ones_iff {f : Fmt} (hf : fmtIsInt f = false) (h4 : f ≠ .e4m3) {c : Nat}
    (hc : c < 2 ^ (fmtExp f + fmtMan f)) :
    (fmtHasInf f ∧ c / 2 ^ fmtMan f = 2 ^ fmtExp f - 1) ↔ ¬ c ≤ fmtMaxCode f := by
  cases f
  case int8 | int4 | t2 => cases hf
  case e4m3 => exact absurd rfl h4
  all_goals
    simp only [fmtHasInf, fmtMaxCode, fmtExp, fmtMan, reduceCtorEq, if_true, if_false] at hc ⊢
    norm_num at hc ⊢
    omega

theorem e4m3_nan_iff {c : Nat} (hc : c < 2 ^ (fmtExp .e4m3 + fmtMan .e4m3)) :
    (c / 2 ^ fmtMan .e4m3 = 15 ∧ c % 2 ^ fmtMan .e4m3 = 7) ↔ ¬ c ≤ fmtMaxCode .e4m3 := by
  change c < 128 at hc
  change (c / 8 = 15 ∧ c % 8 = 7) ↔ ¬ c ≤ 126
  omega

/-- What every encoding of a floating-point format means, by its index: a grid value up to the largest finite one,
then infinity and NaN where the format has them (R31). -/
theorem decodeElem_signBit_add {f : Fmt} (hf : fmtIsInt f = false) (neg : Bool) {c : Nat}
    (hc : c < 2 ^ (fmtExp f + fmtMan f)) : decodeElem f (signBit f neg + c) =
      if c ≤ fmtMaxCode f then numPow neg (c - binade f c * 2 ^ fmtMan f) (unitExp f (binade f c))
      else if fmtHasInf f ∧ c % 2 ^ fmtMan f = 0 then .inf neg else .nan := by
  have hm := mantissa_signBit_add (f := f) (c := c) neg
  have he := exponent_signBit_add neg hc
  have hs := sign_signBit_add neg hc
  rw [Nat.add_comm (fmtExp f)] at hs
  rw [← decode_cases_eq_grid]
  by_cases h4 : f = .e4m3
  · subst h4
    have hnan := e4m3_nan_iff hc
    rw [decodeElem_e4m3]
    simp only [hm, he, hs]
    by_cases h : c ≤ fmtMaxCode .e4m3
    · rw [if_neg (fun hn => hnan.mp hn h), if_pos h]
    · rw [if_pos (hnan.mpr h), if_neg h]; rfl
  · have hones := exponent_ones_iff hf h4 hc
    rw [decodeElem_of_float hf h4]
    simp only [hm, he, hs]
    by_cases h : c ≤ fmtMaxCode f
    · rw [if_neg (fun hn => hones.mp hn h), if_pos h]
    · rw [if_pos (hones.mpr h), if_neg h]
      simp [(hones.mpr h).1]

theorem wrapInt_of_nonneg {w : Nat} {i : Int} (h0 : 0 ≤ i) (h : i < 2 ^ w) : wrapInt w i = i.toNat := by
  rw [wrapInt, Int.emod_eq_of_lt h0 (by exact_mod_cast h)]

theorem wrapInt_of_neg {w : Nat} {i : Int} (h0 : i < 0) (h : -2 ^ w ≤ i) : wrapInt w i = (i + 2 ^ w).toNat := by
  have hpow : ((2 ^ w : Nat) : Int) = 2 ^ w := by norm_cast
  rw [wrapInt, hpow, ← Int.add_emod_right, Int.emod_eq_of_lt (by omega) (by omega)]

theorem sx_wrapInt {w : Nat} (hw : 0 < w) {i : Int} (hlo : -2 ^ (w - 1) ≤ i) (hhi : i < 2 ^ (w - 1)) :
    wrapInt w i < 2 ^ w ∧ sx w (wrapInt w i) = i := by
  have hpow : (2 : Nat) ^ w = 2 * 2 ^ (w - 1) := by rw [← pow_succ', Nat.sub_add_cancel hw]
  have hpow' : (2 : Int) ^ w = 2 * 2 ^ (w - 1) := by exact_mod_cast hpow
  have hcast : ((2 ^ (w - 1) : Nat) : Int) = 2 ^ (w - 1) := by norm_cast
  rcases lt_or_ge i 0 with h | h
  · rw [wrapInt_of_neg h (by omega), hpow', sx, hpow]
    rw [Nat.mod_eq_of_lt (by omega), if_neg (by omega)]
    omega
  · rw [wrapInt_of_nonneg h (by omega), sx, hpow]
    rw [Nat.mod_eq_of_lt (by omega), if_pos (by omega)]
    omega

theorem wrapInt_sx {w v : Nat} (hw : 0 < w) (hv : v < 2 ^ w) :
    wrapInt w (sx w v) = v ∧ -2 ^ (w - 1) ≤ sx w v ∧ sx w v < 2 ^ (w - 1) := by
  have hpow : (2 : Nat) ^ w = 2 * 2 ^ (w - 1) := by rw [← pow_succ', Nat.sub_add_cancel hw]
  have hpow' : (2 : Int) ^ w = 2 * 2 ^ (w - 1) := by exact_mod_cast hpow
  have hcast : ((2 ^ (w - 1) : Nat) : Int) = 2 ^ (w - 1) := by norm_cast
  rw [sx, Nat.mod_eq_of_lt hv]
  split
  next h => exact ⟨by rw [wrapInt_of_nonneg (by omega) (by omega)]; omega, by omega, by omega⟩
  next h => exact ⟨by rw [wrapInt_of_neg (by omega) (by omega)]; omega, by omega, by omega⟩

theorem decodeElem_of_int {f : Fmt} (hi : fmtIsInt f = true) (ht : f ≠ .t2) (w : Nat) :
    decodeElem f w = .fin (decide (sx (fmtWidth f) w < 0)) (sx (fmtWidth f) w).natAbs 1 := by
  cases f
  case int8 | int4 => rfl
  case t2 => exact absurd rfl ht
  all_goals cases hi

theorem lastIndex_of_int {f : Fmt} (hi : fmtIsInt f = true) (ht : f ≠ .t2) (neg : Bool) :
    lastIndex f neg = if neg then 2 ^ (fmtWidth f - 1) else 2 ^ (fmtWidth f - 1) - 1 := by
  cases f
  case int8 | int4 => cases neg <;> rfl
  case t2 => exact absurd rfl ht
  all_goals cases hi

theorem fmtWidth_pos (f : Fmt) : 0 < fmtWidth f := by cases f <;> decide

/-- The encodings of an integer format on its indices (R33). -/
theorem decodeElem_encode_int {f : Fmt} (hi : fmtIsInt f = true) (ht : f ≠ .t2) {neg : Bool} {c : Nat}
    (hc : c ≤ lastIndex f neg) : encode f neg c < 2 ^ fmtWidth f ∧
      decodeElem f (encode f neg c) = .fin (neg && c != 0) c 1 := by
  have hcast : ((2 ^ (fmtWidth f - 1) : Nat) : Int) = 2 ^ (fmtWidth f - 1) := by norm_cast
  have hpos := Nat.two_pow_pos (fmtWidth f - 1)
  rw [lastIndex_of_int hi ht] at hc
  simp only [encode, hi, if_true]
  cases neg
  · simp only [Bool.false_eq_true, if_false] at hc ⊢
    obtain ⟨hlt, hsx⟩ := sx_wrapInt (fmtWidth_pos f) (i := c) (by omega) (by omega)
    exact ⟨hlt, by simp [decodeElem_of_int hi ht, hsx]⟩
  · simp only [if_true] at hc ⊢
    obtain ⟨hlt, hsx⟩ := sx_wrapInt (fmtWidth_pos f) (i := -c) (by omega) (by omega)
    refine ⟨hlt, ?_⟩
    rw [decodeElem_of_int hi ht, hsx]
    cases c with
    | zero => rfl
    | succ c =>
      have hneg : -((c + 1 : Nat) : Int) < 0 := by omega
      rw [decide_eq_true hneg, Int.natAbs_neg]; rfl

/-- Every encoding of an integer format is the encoding of an index. -/
theorem eq_encode_int {f : Fmt} (hi : fmtIsInt f = true) (ht : f ≠ .t2) {w : Nat} (hw : w < 2 ^ fmtWidth f) :
    ∃ neg c, c ≤ lastIndex f neg ∧ w = encode f neg c := by
  have hcast : ((2 ^ (fmtWidth f - 1) : Nat) : Int) = 2 ^ (fmtWidth f - 1) := by norm_cast
  obtain ⟨hwrap, hlo, hhi⟩ := wrapInt_sx (fmtWidth_pos f) hw
  refine ⟨decide (sx (fmtWidth f) w < 0), (sx (fmtWidth f) w).natAbs, ?_, ?_⟩
  · rw [lastIndex_of_int hi ht]
    split
    all_goals
      next h => rw [decide_eq_true_eq] at h; omega
  · conv_lhs => rw [← hwrap]
    simp only [encode, hi, if_true, decide_eq_true_eq]
    congr 1
    split <;> omega

theorem fmtWidth_of_float {f : Fmt} (hf : fmtIsInt f = false) : fmtWidth f = fmtExp f + fmtMan f + 1 := by
  cases f
  case int8 | int4 | t2 => cases hf
  all_goals rfl

theorem fmtMaxCode_lt {f : Fmt} (hf : fmtIsInt f = false) : fmtMaxCode f < 2 ^ (fmtExp f + fmtMan f) := by
  cases f
  case int8 | int4 | t2 => cases hf
  all_goals decide

theorem lastIndex_of_float {f : Fmt} (hf : fmtIsInt f = false) (neg : Bool) : lastIndex f neg = fmtMaxCode f := by
  simp [lastIndex, topIndex, hf]

theorem encode_of_float {f : Fmt} (hf : fmtIsInt f = false) (neg : Bool) (c : Nat) :
    encode f neg c = signBit f neg + c := by simp [encode, hf]

theorem signBit_add_lt {f : Fmt} (hf : fmtIsInt f = false) (neg : Bool) {c : Nat} (hc : c < 2 ^ (fmtExp f + fmtMan f)) :
    signBit f neg + c < 2 ^ fmtWidth f := by
  rw [fmtWidth_of_float hf, pow_succ, signBit]
  split <;> omega

/-- The encoding of an index decodes to the index's magnitude with its sign; the one zero of an integer format has none. -/
theorem decodeElem_encode {f : Fmt} (ht : f ≠ .t2) {neg : Bool} {c : Nat} (hc : c ≤ lastIndex f neg) :
    encode f neg c < 2 ^ fmtWidth f ∧ ∃ s n d, 0 < d ∧ decodeElem f (encode f neg c) = .fin s n d ∧
      (n : Rat) / d = gridMag f c ∧ (s = neg ∨ fmtIsInt f = true ∧ c = 0) := by
  cases hi : fmtIsInt f
  case true =>
    obtain ⟨hlt, hdec⟩ := decodeElem_encode_int hi ht hc
    refine ⟨hlt, _, _, _, one_pos, hdec, by simp [gridMag, hi], ?_⟩
    by_cases h : c = 0
    · exact .inr ⟨rfl, h⟩
    · exact .inl (by simp [h])
  case false =>
    rw [lastIndex_of_float hi] at hc
    have hlt := hc.trans_lt (fmtMaxCode_lt hi)
    obtain ⟨n, d, hd, hpow, hval⟩ := numPow_eq_fin neg (c - binade f c * 2 ^ fmtMan f) (unitExp f (binade f c))
    rw [encode_of_float hi]
    refine ⟨signBit_add_lt hi neg hlt, neg, n, d, hd, ?_, ?_, .inl rfl⟩
    · rw [decodeElem_signBit_add hi neg hlt, if_pos hc, hpow]
    · rw [hval, gridMag, hi]; rfl

theorem finiteCode_encode {f : Fmt} (ht : f ≠ .t2) {neg : Bool} {c : Nat} (hc : c ≤ lastIndex f neg) :
    FiniteCode f (encode f neg c) := by
  obtain ⟨hlt, s, n, d, -, hdec, -⟩ := decodeElem_encode ht hc
  exact ⟨hlt, by rw [hdec]; rfl⟩

theorem ratOf_encode {f : Fmt} (ht : f ≠ .t2) {neg : Bool} {c : Nat} (hc : c ≤ lastIndex f neg) :
    ratOf (decodeElem f (encode f neg c)) = withSign neg (gridMag f c) := by
  obtain ⟨-, s, n, d, -, hdec, hval, hs⟩ := decodeElem_encode ht hc
  rw [hdec, ratOf_fin, hval]
  rcases hs with rfl | ⟨-, rfl⟩
  · rfl
  · cases s <;> cases neg <;> simp [withSign]

/-- Every encoding of a finite value is the encoding of an index. -/
theorem FiniteCode.eq_encode {f : Fmt} (ht : f ≠ .t2) {w : Nat} (h : FiniteCode f w) :
    ∃ neg c, c ≤ lastIndex f neg ∧ w = encode f neg c := by
  obtain ⟨hlt, hfin⟩ := h
  cases hi : fmtIsInt f
  case true => exact eq_encode_int hi ht hlt
  case false =>
    have hsplit : ∃ neg c, c < 2 ^ (fmtExp f + fmtMan f) ∧ w = signBit f neg + c := by
      rw [fmtWidth_of_float hi, pow_succ] at hlt
      by_cases hw : w < 2 ^ (fmtExp f + fmtMan f)
      · exact ⟨false, w, hw, by simp [signBit]⟩
      · exact ⟨true, w - 2 ^ (fmtExp f + fmtMan f), by omega, by simp only [signBit, if_true]; omega⟩
    obtain ⟨neg, c, hc, rfl⟩ := hsplit
    refine ⟨neg, c, ?_, (encode_of_float hi neg c).symm⟩
    rw [lastIndex_of_float hi]
    by_contra hbig
    rw [decodeElem_signBit_add hi neg hc, if_neg hbig] at hfin
    split at hfin <;> cases hfin

theorem encode_mod_two {f : Fmt} (ht : f ≠ .t2) (neg : Bool) (c : Nat) : encode f neg c % 2 = c % 2 := by
  cases f
  case t2 => exact absurd rfl ht
  case int8 | int4 => simp only [encode, fmtIsInt, fmtWidth, wrapInt, if_true]; split <;> omega
  all_goals simp only [encode, fmtIsInt, signBit, fmtExp, fmtMan, Bool.false_eq_true, if_false]; split <;> omega

/-- The code above the largest finite one is infinity, where the format has it. -/
theorem decodeElem_infCode {f : Fmt} (h : fmtHasInf f = true) (neg : Bool) :
    decodeElem f (signBit f neg + infCode f) = .inf neg := by
  have hcode : fmtIsInt f = false ∧ infCode f < 2 ^ (fmtExp f + fmtMan f) ∧ ¬ infCode f ≤ fmtMaxCode f ∧
      infCode f % 2 ^ fmtMan f = 0 := by
    cases f
    case fp32 | bf16 | fp16 | e5m2 => decide
    all_goals cases h
  obtain ⟨hf, hlt, hbig, hzero⟩ := hcode
  rw [decodeElem_signBit_add hf neg hlt, if_neg hbig, if_pos ⟨h, hzero⟩]

theorem gridMag_topIndex {f : Fmt} (ht : f ≠ .t2) : gridMag f (topIndex f) = ((fmtMax f).1 : Rat) / (fmtMax f).2 := by
  cases f
  case t2 => exact absurd rfl ht
  all_goals
    simp only [gridMag, topIndex, fmtIsInt, fmtMax, fmtMaxCode, binade, unitExp, fmtMan, fmtExp, fmtBias, fmtHasInf,
      reduceCtorEq, Bool.false_eq_true, if_true, if_false]
    norm_num

theorem topIndex_odd {f : Fmt} (h : fmtHasInf f = true) : topIndex f % 2 = 1 := by
  cases f
  case fp32 | bf16 | fp16 | e5m2 => rfl
  all_goals cases h

/-! ### Conversions -/

/-- What a conversion answers for a rounded index: its encoding, or the overflow of R43 steps 4 and 5. -/
def answer (f : Fmt) (r : Rnd) (neg : Bool) (j : Nat) : Nat × Ev :=
  if j ≤ topIndex f then (encode f neg j, if j = 0 then .zero else .none)
  else if overflowsToInf f r then (signBit f neg + infCode f, .nonfinite)
  else (encode f neg (lastIndex f neg), .sat)

theorem overflowsToInf_int {f : Fmt} (hi : fmtIsInt f = true) (r : Rnd) : overflowsToInf f r = false := by
  cases f
  case int8 | int4 | t2 => rfl
  all_goals cases hi

theorem encode_lastIndex_int {f : Fmt} (hi : fmtIsInt f = true) (ht : f ≠ .t2) (neg : Bool) :
    encode f neg (lastIndex f neg) = if neg then 2 ^ (fmtWidth f - 1) else 2 ^ (fmtWidth f - 1) - 1 := by
  cases f
  case int8 | int4 => cases neg <;> decide
  case t2 => exact absurd rfl ht
  all_goals cases hi

/-- A conversion into an integer format rounds the whole part of the magnitude, its index. -/
theorem convertTo_fin_int {f : Fmt} (hi : fmtIsInt f = true) (ht : f ≠ .t2) (n : Nat) {d : Nat} (hd : 0 < d) :
    Below f (n / d) ((n : Rat) / d) ∧
      ∀ r neg, convertTo f r (.fin neg n d) = answer f r neg (roundIndex f r (n / d) ((n : Rat) / d)) := by
  have hd' : (0 : Rat) < d := by exact_mod_cast hd
  have hmag : ∀ c : Nat, gridMag f c = c := fun c => by simp [gridMag, hi]
  have hfloor := Nat.lt_floor_add_one ((n : Rat) / d)
  rw [Nat.floor_div_eq_div] at hfloor
  refine ⟨⟨by rw [hmag]; exact Nat.cast_div_le, by rw [hmag]; exact_mod_cast hfloor⟩, fun r neg => ?_⟩
  have hround : roundNat r n d = roundIndex f r (n / d) ((n : Rat) / d) := by
    rw [roundNat_eq r n hd, roundIndex, fraction_eq, hmag, gap, if_pos hi, div_one]
  simp only [convertTo, convertInt, hround, answer, overflowsToInf_int hi, encode_lastIndex_int hi ht, hi, if_true,
    Bool.false_eq_true, if_false]
  simp only [topIndex, encode, hi, if_true]

/-- `encodeMag` gives the index of a significand in a binade, the first index of the next binade included. -/
theorem encodeMag_eq_index {f : Fmt} {E k : Nat} (hk : k ≤ 2 * 2 ^ fmtMan f) (hE : E = 0 ∨ 2 ^ fmtMan f ≤ k) :
    encodeMag f k (unitExp f E) = E * 2 ^ fmtMan f + k := by
  have hM : 0 < 2 ^ fmtMan f := Nat.two_pow_pos _
  have hexp : (unitExp f E + (fmtMan f : Int) + (fmtBias f : Int)).toNat = E + 1 := by unfold unitExp; omega
  have hexp' : (unitExp f E + 1 + (fmtMan f : Int) + (fmtBias f : Int)).toNat = E + 2 := by unfold unitExp; omega
  simp only [encodeMag, pow_succ']
  generalize 2 ^ fmtMan f = M at *
  rcases lt_or_ge k M with hlow | hnormal
  · obtain rfl : E = 0 := hE.resolve_right (by omega)
    have hnot : ¬ 2 * M ≤ k := by omega
    simp only [if_neg hnot, if_pos hlow]
    split <;> omega
  rcases hk.lt_or_eq with hlt | rfl
  · have hnot : ¬ 2 * M ≤ k := by omega
    have hmul : (E + 1) * M = E * M + M := by ring
    rw [if_neg (by omega), if_neg hnot, if_neg hnot, if_neg (by omega), hexp, hmul]
    omega
  · have hhalf : 2 * M / 2 = M := by omega
    have hmul : (E + 2) * M = E * M + 2 * M := by ring
    rw [if_neg (by omega), if_pos le_rfl, if_pos le_rfl, hhalf, if_neg (lt_irrefl M), hexp', hmul,
      Nat.sub_self, Nat.add_zero]

/-- The binade of a positive fraction in a float's grid, and its significand before rounding: `roundMag`'s unit is the
binade's, and the whole part of the significand belongs to it. -/
theorem roundMag_binade (f : Fmt) {n d : Nat} (hn : 0 < n) (hd : 0 < d) :
    ∃ E a b : Nat, 0 < b ∧ (∀ r, roundMag f r n d = (roundNat r a b, unitExp f E)) ∧
      (n : Rat) / d = (a : Rat) / b * 2 ^ unitExp f E ∧ a / b < 2 * 2 ^ fmtMan f ∧
      (E = 0 ∨ 2 ^ fmtMan f ≤ a / b) := by
  obtain ⟨hlow, hhigh⟩ := floorLog2_bounds hn hd
  set l := floorLog2 n d with hl
  set e : Int := max l (1 - (fmtBias f : Int)) with he
  have hunit : unitExp f (e - (1 - (fmtBias f : Int))).toNat = e - fmtMan f := by unfold unitExp; omega
  have hscale := scale2_eq_mul_zpow n d (-(e - fmtMan f))
  have hpos := scale2_den_pos n hd (-(e - fmtMan f))
  obtain ⟨a, b, hp⟩ : ∃ a b, scale2 n d (-(e - fmtMan f)) = (a, b) := ⟨_, _, rfl⟩
  rw [hp] at hscale hpos
  have hb : (0 : Rat) < b := by exact_mod_cast hpos
  refine ⟨(e - (1 - (fmtBias f : Int))).toNat, a, b, hpos, ?_, ?_, ?_, ?_⟩
  · intro r
    simp only [hunit, roundMag, if_neg hn.ne', ← hl, ← he, hp]
  · rw [hscale, hunit, mul_assoc, ← zpow_add₀ two_ne_zero, neg_add_cancel, zpow_zero, mul_one]
  · have hlt : (a : Rat) / b < 2 * 2 ^ fmtMan f := calc
      (a : Rat) / b = (n : Rat) / d * 2 ^ (-(e - fmtMan f)) := hscale
      _ < 2 ^ (e + 1) * 2 ^ (-(e - fmtMan f)) := by
        gcongr
        exact hhigh.trans_le (zpow_le_zpow_right₀ one_le_two (by omega))
      _ = 2 * 2 ^ fmtMan f := by
        rw [← zpow_add₀ two_ne_zero, ← pow_succ', ← zpow_natCast]; congr 1; push_cast; ring
    rw [Nat.div_lt_iff_lt_mul hpos]
    exact_mod_cast (div_lt_iff₀ hb).mp hlt
  · rcases le_or_gt l (1 - (fmtBias f : Int)) with hsub | hnormal
    · exact .inl (by omega)
    · have hle : (2 : Rat) ^ fmtMan f ≤ a / b := calc
        (2 : Rat) ^ fmtMan f = 2 ^ e * 2 ^ (-(e - fmtMan f)) := by
          rw [← zpow_add₀ two_ne_zero, ← zpow_natCast]; congr 1; ring
        _ ≤ (n : Rat) / d * 2 ^ (-(e - fmtMan f)) := by
          gcongr
          rwa [he, max_eq_left hnormal.le]
        _ = (a : Rat) / b := hscale.symm
      refine .inr ((Nat.le_div_iff_mul_le hpos).mpr ?_)
      exact_mod_cast (le_div_iff₀ hb).mp hle

theorem two_pow_fmtMan_even {f : Fmt} (hf : fmtIsInt f = false) (E : Nat) : (E * 2 ^ fmtMan f) % 2 = 0 := by
  have : 2 ^ fmtMan f % 2 = 0 := by
    cases f
    case int8 | int4 | t2 => cases hf
    all_goals rfl
  rw [Nat.mul_mod, this, Nat.mul_zero, Nat.zero_mod]

/-- The rounding of a magnitude to a float's grid gives the code of the index that rounding chooses, and its magnitude
(R43 step 3). -/
theorem roundMag_eq_roundIndex {f : Fmt} (hf : fmtIsInt f = false) (n : Nat) {d : Nat} (hd : 0 < d) :
    ∃ c, Below f c ((n : Rat) / d) ∧ ∀ r, ∃ k q, roundMag f r n d = (k, q) ∧
      encodeMag f k q = roundIndex f r c ((n : Rat) / d) ∧
      (k : Rat) * 2 ^ q = gridMag f (roundIndex f r c ((n : Rat) / d)) := by
  rcases Nat.eq_zero_or_pos n with rfl | hn
  · refine ⟨0, ⟨by simp, ?_⟩, fun r => ⟨0, 0, rfl, ?_, ?_⟩⟩
    · simpa using gridMag_strictMono f Nat.one_pos
    all_goals simp [encodeMag, roundIndex, fraction]
  obtain ⟨E, a, b, hb, hround, hval, hlt, hE⟩ := roundMag_binade f hn hd
  have hb' : (0 : Rat) < b := by exact_mod_cast hb
  have hu : (0 : Rat) < 2 ^ unitExp f E := by positivity
  set k := a / b with hk
  have hgap : gap f (E * 2 ^ fmtMan f + k) = 2 ^ unitExp f E := by rw [gap, hf, binade_mul_add hlt hE]; rfl
  have hmag : gridMag f (E * 2 ^ fmtMan f + k) = k * 2 ^ unitExp f E := gridMag_mul_add hf hlt.le hE
  have hbelow : Below f (E * 2 ^ fmtMan f + k) ((n : Rat) / d) := by
    constructor
    · rw [hmag, hval]
      gcongr
      exact Nat.cast_div_le
    · have hfloor := Nat.lt_floor_add_one ((a : Rat) / b)
      rw [Nat.floor_div_eq_div] at hfloor
      rw [gridMag_succ, hmag, hgap, hval, ← add_one_mul]
      gcongr
  have hfrac : fraction f (E * 2 ^ fmtMan f + k) ((n : Rat) / d) = (a : Rat) / b - k := by
    rw [fraction_eq, hgap, hmag, hval, ← sub_mul, mul_div_cancel_right₀ _ hu.ne']
  refine ⟨_, hbelow, fun r => ⟨roundNat r a b, unitExp f E, hround r, ?_⟩⟩
  have hparity : k % 2 = (E * 2 ^ fmtMan f + k) % 2 := by have := two_pow_fmtMan_even hf E; omega
  rw [roundIndex, hfrac, ← roundsUp_congr_parity r hparity, roundNat_eq r a hb, ← hk]
  split
  · exact ⟨encodeMag_eq_index hlt (by omega), (gridMag_mul_add hf hlt (by omega)).symm⟩
  · exact ⟨encodeMag_eq_index hlt.le hE, hmag.symm⟩

/-- The test of a float conversion against the largest finite magnitude is one on indices. -/
theorem scale2_le_fmtMax_iff {f : Fmt} (ht : f ≠ .t2) {k j : Nat} {q : Int} (h : (k : Rat) * 2 ^ q = gridMag f j) :
    (scale2 k 1 q).1 * (fmtMax f).2 ≤ (fmtMax f).1 * (scale2 k 1 q).2 ↔ j ≤ topIndex f := by
  have hq : (0 : Rat) < (scale2 k 1 q).2 := by exact_mod_cast scale2_den_pos k Nat.one_pos q
  have hm : (0 : Rat) < (fmtMax f).2 := by cases f <;> norm_num [fmtMax]
  have hv := scale2_eq_mul_zpow k 1 q
  rw [Nat.cast_one, div_one, h] at hv
  rw [← (gridMag_strictMono f).le_iff_le (a := j), gridMag_topIndex ht, ← hv, div_le_div_iff₀ hq hm]
  exact_mod_cast Iff.rfl

theorem convertTo_fin_float {f : Fmt} (hf : fmtIsInt f = false) (n : Nat) {d : Nat} (hd : 0 < d) :
    ∃ c, Below f c ((n : Rat) / d) ∧
      ∀ r neg, convertTo f r (.fin neg n d) = answer f r neg (roundIndex f r c ((n : Rat) / d)) := by
  have ht : f ≠ .t2 := by rintro rfl; cases hf
  obtain ⟨c, hc, hround⟩ := roundMag_eq_roundIndex hf n hd
  refine ⟨c, hc, fun r neg => ?_⟩
  obtain ⟨k, q, hp, hcode, hmag⟩ := hround r
  have htest := scale2_le_fmtMax_iff ht hmag
  have hzero : roundIndex f r c ((n : Rat) / d) = 0 ↔ k = 0 := by
    have hpow : (2 : Rat) ^ q ≠ 0 := by positivity
    rw [← (gridMag_strictMono f).injective.eq_iff (b := 0), gridMag_zero, ← hmag, mul_eq_zero,
      or_iff_left hpow, Nat.cast_eq_zero]
  have hlast : lastIndex f neg = fmtMaxCode f := lastIndex_of_float hf neg
  simp only [convertTo, hf, hp, htest, hcode, ← hzero, answer, encode, hlast, Bool.false_eq_true, if_false]

/-- A conversion of a finite value rounds the index below it and answers the rounded index (R43, R44). -/
theorem convertTo_fin {f : Fmt} (ht : f ≠ .t2) (n : Nat) {d : Nat} (hd : 0 < d) :
    ∃ c, Below f c ((n : Rat) / d) ∧
      ∀ r neg, convertTo f r (.fin neg n d) = answer f r neg (roundIndex f r c ((n : Rat) / d)) := by
  cases hi : fmtIsInt f
  case true => exact ⟨_, convertTo_fin_int hi ht n hd⟩
  case false => exact convertTo_fin_float hi n hd

/-! ### What the answers decode to -/

/-- The magnitude an encoding decodes to. -/
def mag (f : Fmt) (w : Nat) : Rat := |ratOf (decodeElem f w)|

/-- The encodings of the largest finite value on the side of a sign. -/
def AtTop (f : Fmt) (w : Nat) (neg : Bool) : Prop :=
  FiniteCode f w ∧ ratOf (decodeElem f w) = withSign neg (gridMag f (lastIndex f neg))

theorem mag_encode {f : Fmt} (ht : f ≠ .t2) {neg : Bool} {c : Nat} (hc : c ≤ lastIndex f neg) :
    mag f (encode f neg c) = gridMag f c := by
  rw [mag, ratOf_encode ht hc, abs_withSign neg (gridMag_nonneg f c)]

theorem atTop_encode {f : Fmt} (ht : f ≠ .t2) (neg : Bool) : AtTop f (encode f neg (lastIndex f neg)) neg :=
  ⟨finiteCode_encode ht le_rfl, ratOf_encode ht le_rfl⟩

/-- The largest finite value on a side: an integer format reaches one further below zero. -/
theorem withSign_gridMag_lastIndex (f : Fmt) (neg : Bool) : withSign neg (gridMag f (lastIndex f neg)) =
    if fmtIsInt f ∧ neg then -gridMag f (topIndex f) - 1 else (if neg then -1 else 1) * gridMag f (topIndex f) := by
  cases hi : fmtIsInt f <;> cases neg <;> simp [withSign, lastIndex, hi]
  rw [gridMag_succ, gap, if_pos hi]
  ring

/-- The distance of a finite value from `x` with a sign, on the side of that sign and on the other. -/
theorem dist_encode {f : Fmt} (ht : f ≠ .t2) (neg : Bool) {x : Rat} {s : Bool} {i : Nat}
    (hi : i ≤ lastIndex f s) (hx : 0 ≤ x) :
    |ratOf (decodeElem f (encode f s i)) - withSign neg x| = if s = neg then |gridMag f i - x| else gridMag f i + x := by
  rw [ratOf_encode ht hi]
  split
  next hs => rw [hs, abs_withSign_sub_self]
  next hs =>
    obtain rfl : s = !neg := Bool.eq_not.mpr hs
    exact abs_withSign_sub_not neg (gridMag_nonneg f i) hx

section answers
variable {f : Fmt} {r : Rnd} {neg : Bool} {j : Nat}

theorem answer_of_le (hj : j ≤ topIndex f) : (answer f r neg j).1 = encode f neg j := by rw [answer, if_pos hj]

theorem answer_of_saturation (hj : topIndex f < j) (h : overflowsToInf f r = false) :
    answer f r neg j = (encode f neg (lastIndex f neg), .sat) := by
  rw [answer, if_neg (not_le.mpr hj), h]; rfl

theorem answer_of_overflow (hj : topIndex f < j) (h : overflowsToInf f r = true) :
    (answer f r neg j).1 = signBit f neg + infCode f := by
  rw [answer, if_neg (not_le.mpr hj), if_pos h]

theorem decodeElem_answer_of_overflow (hj : topIndex f < j) (h : overflowsToInf f r = true) :
    decodeElem f (answer f r neg j).1 = .inf neg := by
  rw [answer_of_overflow hj h]
  exact decodeElem_infCode (Bool.and_eq_true_iff.mp h).1 neg

@[simp] theorem overflowsToInf_rtz (f : Fmt) : overflowsToInf f .rtz = false := by simp [overflowsToInf]

@[simp] theorem overflowsToInf_rne (f : Fmt) : overflowsToInf f .rne = fmtHasInf f := by simp [overflowsToInf]

@[simp] theorem overflowsToInf_sr (f : Fmt) (u : Nat) : overflowsToInf f (.sr u) = fmtHasInf f := by simp [overflowsToInf]

/-- Rounding toward zero answers the index below the value, the last one of the value's side at most. -/
theorem answer_rtz : (answer f .rtz neg j).1 = encode f neg (min j (lastIndex f neg)) := by
  have hle := topIndex_le_lastIndex f neg
  have hsucc := lastIndex_le_succ f neg
  rcases le_or_gt j (topIndex f) with h | h
  · rw [answer_of_le h, min_eq_left (by omega)]
  · rw [answer_of_saturation h (overflowsToInf_rtz f), min_eq_right (by omega)]

/-- A float's answer carries the sign of the value in its top bit. -/
theorem bitOf_answer (hf : fmtIsInt f = false) : bitOf (answer f r neg j).1 (fmtWidth f - 1) = neg := by
  have hcode : ∃ c, c < 2 ^ (fmtExp f + fmtMan f) ∧ (answer f r neg j).1 = signBit f neg + c := by
    have hmax := fmtMaxCode_lt hf
    rcases le_or_gt j (topIndex f) with hj | hj
    · rw [answer_of_le hj]
      rw [topIndex, hf] at hj
      exact ⟨j, hj.trans_lt hmax, encode_of_float hf neg j⟩
    cases hinf : overflowsToInf f r
    · rw [answer_of_saturation hj hinf]
      exact ⟨_, by rwa [lastIndex_of_float hf], encode_of_float hf neg _⟩
    · refine ⟨infCode f, ?_, answer_of_overflow hj hinf⟩
      rw [infCode, pow_add, Nat.mul_lt_mul_right (Nat.two_pow_pos _)]
      exact Nat.sub_lt (Nat.two_pow_pos _) Nat.one_pos
  obtain ⟨c, hc, hcode⟩ := hcode
  rw [hcode, fmtWidth_of_float hf, Nat.add_sub_cancel, sign_signBit_add neg hc]

end answers

/-! ### The clauses of the obligation -/

/-- An encoding of a finite value converts to itself: its value stands on the grid, and no rounding moves it. -/
theorem convertTo_decodeElem {f : Fmt} (ht : f ≠ .t2) (r : Rnd) {w : Nat} (hw : FiniteCode f w) :
    (convertTo f r (decodeElem f w)).1 = w := by
  obtain ⟨neg, c, hc, rfl⟩ := hw.eq_encode ht
  obtain ⟨-, s, n, d, hd, hdec, hval, hs⟩ := decodeElem_encode ht hc
  obtain ⟨c', hbelow, hconv⟩ := convertTo_fin ht n hd
  rw [hval] at hbelow hconv
  obtain rfl := hbelow.eq_of_gridMag
  rw [hdec, hconv, roundIndex_self]
  rcases hs with rfl | ⟨hi, rfl⟩
  · rcases le_or_gt c' (topIndex f) with h | h
    · exact answer_of_le h
    · have hlast : c' = lastIndex f s := by have := lastIndex_le_succ f s; omega
      have hi : fmtIsInt f = true := by
        by_contra hi
        rw [lastIndex_of_float (by simpa using hi)] at hc
        simp only [topIndex, hi, Bool.false_eq_true, if_false] at h
        omega
      rw [answer_of_saturation h (overflowsToInf_int hi r), ← hlast]
  · rw [answer_of_le (Nat.zero_le _)]
    cases s <;> cases neg <;> simp [encode, hi]

theorem convertTo_inf {f : Fmt} (ht : f ≠ .t2) (r : Rnd) (neg : Bool) : convertTo f r (.inf neg) =
    (if fmtHasInf f then signBit f neg + infCode f else encode f neg (lastIndex f neg), .nonfinite) := by
  cases hi : fmtIsInt f
  case true =>
    have hinf : fmtHasInf f = false := by simpa [overflowsToInf] using overflowsToInf_int hi .rne
    simp only [convertTo, hi, hinf, encode_lastIndex_int hi ht, if_true, Bool.false_eq_true, if_false]
  case false =>
    simp only [convertTo, hi, encode_of_float hi, lastIndex_of_float hi, Bool.false_eq_true, if_false]
    split <;> rfl

theorem convertTo_inf_spec {f : Fmt} (ht : f ≠ .t2) (r : Rnd) (neg : Bool) : (convertTo f r (.inf neg)).2 = .nonfinite ∧
    if fmtHasInf f then decodeElem f (convertTo f r (.inf neg)).1 = .inf neg
    else AtTop f (convertTo f r (.inf neg)).1 neg := by
  rw [convertTo_inf ht]
  refine ⟨rfl, ?_⟩
  split
  next h => exact decodeElem_infCode h neg
  next h => exact atTop_encode ht neg

section clauses
variable {f : Fmt} {c : Nat} {x : Rat} (h : Below f c x)
include h

/-- A rounding does not pass a grid value that is not below the value. -/
theorem Below.roundIndex_le_of_le {i : Nat} (hx : x ≤ gridMag f i) (r : Rnd) : roundIndex f r c x ≤ i := by
  have hci : c ≤ i := (gridMag_strictMono f).le_iff_le.mp (h.1.trans hx)
  rcases hci.lt_or_eq with hlt | rfl
  · exact (roundIndex_le f r c x).trans hlt
  · rw [le_antisymm hx h.1, roundIndex_self]

/-- A grid value stands at or beyond one of the two neighbours of `x`. -/
theorem Below.abs_gridMag_sub (i : Nat) :
    gridMag f i ≤ gridMag f c ∧ |gridMag f i - x| = x - gridMag f i ∨
      gridMag f (c + 1) ≤ gridMag f i ∧ |gridMag f i - x| = gridMag f i - x := by
  obtain ⟨hle, hlt⟩ := h
  rcases Nat.lt_or_ge c i with hi | hi
  · have hmono := (gridMag_strictMono f).monotone (Nat.succ_le_of_lt hi)
    exact .inr ⟨hmono, abs_of_pos (by linarith)⟩
  · have hmono := (gridMag_strictMono f).monotone hi
    exact .inl ⟨hmono, by rw [abs_sub_comm, abs_of_nonneg (by linarith)]⟩

/-- No grid value is nearer than the one rounding to nearest gives, and one as near that differs leaves an even index. -/
theorem Below.rne_nearest (i : Nat) :
    |gridMag f (roundIndex f .rne c x) - x| ≤ |gridMag f i - x| ∧
      (|gridMag f (roundIndex f .rne c x) - x| = |gridMag f i - x| → gridMag f (roundIndex f .rne c x) ≠ gridMag f i →
        roundIndex f .rne c x % 2 = 0) := by
  have hi := h.abs_gridMag_sub i
  obtain ⟨hle, hlt⟩ := h
  generalize |gridMag f i - x| = dist at *
  rcases roundIndex_rne f c x with ⟨hj, hnear⟩ | ⟨hj, hnear⟩
  · have hdist : |gridMag f c - x| = x - gridMag f c := by rw [abs_sub_comm, abs_of_nonneg (by linarith)]
    rw [hj, hdist]
    rcases hnear with hnear | ⟨htie, heven⟩
    · rcases hi with ⟨hi, rfl⟩ | ⟨hi, rfl⟩
      · exact ⟨by linarith, fun heq hne => absurd (by linarith) hne⟩
      · exact ⟨by linarith, fun heq => absurd heq (by linarith)⟩
    · exact ⟨by rcases hi with ⟨hi, rfl⟩ | ⟨hi, rfl⟩ <;> linarith, fun _ _ => heven⟩
  · have hdist : |gridMag f (c + 1) - x| = gridMag f (c + 1) - x := abs_of_pos (by linarith)
    rw [hj, hdist]
    rcases hnear with hnear | ⟨htie, hodd⟩
    · rcases hi with ⟨hi, rfl⟩ | ⟨hi, rfl⟩
      · exact ⟨by linarith, fun heq => absurd heq (by linarith)⟩
      · exact ⟨by linarith, fun heq hne => absurd (by linarith) hne⟩
    · exact ⟨by rcases hi with ⟨hi, rfl⟩ | ⟨hi, rfl⟩ <;> linarith, fun _ _ => by omega⟩

/-- From the next grid value above the largest on, every rounding has passed the largest index. -/
theorem Below.topIndex_lt_of_beyond (hx : gridMag f (topIndex f) + gap f (topIndex f) ≤ x) (r : Rnd) :
    topIndex f < roundIndex f r c x := by
  rw [← gridMag_succ, h.le_iff] at hx
  exact hx.trans (le_roundIndex f r c x)

/-- Between the largest magnitude and the next grid value, the index below is the largest one. -/
theorem Below.eq_topIndex (hlo : gridMag f (topIndex f) ≤ x) (hhi : x < gridMag f (topIndex f) + gap f (topIndex f)) :
    c = topIndex f := by
  rw [← gridMag_succ, h.lt_iff] at hhi
  rw [h.le_iff] at hlo
  omega

variable (ht : f ≠ .t2) (neg : Bool)
include ht

/-- Within the range, rounding to nearest answers a nearest encoding of a finite value, the even one of two (R42). -/
theorem Below.rne_within (hx0 : 0 ≤ x) (hx : x ≤ gridMag f (topIndex f)) :
    let near := (answer f .rne neg (roundIndex f .rne c x)).1
    FiniteCode f near ∧ ∀ w, FiniteCode f w →
      |ratOf (decodeElem f near) - withSign neg x| ≤ |ratOf (decodeElem f w) - withSign neg x| ∧
        (|ratOf (decodeElem f near) - withSign neg x| = |ratOf (decodeElem f w) - withSign neg x| →
          ratOf (decodeElem f near) ≠ ratOf (decodeElem f w) → near % 2 = 0) := by
  intro near
  have hj := h.roundIndex_le_of_le hx .rne
  have hnear : near = encode f neg (roundIndex f .rne c x) := answer_of_le hj
  have hj' := hj.trans (topIndex_le_lastIndex f neg)
  refine ⟨hnear ▸ finiteCode_encode ht hj', fun w hw => ?_⟩
  obtain ⟨s, i, hi, rfl⟩ := hw.eq_encode ht
  rw [hnear, encode_mod_two ht, dist_encode ht neg hj' hx0, if_pos rfl, dist_encode ht neg hi hx0,
    ratOf_encode ht hj', ratOf_encode ht hi]
  obtain ⟨hmin, htie⟩ := h.rne_nearest i
  split
  next hs =>
    subst hs
    exact ⟨hmin, fun heq hne => htie heq fun hg => hne (by rw [hg])⟩
  next hs =>
    -- an encoding of the other sign is no nearer than zero, which stands on both sides
    obtain ⟨hmin0, htie0⟩ := h.rne_nearest 0
    have hzero : |gridMag f 0 - x| = x := by rw [gridMag_zero, zero_sub, abs_neg, abs_of_nonneg hx0]
    have hi0 := gridMag_nonneg f i
    rw [hzero] at hmin0 htie0
    refine ⟨by linarith, fun heq hne => htie0 (by linarith) fun hg => hne ?_⟩
    rw [gridMag_zero] at hg
    have hgi : gridMag f i = 0 := by linarith
    rw [hg, hgi]
    simp [withSign]

/-- Rounding toward zero answers the largest magnitude not above the value's own on its side. -/
theorem Below.rtz_largest :
    let low := (answer f .rtz neg c).1
    FiniteCode f low ∧ mag f low ≤ x ∧ ∀ w, FiniteCode f w → 0 ≤ ratOf (decodeElem f w) * withSign neg x →
      mag f w ≤ x → mag f w ≤ mag f low := by
  intro low
  have hlow : low = encode f neg (min c (lastIndex f neg)) := answer_rtz
  have hj : min c (lastIndex f neg) ≤ lastIndex f neg := min_le_right _ _
  rw [hlow, mag_encode ht hj, h.le_iff]
  refine ⟨finiteCode_encode ht hj, min_le_left _ _, fun w hw hside hle => ?_⟩
  obtain ⟨s, i, hi, rfl⟩ := hw.eq_encode ht
  rw [mag_encode ht hi] at hle ⊢
  have hic := (h.le_iff i).mp hle
  refine (gridMag_strictMono f).monotone (le_min hic ?_)
  by_cases hs : s = neg
  · exact hs ▸ hi
  · -- on the other side only a zero, of the encoding or of the value, leaves the product at 0 or above
    have hprod : gridMag f i * x ≤ 0 := by
      rw [ratOf_encode ht hi, Bool.eq_not.mpr hs, withSign_not_mul] at hside
      linarith
    have hi0 := gridMag_nonneg f i
    have hsq : gridMag f i * gridMag f i ≤ 0 := (mul_le_mul_of_nonneg_left hle hi0).trans hprod
    have hgi : gridMag f i = gridMag f 0 := by rw [gridMag_zero]; nlinarith
    rw [(gridMag_strictMono f).injective hgi]
    exact Nat.zero_le _

/-- Below the largest magnitude, the stochastic rounding answers the magnitude below or the next one (R44). -/
theorem Below.sr_within (u : Nat) (hx : x < gridMag f (topIndex f)) {w : Nat} (hw : FiniteCode f w)
    (hlt : mag f (answer f .rtz neg c).1 < mag f w)
    (hnext : ∀ v, FiniteCode f v → mag f (answer f .rtz neg c).1 < mag f v → mag f w ≤ mag f v) :
    let drawn := (answer f (.sr u) neg (roundIndex f (.sr u) c x)).1
    let low := mag f (answer f .rtz neg c).1
    FiniteCode f drawn ∧ mag f drawn = if (u : Rat) + 1 ≤ (x - low) / (mag f w - low) * 65536 then mag f w else low := by
  intro drawn low
  have hc : c < topIndex f := (h.lt_iff _).mp hx
  have hlast := topIndex_le_lastIndex f neg
  have hlow : mag f (answer f .rtz neg c).1 = gridMag f c := by rw [answer_of_le hc.le, mag_encode ht (by omega)]
  have hhigh : mag f w = gridMag f (c + 1) := by
    rw [hlow] at hlt hnext
    refine le_antisymm ?_ ?_
    · have hsucc : mag f (encode f neg (c + 1)) = gridMag f (c + 1) := mag_encode ht (by omega)
      rw [← hsucc]
      exact hnext _ (finiteCode_encode ht (by omega)) (hsucc ▸ gridMag_strictMono f c.lt_succ_self)
    · obtain ⟨s, i, hi, rfl⟩ := hw.eq_encode ht
      rw [mag_encode ht hi] at hlt ⊢
      exact (gridMag_strictMono f).monotone (Nat.succ_le_of_lt ((gridMag_strictMono f).lt_iff_lt.mp hlt))
  have hj := h.roundIndex_le_of_le hx.le (.sr u)
  have hdrawn : drawn = encode f neg (roundIndex f (.sr u) c x) := answer_of_le hj
  refine ⟨hdrawn ▸ finiteCode_encode ht (hj.trans hlast), ?_⟩
  rw [hdrawn, mag_encode ht (hj.trans hlast), roundIndex_sr, hhigh, show low = gridMag f c from hlow, apply_ite (gridMag f)]
  rfl

/-- Beyond the range, where the answer is no infinity, it is the last value of the side, reported as a saturation (R43
step 5). -/
theorem Below.saturates (hx : gridMag f (topIndex f) + gap f (topIndex f) ≤ x) {r : Rnd}
    (hr : overflowsToInf f r = false) :
    let a := answer f r neg (roundIndex f r c x)
    AtTop f a.1 neg ∧ a.2 = .sat := by
  intro a
  have ha : a = _ := answer_of_saturation (h.topIndex_lt_of_beyond hx r) hr
  rw [ha]
  exact ⟨atTop_encode ht neg, rfl⟩

/-- At the top of the range the stochastic rounding chooses between the largest magnitude and the overflow. -/
theorem Below.sr_top (u : Nat) (hlo : gridMag f (topIndex f) ≤ x) (hhi : x < gridMag f (topIndex f) + gap f (topIndex f)) :
    let drawn := (answer f (.sr u) neg (roundIndex f (.sr u) c x)).1
    if (u : Rat) + 1 ≤ (x - gridMag f (topIndex f)) / gap f (topIndex f) * 65536 then
      (if fmtHasInf f then decodeElem f drawn = .inf neg else AtTop f drawn neg)
    else FiniteCode f drawn ∧ mag f drawn = gridMag f (topIndex f) := by
  intro drawn
  obtain rfl := h.eq_topIndex hlo hhi
  have hlast := topIndex_le_lastIndex f neg
  have hround := roundIndex_sr f u (topIndex f) x
  rw [fraction_eq] at hround
  split
  next hup =>
    rw [if_pos hup] at hround
    have hover : topIndex f < roundIndex f (.sr u) (topIndex f) x := by omega
    cases hinf : fmtHasInf f
    · rw [if_neg (by decide), show drawn = _ from congrArg Prod.fst (answer_of_saturation hover (by simpa using hinf))]
      exact atTop_encode ht neg
    · exact decodeElem_answer_of_overflow hover (by simpa using hinf)
  next hdown =>
    rw [if_neg hdown] at hround
    have hdrawn : drawn = encode f neg (topIndex f) := by rw [← hround]; exact answer_of_le hround.le
    rw [hdrawn]
    exact ⟨finiteCode_encode ht hlast, mag_encode ht hlast⟩

/-- In a format with infinity, rounding to nearest passes the largest magnitude, whose index is odd, from half its
spacing above it on (R43 step 4). -/
theorem Below.rne_top (hinf : fmtHasInf f = true) :
    let near := (answer f .rne neg (roundIndex f .rne c x)).1
    (gridMag f (topIndex f) < x → x < gridMag f (topIndex f) + gap f (topIndex f) / 2 →
      FiniteCode f near ∧ mag f near = gridMag f (topIndex f)) ∧
    (gridMag f (topIndex f) + gap f (topIndex f) / 2 ≤ x → decodeElem f near = .inf neg) := by
  intro near
  have hgap := gap_pos f (topIndex f)
  have hlast := topIndex_le_lastIndex f neg
  have hodd := topIndex_odd hinf
  have hsucc := gridMag_succ f (topIndex f)
  constructor
  · intro hlo hhi
    obtain rfl := h.eq_topIndex hlo.le (by linarith)
    have hround : roundIndex f .rne (topIndex f) x = topIndex f := by
      rcases roundIndex_rne f (topIndex f) x with ⟨hj, -⟩ | ⟨-, hup⟩
      · exact hj
      · rcases hup with hup | ⟨hup, -⟩ <;> linarith
    have hnear : near = encode f neg (topIndex f) := by rw [← hround]; exact answer_of_le hround.le
    rw [hnear]
    exact ⟨finiteCode_encode ht hlast, mag_encode ht hlast⟩
  · intro hx
    refine decodeElem_answer_of_overflow ?_ (by simpa using hinf)
    rcases lt_or_ge x (gridMag f (topIndex f) + gap f (topIndex f)) with hhi | hbeyond
    · obtain rfl := h.eq_topIndex (by linarith) hhi
      rcases roundIndex_rne f (topIndex f) x with ⟨-, hdown⟩ | ⟨hj, -⟩
      · rcases hdown with hdown | ⟨-, heven⟩
        · linarith
        · omega
      · omega
    · exact h.topIndex_lt_of_beyond hbeyond .rne

end clauses

/-- Settles O60: every conversion is a rounding of the format's grid. -/
theorem numberFormats : Obligations.NumberFormats := by
  unfold Obligations.NumberFormats
  intro canonical largest spacing value dist f ht finite mag' top infinite
  have hvalue : value = ratOf := by
    funext x
    cases x <;> rfl
  have hlargest : largest f = gridMag f (topIndex f) := by
    rw [gridMag_topIndex ht]
    cases f
    case t2 => exact absurd rfl ht
    all_goals norm_num [largest, fmtMax]
  have hspacing : spacing f = gap f (topIndex f) := by
    cases f
    case t2 => exact absurd rfl ht
    all_goals
      simp only [spacing, gap, topIndex, fmtIsInt, fmtMax, fmtMaxCode, binade, unitExp, fmtMan, fmtExp, fmtBias,
        fmtHasInf, reduceCtorEq, Bool.false_eq_true, if_true, if_false]
    all_goals norm_num
  have hdist : ∀ a b, dist a b = |a - b| := fun a b => ratAbs_eq_abs (a - b)
  have hmag : ∀ w, mag' w = mag f w := fun w => by rw [mag, ← hvalue]; exact ratAbs_eq_abs _
  have htop : ∀ w neg, top w neg ↔ AtTop f w neg := fun w neg => by
    rw [AtTop, withSign_gridMag_lastIndex, ← hlargest, ← hvalue]
    exact Iff.rfl
  have hfinite : finite = FiniteCode f := rfl
  simp only [hlargest, hspacing, hvalue, hdist, hmag, htop, hfinite]
  refine ⟨fun w r hw => convertTo_decodeElem ht r hw, fun r => ?_, fun r neg => convertTo_inf_spec ht r neg, ?_⟩
  · cases f <;> rfl
  intro neg n d hd
  obtain ⟨c, hc, hconv⟩ := convertTo_fin ht n hd
  have hx0 : (0 : Rat) ≤ (n : Rat) / d := by positivity
  simp only [hconv, ratOf_fin, roundIndex_rtz]
  refine ⟨fun hf r => bitOf_answer hf, fun hx => hc.rne_within ht neg hx0 hx, hc.rtz_largest ht neg,
    fun u h _ hx hh hlt hnext => hc.sr_within ht neg u hx hh hlt hnext,
    fun hx => ⟨?_, fun hinf => ⟨?_, fun u _ => ?_⟩, ?_⟩,
    fun hlo hhi u _ => hc.sr_top ht neg u hlo hhi, fun hinf => hc.rne_top ht neg hinf⟩
  · exact hc.saturates ht neg hx (overflowsToInf_rtz f)
  · exact hc.saturates ht neg hx (by simpa using hinf)
  · exact hc.saturates ht neg hx (by simpa using hinf)
  · exact fun hinf u _ => decodeElem_answer_of_overflow (hc.topIndex_lt_of_beyond hx _) (by simpa using hinf)
end Sys2Proof.Grid
end

section
/-! PROOFS. Translation (chapter 09, obligation O29). A walk reads 32 slots, numbered `m = 8 * k + j` for slot `j` of the
`k`-th bucket from the home bucket (`probeSlot`), and answers the first of them that holds the page (`walk_eq_some_iff`,
`walk_eq_none_iff`). A translated access meets its checks in the order of `translate_mapped`. A holder's miss fills its
cache and loads each bucket line; what loading lines can change is said once (`State.LoadsLines`) and composed along the
walk. -/

namespace Sys2Proof.Machine

/-! ### The walk (R212) -/

/-- The number of the `m`-th slot in probe order, among `n` buckets. -/
def probeSlot (n vpn m : Nat) : Nat := (homeBucket vpn n + m / 8) % n * 8 + m % 8

/-- Whether a slot of the partition's map holds a valid entry of the page. -/
def State.holdsPage (s : State) (p vpn i : Nat) : Bool := eV (s.mapEntry p i) && eVpn (s.mapEntry p i) = vpn

theorem State.holdsPage_iff (s : State) (p vpn i : Nat) :
    s.holdsPage p vpn i = true ↔ eV (s.mapEntry p i) = true ∧ eVpn (s.mapEntry p i) = vpn := by
  simp [State.holdsPage]

theorem probeSlot_lt {n : Nat} (hn : 0 < n) (vpn m : Nat) : probeSlot n vpn m < 8 * n := by
  have := Nat.mod_lt (homeBucket vpn n + m / 8) hn
  unfold probeSlot
  omega

theorem probeSlot_bucket (n vpn k : Nat) {j : Nat} (hj : j < 8) :
    probeSlot n vpn (8 * k + j) = (homeBucket vpn n + k) % n * 8 + j := by
  have hk : (8 * k + j) / 8 = k := by omega
  have hm : (8 * k + j) % 8 = j := by omega
  rw [probeSlot, hk, hm]

/-- The walk searches the slots in probe order. -/
theorem State.walk_eq (s : State) (p vpn : Nat) :
    s.walk p vpn = if s.mapUnits p * 4096 = 0 then none
      else ((((List.range 32).map (probeSlot (s.mapUnits p * 4096) vpn)).find? (s.holdsPage p vpn)).map
        (fun i => (i, s.mapEntry p i))) := rfl

theorem State.walk_eq_some_iff (s : State) (p vpn i e : Nat) :
    s.walk p vpn = some (i, e) ↔ 0 < s.mapUnits p * 4096 ∧ e = s.mapEntry p i ∧
      ∃ m < 32, i = probeSlot (s.mapUnits p * 4096) vpn m ∧ s.holdsPage p vpn i = true ∧
        ∀ m' < m, ¬ s.holdsPage p vpn (probeSlot (s.mapUnits p * 4096) vpn m') = true := by
  rw [State.walk_eq]
  split
  next h => simp [h]
  next h =>
    simp only [List.find?_map, Option.map_map, Option.map_eq_some_iff, List.find?_range_eq_some, List.mem_range,
      Function.comp_apply, Prod.mk.injEq, Nat.pos_of_ne_zero h, true_and, Bool.not_eq_true, Bool.not_eq_true']
    constructor
    · rintro ⟨m, ⟨hm, hlt, hfirst⟩, rfl, rfl⟩
      exact ⟨rfl, m, hlt, rfl, hm, hfirst⟩
    · rintro ⟨rfl, m, hlt, rfl, hm, hfirst⟩
      exact ⟨m, ⟨hm, hlt, hfirst⟩, rfl, rfl⟩

theorem State.walk_eq_none_iff (s : State) (p vpn : Nat) :
    s.walk p vpn = none ↔ s.mapUnits p * 4096 = 0 ∨
      ∀ m < 32, ¬ s.holdsPage p vpn (probeSlot (s.mapUnits p * 4096) vpn m) = true := by
  rw [State.walk_eq]
  split
  next h => simp [h]
  next h => simp [h, List.find?_eq_none]

/-! ### The checks of an access (R213) -/

theorem State.translate_unmapped (s : State) (p : Nat) (r : XReq) (va : Nat)
    (h : 2 ^ 48 ≤ va ∨ s.walk p (va / 0x8000) = none) : s.translate p r va = .inr Reason.notMapped := by
  unfold State.translate
  split
  next => rfl
  next hlt => rw [h.resolve_left hlt]

/-- Whether an access with a context meets an entry of another one that is not shared. -/
def XReq.foreign (r : XReq) (e : Nat) : Bool :=
  !eSH e && r.ctx.any (fun c => eOwner e != c)

theorem XReq.foreign_iff (r : XReq) (e : Nat) :
    r.foreign e = true ↔ eSH e = false ∧ ∃ c, r.ctx = some c ∧ eOwner e ≠ c := by
  simp [XReq.foreign, Option.any_eq_true]

/-- Whether an access meets a DEV or K page that its engine may not use. -/
def XReq.badAttr (r : XReq) (e : Nat) : Bool := (eAttr e = Attr.dev && !r.devOk) || (eK e && !r.kOk)

theorem XReq.badAttr_iff (r : XReq) (e : Nat) :
    r.badAttr e = true ↔ (eAttr e = 4 ∧ r.devOk = false) ∨ (eK e = true ∧ r.kOk = false) := by
  simp only [XReq.badAttr, Bool.or_eq_true, Bool.and_eq_true, Bool.not_eq_true', decide_eq_true_eq]
  rfl

/-- The checks of a mapped page, in their order. -/
theorem State.translate_mapped (s : State) (p : Nat) (r : XReq) {va i e : Nat} (hva : va < 2 ^ 48)
    (hw : s.walk p (va / 0x8000) = some (i, e)) :
    s.translate p r va =
      if r.foreign e then .inr Reason.context
      else if !s.inCarve p (eTgt e) (ePage e + va % 0x8000) then .inr Reason.carve
      else if eWP e && r.write then .inr Reason.write
      else if r.badAttr e then .inr Reason.attr
      else .inl { pa := ePage e + va % 0x8000, tgt := eTgt e, attr := eAttr e, k := eK e } := by
  obtain ⟨ctx, write, devOk, kOk⟩ := r
  simp only [State.translate, Nat.not_le.mpr hva, if_false, hw]
  cases ctx <;> rfl

/-! ### Loading lines through a cache -/

@[simp] theorem State.line_setAgent (s : State) (a line : Nat) (x : Agent) :
    (s.setAgent a x).line a line = x.lines.look line := by
  simp [State.line, State.agent_setAgent]

theorem State.line_setLine (s : State) (a line line' : Nat) (x : CLine) :
    (s.setLine a line x).line a line' = if line = line' then some x else s.line a line' := by
  rw [State.setLine, State.line_setAgent, Tab.look_put]
  rfl

theorem State.line_ask (s : State) (a kind line : Nat) (bytes : List (Nat × Byte)) (b line' : Nat) :
    (s.ask a kind line bytes).line b line' = s.line b line' := by
  unfold State.ask State.countCch
  split
  · rfl
  · split <;> rfl

/-- The waiting load of a load for nobody that fills no other cache. -/
def State.lineLoad (s : State) (who : Waiter) (line : Nat) : LoadWait :=
  { id := s.nextId, who := who, pa := 128 * line, size := 1, reg := 255, sext := false, fill := .none, bytes := [],
    nc := false, asked := false }

theorem State.touch_eq (s : State) (a : Nat) (who : Waiter) (line : Nat) :
    s.touch a who .none line = (s.setAgent a { s.agent a with loads := (s.agent a).loads ++ [s.lineLoad who line] }).tryLoad a
      (s.lineLoad who line) := rfl

theorem State.lineLoad_line (s : State) (who : Waiter) (line : Nat) : (s.lineLoad who line).pa / 128 = line :=
  Nat.mul_div_cancel_left line (by omega)

/-- What loading lines through the cache of agent `a` can change: registers, of which only the cache's hits and misses,
cached lines, of which those of `a` stay, and messages in flight. -/
structure State.LoadsLines (a : Nat) (s u : State) : Prop where
  rest : ∃ r g n, u = { s with regs := r, agents := g, net := n }
  regs : ∀ o, o ≠ Reg.cchHit a → o ≠ Reg.cchMiss a → u.reg o = s.reg o
  lines : ∀ line, s.line a line ≠ none → u.line a line ≠ none

namespace State.LoadsLines

variable {a : Nat} {s t u : State}

theorem refl (a : Nat) (s : State) : LoadsLines a s s := ⟨⟨_, _, _, rfl⟩, fun _ _ _ => rfl, fun _ h => h⟩

theorem trans (h : LoadsLines a s t) (h' : LoadsLines a t u) : LoadsLines a s u := by
  refine ⟨?_, fun o hhit hmiss => (h'.regs o hhit hmiss).trans (h.regs o hhit hmiss),
    fun line hl => h'.lines line (h.lines line hl)⟩
  obtain ⟨_, _, _, rfl⟩ := h.rest
  obtain ⟨_, _, _, rfl⟩ := h'.rest
  exact ⟨_, _, _, rfl⟩

theorem foldl {β : Type} {f : State → β → State} (hf : ∀ t b, LoadsLines a t (f t b)) :
    ∀ (l : List β) (s : State), LoadsLines a s (l.foldl f s)
  | [], s => refl a s
  | b :: l, s => (hf s b).trans (foldl hf l (f s b))

theorem dram_eq (h : LoadsLines a s u) : u.dram = s.dram := by
  obtain ⟨_, _, _, rfl⟩ := h.rest; rfl

theorem pmap_eq (h : LoadsLines a s u) : u.pmap = s.pmap := by
  obtain ⟨_, _, _, rfl⟩ := h.rest; rfl

theorem homeOf_eq (h : LoadsLines a s u) (line : Nat) : u.homeOf line = s.homeOf line := by
  obtain ⟨_, _, _, rfl⟩ := h.rest; rfl

/-- An update of the agent that keeps its lines. -/
theorem setAgent {x : Agent} (hx : ∀ line, s.line a line ≠ none → x.lines.look line ≠ none) :
    LoadsLines a s (s.setAgent a x) :=
  ⟨⟨_, _, _, rfl⟩, fun _ _ _ => rfl, fun line hl => by rw [line_setAgent]; exact hx line hl⟩

theorem setLine (line : Nat) (x : CLine) : LoadsLines a s (s.setLine a line x) :=
  setAgent fun line' hl => by
    rw [Tab.look_put]
    split
    · exact Option.some_ne_none x
    · exact hl

theorem countCch {r : Nat → Nat} (hr : r a = Reg.cchHit a ∨ r a = Reg.cchMiss a) (n : Nat) :
    LoadsLines a s (s.countCch a r n) := by
  unfold State.countCch
  split
  next =>
    refine ⟨⟨_, _, _, rfl⟩, fun o hhit hmiss => ?_, fun _ h => h⟩
    rw [State.reg_count, if_neg]
    rcases hr with hr | hr <;> rw [hr]
    · exact hhit.symm
    · exact hmiss.symm
  next => exact refl a s

theorem ask (kind line : Nat) (bytes : List (Nat × Byte)) : LoadsLines a s (s.ask a kind line bytes) := by
  unfold State.ask
  split
  · exact refl a s
  · exact (countCch (.inr rfl) 1).trans ⟨⟨_, _, _, rfl⟩, fun _ _ _ => rfl, fun _ h => h⟩

/-- A load for nobody that fills no other cache is served by its agent alone. -/
theorem serveLoad {w : LoadWait} (hfill : w.fill = .none) (hreg : w.reg = 255) (data : Nat) :
    LoadsLines a s (s.serveLoad a w data) := by
  have served : LoadsLines a s (s.setAgent a { s.agent a with loads := (s.agent a).loads.erase w }) :=
    setAgent fun _ hl => hl
  simp only [State.serveLoad, hfill, State.giveLoad, hreg, if_true]
  split
  · exact served
  · exact served.trans (countCch (.inl rfl) 1)

theorem tryLoad {w : LoadWait} (hfill : w.fill = .none) (hreg : w.reg = 255) : LoadsLines a s (s.tryLoad a w) := by
  have asked : LoadsLines a s (s.setAgent a { s.agent a with
      loads := (s.agent a).loads.map (fun x => if x = w then { x with asked := true } else x) }) :=
    setAgent fun _ hl => hl
  unfold State.tryLoad
  dsimp only
  split
  next l hline =>
    split
    · exact serveLoad hfill hreg l.data
    · exact asked
  next hline =>
    split
    next => exact refl a s
    next =>
      split
      next =>
        split
        · exact asked
        · refine asked.trans (.trans (setAgent ?_) (ask _ _ _))
          exact fun _ hl => hl
      next => exact asked.trans ((setLine _ _).trans (ask _ _ _))

theorem touch (who : Waiter) (line : Nat) : LoadsLines a s (s.touch a who .none line) := by
  rw [touch_eq]
  refine .trans (setAgent ?_) (tryLoad rfl rfl)
  exact fun _ hl => hl

end State.LoadsLines

/-- A cacheable load leaves its line in the agent's cache, if it has a home. -/
theorem State.line_tryLoad {s : State} (a : Nat) {w : LoadWait} (hfill : w.fill = .none) (hreg : w.reg = 255)
    (hnc : w.nc = false) (hhome : s.homeOf (w.pa / 128) ≠ none) : (s.tryLoad a w).line a (w.pa / 128) ≠ none := by
  by_cases hline : s.line a (w.pa / 128) = none
  · have hlook : (s.agent a).lines.look (w.pa / 128) = none := hline
    have hsome : (s.homeOf (w.pa / 128)).isNone = false := by rwa [Option.isNone_eq_false_iff, Option.isSome_iff_ne_none]
    simp [State.tryLoad, hlook, hsome, hnc, State.line_ask, State.line_setLine]
  · exact (State.LoadsLines.tryLoad hfill hreg).lines _ hline

theorem State.line_touch {s : State} (a : Nat) (who : Waiter) {line : Nat} (hhome : s.homeOf line ≠ none) :
    (s.touch a who .none line).line a line ≠ none := by
  rw [State.touch_eq]
  have loaded := State.line_tryLoad (w := s.lineLoad who line)
    (s := s.setAgent a { s.agent a with loads := (s.agent a).loads ++ [s.lineLoad who line] }) a rfl rfl rfl
  rw [State.lineLoad_line] at loaded
  exact loaded hhome

theorem State.line_touch_foldl {a : Nat} (who : Waiter) {line : Nat} (lines : List Nat) (hmem : line ∈ lines) :
    ∀ s : State, s.homeOf line ≠ none →
      (lines.foldl (fun t l => t.touch a who .none l) s).line a line ≠ none := by
  induction lines with
  | nil => simp at hmem
  | cons l ls ih =>
    intro s hhome
    rcases List.mem_cons.1 hmem with rfl | hmem
    · exact (State.LoadsLines.foldl (fun t l => .touch who l) ls _).lines _ (State.line_touch a who hhome)
    · refine ih hmem _ ?_
      rwa [(State.LoadsLines.touch who l).homeOf_eq]

/-! ### A holder's miss (R214) -/

theorem Reg.cchXlatMiss_ne_cchHit (p k : Nat) : Reg.cchXlatMiss p ≠ Reg.cchHit k := by
  unfold Reg.cchXlatMiss Reg.cchHit
  omega

theorem Reg.cchXlatMiss_ne_cchMiss (p k : Nat) : Reg.cchXlatMiss p ≠ Reg.cchMiss k := by
  unfold Reg.cchXlatMiss Reg.cchMiss
  omega

theorem State.tlbHas_iff (s : State) (holder p vpn : Nat) :
    s.tlbHas holder p vpn = true ↔ ∃ e, (holder, p, vpn, e) ∈ s.pmap.tlb := by
  simp only [State.tlbHas, List.any_eq_true, Bool.and_eq_true, decide_eq_true_eq]
  constructor
  · rintro ⟨⟨h', p', v', e⟩, hmem, ⟨rfl, rfl⟩, rfl⟩
    exact ⟨e, hmem⟩
  · rintro ⟨e, hmem⟩
    exact ⟨_, hmem, ⟨rfl, rfl⟩, rfl⟩

theorem State.tlbFill_dram (s : State) (holder p vpn : Nat) : (s.tlbFill holder p vpn).dram = s.dram := by
  obtain ⟨r, m, h⟩ := s.tlbFill_only holder p vpn
  rw [h]

theorem State.tlbFill_homeOf (s : State) (holder p vpn line : Nat) :
    (s.tlbFill holder p vpn).homeOf line = s.homeOf line := by
  obtain ⟨r, m, h⟩ := s.tlbFill_only holder p vpn
  rw [h]
  rfl

theorem State.tlbFill_entries (s : State) (holder p vpn : Nat) :
    (s.tlbFill holder p vpn).pmap.entries = s.pmap.entries := by
  unfold State.tlbFill
  dsimp only
  split <;> rfl

theorem State.tlbFill_reg (s : State) (holder p vpn o : Nat) :
    (s.tlbFill holder p vpn).reg o = (s.count (Reg.cchXlatMiss p) 1).reg o := by
  unfold State.tlbFill
  dsimp only
  split <;> rfl

theorem State.tlbFill_takes {s : State} {p vpn i e : Nat} (holder : Nat) (hw : s.walk p vpn = some (i, e)) :
    (holder, p, vpn, BitVec.ofNat 128 e) ∈ (s.tlbFill holder p vpn).pmap.tlb := by
  have hw' : (s.count (Reg.cchXlatMiss p) 1).walk p vpn = some (i, e) := hw
  simp [State.tlbFill, hw']

/-- A use of a translation that the holder has changes nothing. -/
theorem State.tlbUse_hit {s : State} {holder p va : Nat} (h : s.tlbHas holder p (va / 0x8000) = true) :
    s.tlbUse holder p va = s := by
  simp [State.tlbUse, h]

/-- A miss through a cluster's or the Starter's cache touches the bucket lines. -/
theorem State.tlbUse_miss {s : State} {holder p va : Nat} (hva : va < 2 ^ 48)
    (h : s.tlbHas holder p (va / 0x8000) = false) (ha : walkAgent holder ≠ 31) :
    s.tlbUse holder p va = (s.walkLines p (va / 0x8000)).foldl
      (fun t line => t.touch (walkAgent holder) (.lane 0 64 0) .none line) (s.tlbFill holder p (va / 0x8000)) := by
  simp only [State.tlbUse, h, Nat.not_le.mpr hva, ha, decide_false, Bool.or_false, Bool.false_eq_true, if_false]

/-- A miss fills the holder's cache and then only loads lines. -/
theorem State.tlbUse_loadsLines {s : State} {holder p va : Nat} (hva : va < 2 ^ 48)
    (h : s.tlbHas holder p (va / 0x8000) = false) :
    State.LoadsLines (walkAgent holder) (s.tlbFill holder p (va / 0x8000)) (s.tlbUse holder p va) := by
  simp only [State.tlbUse, h, Nat.not_le.mpr hva, decide_false, Bool.or_false, Bool.false_eq_true, if_false]
  refine State.LoadsLines.foldl (fun t line => ?_) _ _
  split
  next ha => rw [ha]; exact .ask 4 line []
  next => exact .touch _ line

theorem exec_translationWalk {s : State} {holder p va : Nat} (ctx : Nat) (hh : holder ≤ 188) (hp : p < 8)
    (halive : s.alive = true) (hholds : s.holds holder p = true) (hva : va < 2 ^ 48) :
    exec (.translationWalk holder p ctx va) s = .next (s.tlbUse holder p va) := by
  show execTranslationWalk holder p ctx va s = _
  simp only [execTranslationWalk, onUnit, guarded, hh, hp, halive, hholds, hva, decide_true, Bool.and_self, if_true]

end Sys2Proof.Machine

open Sys2Proof Sys2Proof.Machine

/-- Settles O29: a walk is a search of the slots in probe order, the checks stand in the order of `translate_mapped`, and
a miss fills the holder's cache and loads the bucket lines. -/
theorem translationOrder : Obligations.TranslationOrder := by
  unfold Obligations.TranslationOrder
  intro s holder p ctx va r n vpn at' hits
  have hslot : ∀ k, ∀ j < 8, at' k j = probeSlot n vpn (8 * k + j) := fun k j hj => (probeSlot_bucket n vpn k hj).symm
  have hhits : ∀ i, hits i ↔ s.holdsPage p vpn i = true := fun i => (s.holdsPage_iff p vpn i).symm
  refine ⟨fun i e hw => ?_, fun hw hn k hk j hj => ?_, s.translate_unmapped p r va, fun i e hva hw => ?_,
    fun hh hp halive hholds hva => ⟨s.tlbUse holder p va, exec_translationWalk ctx hh hp halive hholds hva, ?_⟩⟩
  · obtain ⟨hn, he, m, hm, hi, hhit, hfirst⟩ := (s.walk_eq_some_iff p _ i e).1 hw
    have hdiv : 8 * (m / 8) + m % 8 = m := Nat.div_add_mod m 8
    have hmod : m % 8 < 8 := Nat.mod_lt m (by omega)
    refine ⟨he, hi ▸ probeSlot_lt hn _ m, m / 8, by omega, m % 8, hmod, ?_, (hhits i).2 hhit, fun k' _ j' hj' hlt => ?_⟩
    · rw [hslot _ _ hmod, hdiv]
      exact hi
    · rw [hhits, hslot k' j' hj']
      exact hfirst _ (by omega)
  · rw [hhits, hslot k j hj]
    exact ((s.walk_eq_none_iff p _).1 hw).resolve_left hn.ne' _ (by omega)
  · intro pa foreign attr
    have hforeign : foreign ↔ r.foreign e = true := (r.foreign_iff e).symm
    have hattr : attr ↔ r.badAttr e = true := (r.badAttr_iff e).symm
    rw [s.translate_mapped p r hva hw, hforeign, hattr]
    refine ⟨fun hf => ?_, fun hf hc => ?_, fun hf hc hwp hwr => ?_, fun hf hc hwp ha => ?_, fun hf hc hwp ha => ?_⟩
    · rw [if_pos hf]; rfl
    · simp only [hf, hc, pa, Bool.not_false, if_true]; rfl
    · simp only [hf, hc, pa, hwp, hwr]; rfl
    · simp only [Bool.and_eq_true, hf, hc, pa, hwp, ha]; rfl
    · simp only [Bool.and_eq_true, hf, hc, pa, hwp, ha]; rfl
  have hiff := s.tlbHas_iff holder p (va / 0x8000)
  cases hhas : s.tlbHas holder p (va / 0x8000) with
  | true =>
    obtain ⟨e, he⟩ := hiff.1 hhas
    rw [State.tlbUse_hit hhas]
    exact ⟨rfl, rfl, fun _ _ => rfl, fun _ => rfl, fun hmiss => absurd he (hmiss e)⟩
  | false =>
    have loads := State.tlbUse_loadsLines hva hhas
    refine ⟨loads.dram_eq.trans (s.tlbFill_dram _ _ _), ?_, fun o ho => ?_, fun hhit => ?_, fun _ => ⟨?_, ?_, ?_⟩⟩
    · rw [loads.pmap_eq, State.tlbFill_entries]
    · simp only [List.mem_cons, List.not_mem_nil, or_false, not_or] at ho
      obtain ⟨hxlat, hhit, hmiss⟩ := ho
      rw [loads.regs o hhit hmiss, State.tlbFill_reg, State.reg_count, if_neg (Ne.symm hxlat)]
    · rw [hiff.2 hhit] at hhas
      contradiction
    · rw [loads.regs _ (Reg.cchXlatMiss_ne_cchHit p _) (Reg.cchXlatMiss_ne_cchMiss p _), State.tlbFill_reg,
        State.reg_count, if_pos rfl]
    · intro hcache line hline hhome
      rw [State.tlbUse_miss hva hhas (by omega)]
      exact State.line_touch_foldl _ _ hline _ (by rwa [State.tlbFill_homeOf])
    · intro i e hw
      rw [loads.pmap_eq]
      exact State.tlbFill_takes holder hw
end

section
/-! PROOFS. Counter freezes (chapter 16, obligation O53). A holder's taking and a freeze's end are the two shared operations
`freezeTake` and `freezeCheck`; what each does is said once (`freezeTake_takes`, `freezeCheck_ends`), and every clause is one
of them in the state an instruction gives it. The FREEZE records are a run of `trace` over the buffers; the messages are a
run of `sendCtl` over the reachable modules, which only puts flits into queues (`State.QueuesFlits`). -/

namespace Sys2Proof.Machine

/-! ### Bits and bytes -/

theorem leBytes_length (n v : Nat) : (leBytes n v).length = n := by
  induction n generalizing v with
  | zero => rfl
  | succ n ih => rw [leBytes, List.length_cons, ih]

theorem leNat_leBytes (n v : Nat) : leNat (leBytes n v) = v % 256 ^ n := by
  induction n generalizing v with
  | zero => simp [leBytes, leNat, Nat.mod_one]
  | succ n ih =>
    rw [leBytes, leNat, ih, BitVec.toNat_ofNat, pow_succ' 256 n, Nat.mod_mul]

theorem exactly_length (n : Nat) (l : List Byte) : (exactly n l).length = n := leBytes_length _ _

theorem bitOf_setFld_one (v i x : Nat) : bitOf (setFld v i 1 x) i = decide (x % 2 = 1) := by
  have hpos := Nat.two_pow_pos i
  have hsplit : setFld v i 1 x = v % 2 ^ i + (x % 2 + v / 2 ^ (i + 1) * 2) * 2 ^ i := by
    rw [setFld, pow_succ 2 i, pow_one]
    ring
  have hdiv : setFld v i 1 x / 2 ^ i = x % 2 + v / 2 ^ (i + 1) * 2 := by
    rw [hsplit, Nat.add_mul_div_right _ _ hpos, Nat.div_eq_of_lt (Nat.mod_lt _ hpos), Nat.zero_add]
  have hbit : (x % 2 + v / 2 ^ (i + 1) * 2) % 2 = x % 2 := by omega
  rw [bitOf, hdiv, hbit]

/-! ### Records in the trace buffers (R401) -/

theorem State.buffer_setBuffer (s : State) (b j : Nat) (t : TraceBuf) :
    (s.setBuffer b t).buffer j = if b = j then t else s.buffer j := Tab.get_set _ _ _ _ _

/-- A record that is written changes its buffer; one that is dropped is counted as well. -/
theorem State.trace_eq (s : State) (b : Nat) (r : TraceRec) :
    ∃ t, s.trace b r = s.setBuffer b t ∨ ∃ o, s.trace b r = (s.setBuffer b t).count o 1 := by
  simp only [State.trace]
  generalize (if (s.buffer b).dropped = 0 then 255 else 254) = room
  split
  · exact ⟨_, .inr ⟨_, rfl⟩⟩
  · split <;> exact ⟨_, .inl rfl⟩

theorem State.trace_only (s : State) (b : Nat) (r : TraceRec) :
    ∃ g t, s.trace b r = { s with regs := g, traces := t } := by
  obtain ⟨t, h | ⟨o, h⟩⟩ := s.trace_eq b r
  · exact ⟨_, _, h⟩
  · exact ⟨_, _, h⟩

theorem State.buffer_trace_other (s : State) {b j : Nat} (h : b ≠ j) (r : TraceRec) :
    (s.trace b r).buffer j = s.buffer j := by
  have hset : ∀ t, (s.setBuffer b t).buffer j = s.buffer j := fun t => by rw [buffer_setBuffer, if_neg h]
  obtain ⟨t, ht | ⟨o, ht⟩⟩ := s.trace_eq b r
  · rw [ht, hset]
  · rw [ht]
    exact hset t

theorem State.trace_room {s : State} {b : Nat} (r : TraceRec) (hkept : (s.buffer b).dropped = 0)
    (hroom : (s.buffer b).recs.length < 256) :
    ((s.trace b r).buffer b).recs.length = (s.buffer b).recs.length + 1 := by
  have hfits : ¬ 255 < (s.buffer b).recs.length := by omega
  simp only [State.trace, hkept, if_true, hfits, if_false, buffer_setBuffer, TraceBuf.put, List.length_append,
    List.length_singleton]

section records
variable (r : State → TraceRec)

/-- The state after each listed buffer was given its record. -/
theorem State.traceAll_only (l : List Nat) (s : State) :
    ∃ g t, l.foldl (fun s b => s.trace b (r s)) s = { s with regs := g, traces := t } := by
  induction l generalizing s with
  | nil => exact ⟨_, _, rfl⟩
  | cons b l ih =>
    obtain ⟨_, _, hfirst⟩ := s.trace_only b (r s)
    obtain ⟨g, t, hrest⟩ := ih (s.trace b (r s))
    exact ⟨g, t, by rw [List.foldl_cons, hrest, hfirst]⟩

theorem State.buffer_traceAll_other {l : List Nat} {j : Nat} (h : j ∉ l) (s : State) :
    (l.foldl (fun s b => s.trace b (r s)) s).buffer j = s.buffer j := by
  induction l generalizing s with
  | nil => rfl
  | cons b l ih =>
    obtain ⟨hb, hl⟩ := not_or.1 (List.mem_cons.not.1 h)
    rw [List.foldl_cons, ih hl, buffer_trace_other _ (Ne.symm hb)]

/-- Each of distinct buffers that has room holds one record more. -/
theorem State.traceAll_room {l : List Nat} (hl : l.Nodup) {j : Nat} (hj : j ∈ l) (s : State)
    (hkept : (s.buffer j).dropped = 0) (hroom : (s.buffer j).recs.length < 256) :
    ((l.foldl (fun s b => s.trace b (r s)) s).buffer j).recs.length = (s.buffer j).recs.length + 1 := by
  induction l generalizing s with
  | nil => cases hj
  | cons b l ih =>
    obtain ⟨hb, hl⟩ := List.nodup_cons.1 hl
    rw [List.foldl_cons]
    by_cases h : b = j
    · subst h
      rw [buffer_traceAll_other r hb, trace_room _ hkept hroom]
    · have hsame := s.buffer_trace_other h (r s)
      rw [ih hl ((List.mem_cons.1 hj).resolve_left (Ne.symm h)) _ (by rwa [hsame]) (by rwa [hsame]), hsame]

end records

theorem State.bufferOk_lt {s : State} {b : Nat} (h : s.bufferOk b = true) : b < 22 := by
  have hn : s.nClusters ≤ 20 := by unfold State.nClusters; split <;> decide
  simp only [State.bufferOk, Bool.or_eq_true, Bool.and_eq_true, decide_eq_true_eq] at h
  omega

/-! ### CTL messages (R320, R412) -/

/-- A route is decided by the module's own coordinates, its ports' states and what their peers told. -/
theorem State.route_congr {s u : State} (hunits : u.units = s.units) (hboot : u.boot = s.boot)
    (hcoord : u.links.coord = s.links.coord) (hvalid : u.links.valid = s.links.valid)
    (hst : ∀ k, (u.port k).st = (s.port k).st) (hpeer : ∀ k, (u.port k).peer = (s.port k).peer) (m : Nat) :
    u.route m = s.route m := by
  have hup : u.portUp = s.portUp := by
    funext k
    rw [State.portUp, hboot, hst]; rfl
  have hoffset : u.offset = s.offset := by
    funext k
    rw [State.offset, State.oneDie, hunits]; rfl
  have hno : u.peerNo = s.peerNo := by
    funext k
    rw [State.peerNo, hpeer]; rfl
  have hto : u.portTo = s.portTo := by
    funext m
    simp only [State.portTo, hup, hoffset, hcoord, hno]
  have hvia : u.portVia = s.portVia := by
    funext v m
    simp only [State.portVia, hto, hpeer, hoffset]
  simp only [State.route, hcoord, hvalid, hto, hvia]

/-- Flits have been put into the ports' queues, and nothing but this and its metering has been done. -/
structure State.QueuesFlits (s u : State) : Prop where
  rest : ∃ l m, u = { s with links := l, meter := m }
  route : ∀ m, u.route m = s.route m
  queue : ∀ k, ∀ f ∈ (s.port k).queue, f ∈ (u.port k).queue

namespace State.QueuesFlits

theorem refl (s : State) : QueuesFlits s s := ⟨⟨_, _, rfl⟩, fun _ => rfl, fun _ _ hf => hf⟩

theorem trans {s t u : State} (h : QueuesFlits s t) (h' : QueuesFlits t u) : QueuesFlits s u := by
  refine ⟨?_, fun m => (h'.route m).trans (h.route m), fun k f hf => h'.queue k f (h.queue k f hf)⟩
  obtain ⟨_, _, rfl⟩ := h.rest
  obtain ⟨_, _, rfl⟩ := h'.rest
  exact ⟨_, _, rfl⟩

end State.QueuesFlits

theorem State.port_queueFlits (s : State) (idx k vc share dst tag : Nat) (bytes : List Byte) (j : Nat) :
    (s.queueFlits idx k vc share dst tag bytes).port j =
      if k = j then { s.port k with queue := (s.port k).queue ++ (flitsOf vc bytes).map (fun f =>
        { vc := vc, share := share, dst := dst, seq := tag, head := f.1, payload := f.2 : QFlit }) }
      else s.port j := State.port_setPort _ _ _ _

/-- Of any port only the queue's end changes. -/
theorem State.port_queueFlits_append (s : State) (idx k vc share dst tag : Nat) (bytes : List Byte) (j : Nat) :
    ∃ q, (s.queueFlits idx k vc share dst tag bytes).port j = { s.port j with queue := (s.port j).queue ++ q } := by
  rw [State.port_queueFlits]
  split
  next h => exact ⟨_, by rw [h]⟩
  next => exact ⟨[], by rw [List.append_nil]⟩

theorem State.queueFlits_queues (s : State) (idx k vc share dst tag : Nat) (bytes : List Byte) :
    s.QueuesFlits (s.queueFlits idx k vc share dst tag bytes) := by
  have hport := s.port_queueFlits_append idx k vc share dst tag bytes
  refine ⟨⟨_, _, rfl⟩, State.route_congr rfl rfl rfl rfl (fun j => ?_) (fun j => ?_), fun j f hf => ?_⟩
  all_goals
    obtain ⟨q, hq⟩ := hport j
    rw [hq]
  exact List.mem_append_left q hf

theorem State.sendCtl_queues (s : State) (m : Nat) (b : List Byte) : s.QueuesFlits (s.sendCtl m b) := by
  unfold State.sendCtl
  split
  · exact s.queueFlits_queues _ _ _ _ _ _ _
  · exact .refl s

/-- A payload of one flit travels as it is. -/
theorem flitsOf_one (vc : Nat) {bytes : List Byte} (h : bytes.length = 232) :
    flitsOf vc bytes = [(BitVec.ofNat 64 (flitHead vc false true true false), bytes)] := by
  have htake : bytes.take 232 = bytes := List.take_of_length_le h.le
  simp [flitsOf, h, htake]

/-- A flit of CTL that carries the message to module `m` waits in a port's queue. -/
def State.CtlQueued (s : State) (k m : Nat) (b : List Byte) : Prop :=
  ∃ f ∈ (s.port k).queue, f.vc = 0 ∧ f.payload = exactly 232 (Config.ctlFlit m b)

theorem State.QueuesFlits.ctlQueued {s u : State} (h : s.QueuesFlits u) {k m : Nat} {b : List Byte} (hq : s.CtlQueued k m b) :
    u.CtlQueued k m b := by
  obtain ⟨f, hf, hflit⟩ := hq
  exact ⟨f, h.queue k f hf, hflit⟩

theorem State.sendCtl_ctlQueued {s : State} {m k : Nat} (h : s.route m = some k) (b : List Byte) :
    (s.sendCtl m b).CtlQueued k m b := by
  have hsent : s.sendCtl m b = s.queueFlits moduleIndex k 0 8 64 0 (exactly 232 (Config.ctlFlit m b)) := by
    rw [State.sendCtl, h]
  rw [State.CtlQueued, hsent, State.port_queueFlits, if_pos rfl, flitsOf_one 0 (exactly_length _ _)]
  exact ⟨_, List.mem_append_right _ (List.mem_singleton.2 rfl), rfl, rfl⟩

theorem State.sendAll_queues (ms : List Nat) (b : List Byte) (s : State) :
    s.QueuesFlits (ms.foldl (fun t m => t.sendCtl m b) s) := by
  induction ms generalizing s with
  | nil => exact .refl s
  | cons m ms ih => exact (s.sendCtl_queues m b).trans (ih _)

theorem State.sendAll_ctlQueued {ms : List Nat} {m k : Nat} (hm : m ∈ ms) (b : List Byte) (s : State)
    (h : s.route m = some k) : (ms.foldl (fun t m => t.sendCtl m b) s).CtlQueued k m b := by
  induction ms generalizing s with
  | nil => cases hm
  | cons n ms ih =>
    rw [List.foldl_cons]
    by_cases hn : m = n
    · subst hn
      exact (State.sendAll_queues ms b _).ctlQueued (State.sendCtl_ctlQueued h b)
    · exact ih ((List.mem_cons.1 hm).resolve_left hn) _ (((s.sendCtl_queues n b).route m).trans h)

/-! ### The messages of a freeze (R412) -/

/-- The bytes of a FREEZE (1) or UNFREEZE (2) message. -/
def State.freezeMsg (s : State) (op : Nat) : List Byte :=
  layout 16 [(0, 1, 0x10), (1, 1, 1), (2, 1, op), (3, 1, s.moduleNo), (4, 4, s.freeze.id), (8, 8, s.freeze.time)]

theorem State.freezeSend_eq (s : State) (op : Nat) : s.freezeSend op =
    if s.entry 0x2300 1 = 1 then (setBits s.links.reachable 64).foldl (fun t m => t.sendCtl m (s.freezeMsg op)) s
    else s := rfl

theorem State.freezeMsg_head (s : State) (op : Nat) : (s.freezeMsg op).take 3 = [0x10#8, 1#8, BitVec.ofNat 8 op] := by
  simp [State.freezeMsg, layout, Mem.bytes, Mem.byte_write, List.range_succ, leBytes]

theorem State.freezeMsg_id (s : State) (op : Nat) :
    leNat (((s.freezeMsg op).drop 4).take 4) = s.freeze.id % 2 ^ 32 := by
  have hid : ((s.freezeMsg op).drop 4).take 4 = leBytes 4 s.freeze.id := by
    simp [State.freezeMsg, layout, Mem.bytes, Mem.byte_write, List.range_succ, leBytes]
  rw [hid, leNat_leBytes]
  norm_num

/-- What the module says of a freeze as it goes from `a` to `u`: a message to every reachable module, for a freeze of its
own with FREEZE_GROUP_TX set, and else nothing. -/
def State.AnnouncesFreeze (a u : State) (own : Bool) (op : Byte) : Prop :=
  ∃ b : List Byte, b.take 3 = [0x10#8, 1#8, op] ∧ leNat ((b.drop 4).take 4) = a.freeze.id % 2 ^ 32 ∧ u.out = a.out ∧
    (own = false ∨ a.entry 0x2300 1 ≠ 1 → u.links = a.links ∧ u.meter = a.meter) ∧
    (own = true → a.entry 0x2300 1 = 1 → ∀ m k, m < 64 → bitOf a.links.reachable m = true → a.route m = some k →
      u.CtlQueued k m b)

theorem State.freezeSend_queues (s : State) (op : Nat) : s.QueuesFlits (s.freezeSend op) := by
  rw [State.freezeSend_eq]
  split
  · exact State.sendAll_queues _ _ s
  · exact .refl s

/-- The message of a freeze of the module's own is sent, another freeze's is not. -/
theorem State.freezeSend_announces (s : State) (own : Bool) (op : Nat) :
    s.AnnouncesFreeze (if own then s.freezeSend op else s) own (BitVec.ofNat 8 op) := by
  refine ⟨s.freezeMsg op, s.freezeMsg_head op, s.freezeMsg_id op, ?_, fun hquiet => ?_,
    fun hown htx m k hm hreach hroute => ?_⟩
  · split
    · obtain ⟨_, _, hsent⟩ := (s.freezeSend_queues op).rest
      rw [hsent]
    · rfl
  · rcases hquiet with rfl | htx
    · exact ⟨rfl, rfl⟩
    · rw [State.freezeSend_eq, if_neg htx, ite_self]
      exact ⟨rfl, rfl⟩
  · have hmem : m ∈ setBits s.links.reachable 64 := List.mem_filter.2 ⟨List.mem_range.2 hm, hreach⟩
    rw [if_pos hown, State.freezeSend_eq, if_pos htx]
    exact State.sendAll_ctlQueued hmem _ s hroute

/-! ### A holder is taken (R410, R411) -/

/-- The instruction takes a holder in the state `a`, which makes its freeze `f`: a later holder is counted, and the first
starts the freeze. -/
def State.TakesHolder (s a : State) (i : Instr) (f : Freeze) (own : Bool) : Prop :=
  if a.frozen = true then exec i s = .next ({ a with freeze := f }.count Reg.dbgFreezeRepeat 1)
  else ∃ u : State, exec i s = .next u ∧
    u.freeze = { f with copy := some (a.accrue a.countingNow).regs, id := (a.freeze.id + 1) % 2 ^ 32, time := a.time,
                        own := own } ∧
    (∀ b, a.bufferOk b = true → (a.buffer b).dropped = 0 → (a.buffer b).recs.length < 256 →
      (u.buffer b).recs.length = (a.buffer b).recs.length + 1) ∧
    State.AnnouncesFreeze { a with freeze := u.freeze } u own 1#8

/-- The FREEZE record, of the freeze in force. -/
def State.freezeRec (s : State) : TraceRec := TraceRec.mk0 0x06 7 0xFF 0xFF 0 s.freeze.id

/-- The freeze a first holder starts. -/
def State.firstFreeze (s : State) (h : Holder) : Freeze :=
  Freeze.take { s.freeze with copy := some (s.accrue s.countingNow).regs, id := (s.freeze.id + 1) % 2 ^ 32, time := s.time,
                              own := h.own } h

/-- The counters are copied and the FREEZE records written. -/
def State.recordFreeze (s : State) (h : Holder) : State :=
  ((List.range 22).filter s.bufferOk).foldl (fun s b => s.trace b s.freezeRec)
    { s.accrue s.countingNow with freeze := s.firstFreeze h }

theorem State.freezeTake_repeat {s : State} (h : Holder) (hf : s.frozen = true) :
    s.freezeTake h = { s with freeze := s.freeze.take h }.count Reg.dbgFreezeRepeat 1 := by
  rw [State.freezeTake, if_pos hf]

theorem State.freezeTake_first {s : State} (h : Holder) (hf : s.frozen = false) :
    s.freezeTake h = if h.own then (s.recordFreeze h).freezeSend 1 else s.recordFreeze h := by
  obtain ⟨g, c, hacc⟩ := s.accrue_only s.countingNow
  simp only [State.freezeTake, hf, Bool.false_eq_true, if_false, State.recordFreeze, State.firstFreeze, State.freezeRec,
    hacc]
  rfl

theorem State.recordFreeze_only (s : State) (h : Holder) : ∃ g c t,
    s.recordFreeze h = { s with regs := g, freeCtr := c, traces := t, freeze := s.firstFreeze h } := by
  obtain ⟨_, c, hacc⟩ := s.accrue_only s.countingNow
  obtain ⟨g, t, hrec⟩ := State.traceAll_only State.freezeRec ((List.range 22).filter s.bufferOk)
    { s.accrue s.countingNow with freeze := s.firstFreeze h }
  exact ⟨g, c, t, by rw [State.recordFreeze, hrec, hacc]⟩

theorem State.recordFreeze_room {s : State} (h : Holder) {b : Nat} (hb : s.bufferOk b = true)
    (hkept : (s.buffer b).dropped = 0) (hroom : (s.buffer b).recs.length < 256) :
    ((s.recordFreeze h).buffer b).recs.length = (s.buffer b).recs.length + 1 := by
  have hsame : State.buffer { s.accrue s.countingNow with freeze := s.firstFreeze h } b = s.buffer b := by
    obtain ⟨_, _, hacc⟩ := s.accrue_only s.countingNow
    rw [hacc]; rfl
  have hmem : b ∈ (List.range 22).filter s.bufferOk := List.mem_filter.2 ⟨List.mem_range.2 (State.bufferOk_lt hb), hb⟩
  have hroom' := State.traceAll_room State.freezeRec (List.nodup_range.filter _) hmem
    { s.accrue s.countingNow with freeze := s.firstFreeze h } (by rwa [hsame]) (by rwa [hsame])
  rw [State.recordFreeze, hroom', hsame]

/-- An instruction that takes a holder. -/
theorem State.freezeTake_takes {s a : State} {i : Instr} {h : Holder} (hi : exec i s = .next (a.freezeTake h)) :
    s.TakesHolder a i (a.freeze.take h) h.own := by
  unfold State.TakesHolder
  split
  next hf => rw [hi, State.freezeTake_repeat h hf]
  next hf =>
    have hfirst := State.freezeTake_first h (Bool.eq_false_of_not_eq_true hf)
    obtain ⟨g, c, t, hrec⟩ := a.recordFreeze_only h
    have hqueues : (a.recordFreeze h).QueuesFlits (a.freezeTake h) := by
      rw [hfirst]
      split
      · exact State.freezeSend_queues _ 1
      · exact .refl _
    obtain ⟨l, m, hsent⟩ := hqueues.rest
    have hfreeze : (a.freezeTake h).freeze = a.firstFreeze h := by rw [hsent, hrec]
    refine ⟨_, hi, ?_, fun b hb hkept hroom => ?_, ?_⟩
    · rw [hfreeze]
      cases h <;> rfl
    · rw [← State.recordFreeze_room h hb hkept hroom, hsent]; rfl
    · have hannounced := (a.recordFreeze h).freezeSend_announces h.own 1
      rw [← hfirst, hrec] at hannounced
      rw [hfreeze]
      exact hannounced

/-! ### A freeze ends (R410, R412) -/

/-- From `a`, where holders have been released, to `u`: the freeze goes on with a holder left, and ends with none. -/
def State.EndsFreeze (a u : State) : Prop :=
  if a.frozen = true ∨ a.freeze.copy = none then u = a
  else u = { a with freeze := { a.freeze with copy := none }, links := u.links, meter := u.meter } ∧
    a.AnnouncesFreeze u a.freeze.own 2#8

theorem State.freezeCheck_goesOn {a : State} (h : a.frozen = true ∨ a.freeze.copy = none) : a.freezeCheck = a := by
  have hgo : (a.frozen || a.freeze.copy.isNone) = true := by simpa using h
  rw [State.freezeCheck, if_pos hgo]

theorem State.freezeCheck_over {a : State} (h : ¬ (a.frozen = true ∨ a.freeze.copy = none)) : a.freezeCheck =
    if a.freeze.own then State.freezeSend { a with freeze := { a.freeze with copy := none } } 2
    else { a with freeze := { a.freeze with copy := none } } := by
  have hover : ¬ (a.frozen || a.freeze.copy.isNone) = true := by simpa using h
  rw [State.freezeCheck, if_neg hover]

theorem State.freezeCheck_queues {a : State} (h : ¬ (a.frozen = true ∨ a.freeze.copy = none)) :
    State.QueuesFlits { a with freeze := { a.freeze with copy := none } } a.freezeCheck := by
  rw [State.freezeCheck_over h]
  split
  · exact State.freezeSend_queues _ 2
  · exact .refl _

theorem State.freezeCheck_ends (a : State) : a.EndsFreeze a.freezeCheck := by
  unfold State.EndsFreeze
  split
  next h => exact State.freezeCheck_goesOn h
  next h =>
    obtain ⟨l, m, hsent⟩ := (State.freezeCheck_queues h).rest
    refine ⟨by rw [hsent], ?_⟩
    rw [State.freezeCheck_over h]
    exact State.freezeSend_announces { a with freeze := { a.freeze with copy := none } } a.freeze.own 2

/-- Whether a freeze ends or not, of it only the copy changes, and nothing of the dictionary. -/
theorem State.freezeCheck_keeps (a : State) :
    a.freezeCheck.dict = a.dict ∧ a.freezeCheck.freeze = { a.freeze with copy := a.freezeCheck.freeze.copy } := by
  by_cases h : a.frozen = true ∨ a.freeze.copy = none
  · rw [State.freezeCheck_goesOn h]
    exact ⟨rfl, rfl⟩
  · obtain ⟨l, m, hsent⟩ := (State.freezeCheck_queues h).rest
    rw [hsent]
    exact ⟨rfl, rfl⟩

theorem State.freezeCheck_copy_none {a : State} (h : a.frozen = false) : a.freezeCheck.freeze.copy = none := by
  by_cases hc : a.freeze.copy = none
  · rw [State.freezeCheck_goesOn (.inr hc), hc]
  · obtain ⟨l, m, hsent⟩ := (State.freezeCheck_queues (a := a) (by simp [h, hc])).rest
    rw [hsent]

/-! ### Alarms (R368) -/

theorem State.raise_keeps (s : State) (fn v : Nat) : (s.raise fn v).freeze = s.freeze ∧ (s.raise fn v).dict = s.dict := by
  unfold State.raise
  dsimp only
  split
  · exact ⟨rfl, rfl⟩
  · split
    · exact ⟨rfl, rfl⟩
    · split <;> exact ⟨rfl, rfl⟩

theorem State.alarm_freeze (s : State) (c detail : Nat) (active : Bool) : (s.alarm c detail active).freeze = s.freeze :=
  (State.raise_keeps _ _ _).1

theorem State.alarm_active (s : State) (c detail : Nat) : bitOf (s.alarm c detail true).dict.alarmActive c = true := by
  have hdict : (s.alarm c detail true).dict.alarmActive = setFld s.dict.alarmActive c 1 1 :=
    congrArg Dict.alarmActive (State.raise_keeps _ _ _).2
  rw [hdict, bitOf_setFld_one]; rfl

theorem State.alarmOff_active (s : State) (c : Nat) : bitOf (s.alarmOff c).dict.alarmActive c = false := by
  show bitOf (setFld s.dict.alarmActive c 1 0) c = false
  rw [bitOf_setFld_one]; rfl

/-! ### The instructions -/

/-- A register command of a function that reaches the module. -/
theorem State.Reaches.byFn {s : State} {fn : Nat} (h : s.Reaches fn 0) (may : Bool) (f : State → State) :
    s.byFn fn may f = .next (if may then f s else s.count Reg.dbgBadWrite 1) := by
  obtain ⟨hnumber, hpresent, hbars, hide, hawake⟩ := h
  simp [State.byFn, onUnit, State.posted, hnumber, hpresent, hbars, hide, hawake]

theorem exec_freeze {s : State} {fn : Nat} (h : s.Reaches fn 0) :
    exec (.freeze fn) s = .next (if fn = 0 then s.freezeTake .reg else s.count Reg.dbgBadWrite 1) := by
  show s.byFn fn (fn = 0) (fun s => s.freezeCmd 1) = _
  rw [h.byFn]
  simp [State.freezeCmd]

theorem exec_unfreeze {s : State} {fn : Nat} (h : s.Reaches fn 0) :
    exec (.unfreeze fn) s = .next (if fn = 0 then
        State.freezeCheck { s with freeze := { s.freeze with reg := false, pin := false, group := none } }
      else s.count Reg.dbgBadWrite 1) := by
  show s.byFn fn (fn = 0) (fun s => s.freezeCmd 2) = _
  rw [h.byFn]
  simp [State.freezeCmd]

/-- The pin's last rising edge is less than 10 µs ago. -/
def State.PinBounces (t : State) : Prop := ∃ l, t.freeze.lastRise = some l ∧ t.since l < 10000

/-- The pin's last rising edge is more than 1 s ago. -/
def State.PinStuck (t : State) : Prop := ∃ l, t.freeze.lastRise = some l ∧ 1000000000 < t.since l

/-- The pin has risen. -/
def State.pinUp (t : State) : State := { t with freeze := { t.freeze with high := true, lastRise := some t.time } }

/-- The pin has fallen. -/
def State.pinDown (t : State) : State := { t with freeze := { t.freeze with high := false, masked := false, pin := false } }

/-- The pin is masked. -/
def State.pinMask (t : State) : State := { t with freeze := { t.freeze with masked := true, pin := false } }

section pin
variable {s : State} (hon : s.boot.off = false) (dt : Nat)
include hon

theorem exec_freezeInRise_high (h : s.freeze.high = true) : exec (.freezeInRise dt) s = .next (s.tick dt) := by
  show execFreezeInRise dt s = _
  simp [execFreezeInRise, powered, guarded, hon, h]

theorem exec_freezeInRise_bounce (h : s.freeze.high = false) (hfast : (s.tick dt).PinBounces) :
    exec (.freezeInRise dt) s = .next ((s.tick dt).pinUp.count Reg.dbgFreezeBounce 1) := by
  obtain ⟨l, hl, hlt⟩ := hfast
  rw [State.tick_freeze] at hl
  show execFreezeInRise dt s = _
  simp [execFreezeInRise, powered, guarded, hon, h, hl, hlt, State.pinUp]

theorem exec_freezeInRise_accepted (h : s.freeze.high = false) (hslow : ¬ (s.tick dt).PinBounces) :
    exec (.freezeInRise dt) s = .next ((s.tick dt).pinUp.freezeTake .pin) := by
  show execFreezeInRise dt s = _
  cases hl : s.freeze.lastRise with
  | none => simp [execFreezeInRise, powered, guarded, hon, h, hl, State.pinUp]
  | some l =>
    have hge : ¬ (s.tick dt).since l < 10000 := fun hlt => hslow ⟨l, hl, hlt⟩
    simp [execFreezeInRise, powered, guarded, hon, h, hl, hge, State.pinUp]

theorem exec_freezeInFall_low (h : s.freeze.high = false) : exec (.freezeInFall dt) s = .next (s.tick dt) := by
  show execFreezeInFall dt s = _
  simp [execFreezeInFall, powered, guarded, hon, h]

theorem exec_freezeInFall_high (h : s.freeze.high = true) : exec (.freezeInFall dt) s = .next
    (if s.freeze.masked then (s.tick dt).pinDown.alarmOff 18 else (s.tick dt).pinDown).freezeCheck := by
  show execFreezeInFall dt s = _
  simp only [execFreezeInFall, powered, guarded, hon, h, State.tick_freeze, Bool.false_eq_true, if_false, if_true]
  rfl

theorem exec_freezeInStuck_not (h : s.freeze.high = false ∨ s.freeze.masked = true ∨ ¬ (s.tick dt).PinStuck) :
    exec (.freezeInStuck dt) s = .next (s.tick dt) := by
  show execFreezeInStuck dt s = _
  simp only [execFreezeInStuck, powered, guarded, hon]
  rcases h with h | h | h
  · simp [h]
  · simp [h]
  · cases hl : s.freeze.lastRise with
    | none => simp [hl]
    | some l =>
      have hle : ¬ 1000000000 < (s.tick dt).since l := fun hlt => h ⟨l, hl, hlt⟩
      simp [hl, hle]

theorem exec_freezeInStuck_masks (h : s.freeze.high = true) (hopen : s.freeze.masked = false)
    (hlong : (s.tick dt).PinStuck) :
    exec (.freezeInStuck dt) s = .next ((s.tick dt).pinMask.freezeCheck.alarm 18 0 true) := by
  obtain ⟨l, hl, hlt⟩ := hlong
  rw [State.tick_freeze] at hl
  show execFreezeInStuck dt s = _
  simp [execFreezeInStuck, powered, guarded, hon, h, hopen, hl, hlt, State.pinMask]

theorem exec_groupFreezeMessage {origin id : Nat} (time : Nat) (ho : origin < 64) (hid : id < 2 ^ 32) :
    exec (.groupFreezeMessage origin id time) s = .next
      (if s.entry 0x2300 2 = 1 then
        (if s.freeze.group.isSome then s.count Reg.dbgFreezeRepeat 1 else s.freezeTake (.group origin id))
      else s) := by
  show execGroupFreezeMessage origin id time s = _
  simp only [execGroupFreezeMessage, powered, hon, Nat.mod_eq_of_lt ho, Nat.mod_eq_of_lt hid, Bool.false_eq_true,
    if_false]

theorem exec_groupUnfreezeMessage_none (origin id : Nat) (h : s.freeze.group = none) :
    exec (.groupUnfreezeMessage origin id) s = .next s := by
  show execGroupUnfreezeMessage origin id s = _
  simp [execGroupUnfreezeMessage, powered, hon, h]

theorem exec_groupUnfreezeMessage_some {origin id : Nat} (ho : origin < 64) (hid : id < 2 ^ 32) {h : Nat × Nat}
    (hg : s.freeze.group = some h) : exec (.groupUnfreezeMessage origin id) s = .next
      (if h = (origin, id) then State.freezeCheck { s with freeze := { s.freeze with group := none } }
      else s.count Reg.dbgFreezeRepeat 1) := by
  show execGroupUnfreezeMessage origin id s = _
  simp only [execGroupUnfreezeMessage, powered, hon, hg, Nat.mod_eq_of_lt ho, Nat.mod_eq_of_lt hid, Bool.false_eq_true,
    if_false]

end pin

/-- The fall of a masked pin: its alarm is over, and the freeze ends as after any fall. -/
theorem State.alarmOff_freezeCheck (a : State) (c : Nat) : let u := (a.alarmOff c).freezeCheck
    bitOf u.dict.alarmActive c = false ∧ State.EndsFreeze { a with dict := u.dict } u := by
  intro u
  have hdict : u.dict = (a.alarmOff c).dict := (State.freezeCheck_keeps _).1
  rw [hdict]
  exact ⟨a.alarmOff_active c, (a.alarmOff c).freezeCheck_ends⟩

/-- Masking the pin raises the alarm and releases the pin's holder; a freeze that another holds goes on. -/
theorem State.pinMask_freezeCheck_alarm (t : State) : let u := t.pinMask.freezeCheck.alarm 18 0 true
    u.freeze.masked = true ∧ u.freeze.pin = false ∧ bitOf u.dict.alarmActive 18 = true ∧
      (t.freeze.reg = false → t.freeze.group = none → u.freeze.copy = none) ∧
      (t.freeze.reg = true ∨ t.freeze.group.isSome = true → u.freeze.copy = t.freeze.copy) := by
  intro u
  have hfreeze : u.freeze = t.pinMask.freezeCheck.freeze := State.alarm_freeze _ _ _ _
  have hkeeps := (State.freezeCheck_keeps t.pinMask).2
  refine ⟨by rw [hfreeze, hkeeps]; rfl, by rw [hfreeze, hkeeps]; rfl, State.alarm_active _ _ _, fun hreg hgroup => ?_,
    fun hheld => ?_⟩
  · rw [hfreeze]
    exact State.freezeCheck_copy_none (by simp [State.frozen, State.pinMask, hreg, hgroup])
  · have hfrozen : t.pinMask.frozen = true := by
      simpa [State.frozen, State.pinMask] using hheld
    rw [hfreeze, State.freezeCheck_goesOn (.inl hfrozen)]
    rfl

end Sys2Proof.Machine

open Sys2Proof Sys2Proof.Machine

/-- Settles O53: every clause is `freezeTake` or `freezeCheck`, whose spec lemmas are `freezeTake_takes` and
`freezeCheck_ends`, in the state the instruction gives it, or one of the pin filter's cases. -/
theorem freezeHolders : Obligations.FreezeHolders := by
  unfold Obligations.FreezeHolders
  intro s said held ended
  refine ⟨fun fn hfn => ⟨fun hne => ?_, fun h0 => ?_⟩, fun hon => ⟨fun dt => ?_, fun origin id time ho hid => ?_⟩⟩
  · rw [exec_freeze hfn, exec_unfreeze hfn, if_neg hne, if_neg hne]
    exact ⟨rfl, rfl⟩
  · have hfreeze := exec_freeze hfn
    rw [if_pos h0] at hfreeze
    rw [exec_unfreeze hfn, if_pos h0]
    exact ⟨State.freezeTake_takes hfreeze, _, rfl, State.freezeCheck_ends _⟩
  · refine ⟨exec_freezeInRise_high hon dt, exec_freezeInRise_bounce hon dt,
      fun hlow hslow => State.freezeTake_takes (exec_freezeInRise_accepted hon dt hlow hslow),
      exec_freezeInFall_low hon dt,
      fun hhigh => ⟨_, exec_freezeInFall_high hon dt hhigh, fun hopen => ?_, fun hmasked => ?_⟩,
      exec_freezeInStuck_not hon dt,
      fun hhigh hopen hlong => ⟨_, exec_freezeInStuck_masks hon dt hhigh hopen hlong, State.pinMask_freezeCheck_alarm _⟩⟩
    · rw [hopen, if_neg Bool.false_ne_true]
      exact State.freezeCheck_ends _
    · rw [hmasked, if_pos rfl]
      exact State.alarmOff_freezeCheck _ 18
  · have hmessage := exec_groupFreezeMessage hon time ho hid
    refine ⟨fun hrx => ?_, fun hrx hheld => ?_, fun hrx hfree => ?_, exec_groupUnfreezeMessage_none hon origin id,
      fun h hg hne => ?_, fun hg => ?_⟩
    · rw [hmessage, if_neg hrx]
    · rw [hmessage, if_pos hrx, if_pos hheld]
    · rw [if_pos hrx, hfree] at hmessage
      exact State.freezeTake_takes hmessage
    · rw [exec_groupUnfreezeMessage_some hon ho hid hg, if_neg hne]
    · rw [exec_groupUnfreezeMessage_some hon ho hid hg, if_pos rfl]
      exact ⟨_, rfl, State.freezeCheck_ends _⟩
end
